-- ==== Sys2Proof/Word.lean ====
section
/-!
DEFINITION. The word types of the 4816 model: the byte of the panel link, and the index types of the four numbered
families of units (channels, shed levels, idle timers, auxiliary inputs). Quantities (mV, cA, mAs, ms, s) are `Nat` or
`Int`: the manual computes with exact integers (00_scope.md, "Division and rounding").
-/

namespace Sys2Proof

/-- One byte on the panel link (R165). -/
abbrev Byte := BitVec 8

/-- A channel number 0..15 (00_scope.md, "Channels, timers and inputs"). -/
abbrev Chan := Fin 16

/-- A shed level 0..7; a higher number is a deeper level (R30). -/
abbrev Level := Fin 8

/-- An idle timer number 0..3. -/
abbrev TimerIx := Fin 4

/-- An auxiliary input number, AUX0..AUX3. -/
abbrev AuxIx := Fin 4

/-- Every channel in ascending order. -/
def allChans : List Chan := [0, 1, 2, 3, 4, 5, 6, 7, 8, 9, 10, 11, 12, 13, 14, 15]

/-- Every idle timer in ascending order. -/
def allTimers : List TimerIx := [0, 1, 2, 3]

end Sys2Proof
end

