-- ==== Sys2Proof/Config.lean ====
section
/-!
DEFINITION. What the wiring of one unit fixes: the straps (R169, R194), and the wiring that the model's own reset state
assumes (notes/assumptions/1.md). The manual leaves no computed value open, so the model has no free value.
-/

namespace Sys2Proof

/-- The VSYS strap: the system voltage (R194). -/
inductive SystemVoltage where
  | v12 | v24
deriving DecidableEq, Repr, Inhabited

/-- The CHEM strap: the battery chemistry (R194). -/
inductive Chemistry where
  | lithium | lead
deriving DecidableEq, Repr, Inhabited

/-- The wired configuration inputs, sampled at POWER_ON and at BROWNOUT (R169, R194). -/
structure Straps where
  /-- ADDR0..ADDR4, ADDR0 the least significant bit (R169). -/
  addr : BitVec 5
  vsys : SystemVoltage
  chem : Chemistry
deriving DecidableEq, Repr, Inhabited

/-- DESIGN CHOICE (notes/assumptions/1.md): the straps of the unit whose reset state is `State.reset`: ADDR 1, 12 V,
lithium. The manual gives no strap a default; the command POWER_ON_RESET carries the straps it samples. -/
def Config.resetStraps : Straps := ⟨1, .v12, .lithium⟩

/-- DESIGN CHOICE (notes/assumptions/1.md): the SERVICE input is deasserted at the model's reset. -/
def Config.resetService : Bool := false

end Sys2Proof
end

