-- ==== Sys2Proof/Syntax.lean ====
section
/-!
DEFINITION. The commands of the 4816: one constructor for each of the 66 rows of spec/opcode_table.json, in the table's
order, with the row's operands. The table gives the rows no operand fields; the operands are what the row's rule says
the step takes from outside (a sample's values, a channel, a request's sender and body, the straps).
-/

namespace Sys2Proof

/-- The classification made by the check's test circuit (R135, R136). -/
inductive CheckClass where
  | present | openLoad | shorted
deriving DecidableEq, Repr, Inhabited

/-- What accompanies a request: the panel device that sent it (address 0x40 plus the device number, R168), its tag
(R165), and the level of the SERVICE input at the moment the request is taken (R174). -/
structure Peer where
  panel : Fin 8
  tag : Byte
  service : Bool
deriving DecidableEq, Repr, Inhabited

/-- The commands. A request row carries its body byte for byte, so that omitted fields, short bodies and bytes after the
last field (R176) are all forms of it. Where the row is one value of a body byte (the SWITCH action bit, the CONFIG_READ
section code), the constructor carries the rest of the body. -/
inductive Instr where
  /-- R1: a battery sample, terminal voltage in mV and signed current in cA. -/
  | batterySample (vb i : Int)
  /-- R17: the battery sample at which the rest sync is made. -/
  | restSync (vb i : Int)
  /-- R18: the battery sample at which the full anchor fires. -/
  | fullAnchor (vb i : Int)
  /-- R19: the battery sample at which the empty anchor fires. -/
  | emptyAnchor (vb i : Int)
  /-- R2: a temperature sample with its valid mark. -/
  | temperatureSample (t : Int) (valid : Bool)
  /-- R33: the Level Controller takes the next published reserve update. -/
  | reserveUpdate
  /-- R34: the Level Controller takes the update that completes a deepening dwell. -/
  | deepeningDwellComplete
  /-- R35: the Level Controller takes the update that completes an easing dwell. -/
  | easingDwellComplete
  /-- R41: the sag comparator takes the raw voltage of the next battery sample. -/
  | sagComparatorSample
  /-- R43. -/
  | toleranceTimerExpiry
  /-- R46. -/
  | recoveryTimerExpiry
  /-- R114: a current sample of one channel, in cA. -/
  | channelSample (c : Chan) (m : Nat)
  /-- R119: a load switch reports a short. -/
  | shortReport (c : Chan)
  /-- R124. -/
  | rundownTimeout (c : Chan)
  /-- R116. -/
  | inrushWindowEnd (c : Chan)
  /-- R121. -/
  | retryTimerExpiry (c : Chan)
  /-- R121. -/
  | goodRunTimerExpiry (c : Chan)
  /-- R128. -/
  | offTimerExpiry (c : Chan)
  /-- R128. -/
  | onTimerExpiry (c : Chan)
  /-- R136: the check ends with the test circuit's classification. -/
  | checkTimerExpiry (c : Chan) (r : CheckClass)
  /-- R70. -/
  | excessTimerExpiry
  /-- R80. -/
  | restoreQuietExpiry
  /-- R148. -/
  | idleTimerExpiry (n : TimerIx)
  /-- R140: the raw level of an auxiliary input becomes `level` (true is HIGH). -/
  | auxRawChange (n : AuxIx) (level : Bool)
  /-- R140. -/
  | stabilityPeriodEnd (n : AuxIx)
  /-- R156: the Disconnect Unit takes the next published reserve update. -/
  | disconnectReserveUpdate
  /-- R156: the Disconnect Unit takes the update that completes the isolate dwell. -/
  | isolateDwellComplete
  /-- R159: the Disconnect Unit takes the update that completes the reconnect-charge count. -/
  | reconnectChargeComplete
  /-- R155. -/
  | relayPulseEnd
  /-- R192: the store write completes; `matched` says whether the read-back equals the snapshot. -/
  | storeWriteComplete (matched : Bool)
  /-- R166. -/
  | gapTimerExpiry
  /-- R168: a complete frame arrives that fails one of the three tests. -/
  | frameRejected (frame : List Byte)
  /-- R170. -/
  | replyStart
  /-- R170. -/
  | replyComplete
  /-- R173: a request whose type is not in the catalogue. -/
  | unknownTypeRequest (p : Peer) (ty : Byte) (body : List Byte)
  /-- R187. -/
  | status (p : Peer) (body : List Byte)
  /-- R188. -/
  | channel (p : Peer) (body : List Byte)
  /-- R108. -/
  | standbyPage (p : Peer) (body : List Byte)
  /-- R185. -/
  | notices (p : Peer) (body : List Byte)
  /-- R49: CONFIG_READ, section code 0; `index` is the second body byte. -/
  | configReadChannel (p : Peer) (index : Byte) (extra : List Byte)
  /-- R179: section code 1. -/
  | configReadLevel (p : Peer) (index : Byte) (extra : List Byte)
  /-- R179: section code 2. -/
  | configReadBattery (p : Peer) (index : Byte) (extra : List Byte)
  /-- R179: section code 3. -/
  | configReadOcv (p : Peer) (index : Byte) (extra : List Byte)
  /-- R145: section code 4. -/
  | configReadTimer (p : Peer) (index : Byte) (extra : List Byte)
  /-- R142: section code 5. -/
  | configReadAux (p : Peer) (index : Byte) (extra : List Byte)
  /-- R132: SWITCH with the action bit 1; `flags` is bits 7..1 of the control byte, its bit 0 the forcing bit. -/
  | switchOn (p : Peer) (index : Byte) (flags : BitVec 7) (extra : List Byte)
  /-- R133: SWITCH with the action bit 0. -/
  | switchOff (p : Peer) (index : Byte) (flags : BitVec 7) (extra : List Byte)
  /-- R134. -/
  | clearLockout (p : Peer) (body : List Byte)
  /-- R135. -/
  | check (p : Peer) (body : List Byte)
  /-- R161. -/
  | reconnect (p : Peer) (body : List Byte)
  /-- R198. -/
  | clearCauses (p : Peer) (body : List Byte)
  /-- R58. -/
  | setChannel (p : Peer) (body : List Byte)
  /-- R28. -/
  | setLevel (p : Peer) (body : List Byte)
  /-- R3. -/
  | setBattery (p : Peer) (body : List Byte)
  /-- R14. -/
  | setOcv (p : Peer) (body : List Byte)
  /-- R143. -/
  | setTimer (p : Peer) (body : List Byte)
  /-- R142. -/
  | setAux (p : Peer) (body : List Byte)
  /-- R20. -/
  | setCharge (p : Peer) (body : List Byte)
  /-- R157. -/
  | isolate (p : Peer) (body : List Byte)
  /-- R192. -/
  | save (p : Peer) (body : List Byte)
  /-- R193. -/
  | lockPlan (p : Peer) (body : List Byte)
  /-- R197: the request. -/
  | restart (p : Peer) (body : List Byte)
  /-- R197: the restart that follows the RESTART reply. -/
  | restartReset
  /-- R196: the straps sampled and the SERVICE level at the reset (R193). -/
  | powerOnReset (straps : Straps) (service : Bool)
  /-- R196. -/
  | brownoutReset (straps : Straps)
  /-- R166: a byte on the line, with its framing error if it has one; `service` is the SERVICE level as the byte arrives,
  read when the byte completes a request (R174). -/
  | byteReceived (b : Byte) (framingError : Bool) (service : Bool)
deriving DecidableEq, Repr

end Sys2Proof
end

