-- ==== Sys2Proof/Decode.lean ====
section
/-!
DEFINITION. Reading a command from a word of the opcode table. spec/opcode_table.json gives no row any bits (every row's
list of fields is empty), so no word spells a command; a request reaches the part as bytes on the line, and those are read
by Machine/Link.lean.
-/

namespace Sys2Proof

/-- The command that the `nbits` table bits `w` spell: none, as the table gives no row bits
(DESIGN CHOICE, notes/assumptions/10.md). -/
def decodeTableWord (nbits w : Nat) : Option Instr :=
  match nbits, w with
  | _, _ => none

end Sys2Proof
end

