-- ==== Sys2Proof/Machine/Plan.lean ====
section
/-!
DEFINITION. The plan: every record an installer can set (R190), as plain data. Field order is that of the SET_* bodies.
-/

namespace Sys2Proof.Machine

/-- One channel record of the Load Table (03_the_load_table.md 3.1, R49). -/
structure ChannelRec where
  active : Bool
  rank : Nat
  demand : Nat
  tripLimit : Nat
  surgeLimit : Nat
  /-- In units of 100 ms. -/
  inrush : Nat
  retries : Nat
  /-- In s. -/
  retryDelay : Nat
  /-- In s; 0 means no rundown. -/
  rundownTimeout : Nat
  doneCurrent : Nat
  throttle : Bool
  /-- In s. -/
  onTime : Nat
  /-- In s. -/
  offTime : Nat
  resume : Bool
  /-- In cA; 0 means none. -/
  activityThreshold : Nat
  /-- At most twelve printable characters (R60). -/
  label : List Byte
deriving DecidableEq, Repr, Inhabited

/-- One record of the level table (02 section 2.1). In the record of level 0 only `ceiling` is in use. -/
structure LevelRec where
  /-- E_L, per mille. -/
  enter : Nat
  /-- X_L, per mille. -/
  leave : Nat
  /-- F_L, mV; 0 means unused. -/
  floor : Nat
  /-- D_L, cA. -/
  ceiling : Nat
deriving DecidableEq, Repr, Inhabited

/-- The settings that travel in the level 0 record beside its ceiling (02 section 2.1). -/
structure LevelSettings where
  /-- Hv, mV. -/
  hv : Nat
  /-- In s. -/
  enterDwell : Nat
  /-- In s. -/
  leaveDwell : Nat
  /-- In s. -/
  excessDwell : Nat
  /-- In s. -/
  restoreDwell : Nat
  /-- M, cA. -/
  margin : Nat
  /-- In cA. -/
  passLimit : Nat
deriving DecidableEq, Repr, Inhabited

/-- The level table: eight records and the shared settings (R27). -/
structure LevelTable where
  recs : Vector LevelRec 8
  settings : LevelSettings
deriving DecidableEq, Repr

/-- The battery profile (01 section 1.2), in the order of the SET_BATTERY body. -/
structure Battery where
  /-- C_nom, Ah. -/
  cNom : Nat
  /-- Charge efficiency, per mille. -/
  eta : Nat
  /-- Cold derating k, per mille per degree below 20. -/
  k : Nat
  /-- R_int, milliohm. -/
  rInt : Nat
  vFull : Nat
  vEmpty : Nat
  vCut : Nat
  vSag : Nat
  tailCurrent : Nat
  /-- In s. -/
  tailTime : Nat
  restCurrent : Nat
  /-- In min. -/
  restTime : Nat
  resync : Nat
  rAnchor : Nat
  /-- Hs, mV. -/
  hs : Nat
  /-- In ms. -/
  sagTolerance : Nat
  /-- In s. -/
  sagRecovery : Nat
  /-- In s. -/
  isolateDwell : Nat
  /-- In mV. -/
  reconnectMargin : Nat
  /-- In cA. -/
  reconnectCharge : Nat
deriving DecidableEq, Repr, Inhabited

/-- One point of the OCV table (01 section 1.7): open-circuit voltage in mV and reserve in per mille. -/
structure OcvPoint where
  v : Nat
  r : Nat
deriving DecidableEq, Repr, Inhabited

/-- One idle timer record (07 section 7.2). The flags are held as the body carries them (R181): bit 15 of `members` is
channel 0 and bit 0 is channel 15; `sources` holds AUX0..AUX3 in bits 0..3, PANEL in bit 4 and CURRENT in bit 5. -/
structure TimerRec where
  enabled : Bool
  members : BitVec 16
  sources : BitVec 6
  /-- In min. -/
  terminal : Nat
deriving DecidableEq, Repr, Inhabited

/-- The role of an auxiliary input (R141). -/
inductive AuxRole where
  | none | activity | wake
deriving DecidableEq, Repr, Inhabited

/-- The edge of an auxiliary input (R141). -/
inductive AuxEdge where
  | rise | fall | both
deriving DecidableEq, Repr, Inhabited

/-- One auxiliary input record (R142). -/
structure AuxRec where
  role : AuxRole
  edge : AuxEdge
deriving DecidableEq, Repr, Inhabited

/-- The plan (R190). -/
structure Plan where
  channels : Vector ChannelRec 16
  levels : LevelTable
  battery : Battery
  ocv : Vector OcvPoint 8
  timers : Vector TimerRec 4
  aux : Vector AuxRec 4
  /-- 0..65534 (R190). -/
  generation : Nat
  lock : Bool
  vsys : SystemVoltage
  chem : Chemistry
deriving DecidableEq, Repr

end Sys2Proof.Machine
end

