-- ==== Sys2Proof/Machine/Factory.lean ====
section
/-!
DEFINITION. The factory plan for the straps (R50, R195).
-/

namespace Sys2Proof.Machine

/-- R50: the factory record of every channel. -/
def factoryChannel : ChannelRec where
  active := false
  rank := 8
  demand := 100
  tripLimit := 500
  surgeLimit := 1000
  inrush := 5
  retries := 2
  retryDelay := 10
  rundownTimeout := 0
  doneCurrent := 20
  throttle := false
  onTime := 60
  offTime := 60
  resume := false
  activityThreshold := 0
  label := []

/-- R195: a field in millivolts is doubled in the 24 V plan. -/
def factoryMv (vsys : SystemVoltage) (mv : Nat) : Nat :=
  match vsys with
  | .v12 => mv
  | .v24 => 2 * mv

/-- R195: the value of a field by chemistry. -/
def byChemistry (chem : Chemistry) (lithium lead : Nat) : Nat :=
  match chem with
  | .lithium => lithium
  | .lead => lead

/-- R195: the factory level table. -/
def factoryLevels (vsys : SystemVoltage) (chem : Chemistry) : LevelTable where
  recs := #v[
    ⟨0, 0, 0, 6000⟩,
    ⟨700, 800, 0, 4500⟩,
    ⟨550, 650, 0, 3000⟩,
    ⟨400, 500, 0, 2000⟩,
    ⟨300, 400, 0, 1200⟩,
    ⟨200, 300, factoryMv vsys (byChemistry chem 12700 11900), 800⟩,
    ⟨120, 220, factoryMv vsys (byChemistry chem 12500 11700), 400⟩,
    ⟨60, 160, factoryMv vsys (byChemistry chem 12300 11500), 200⟩]
  settings := ⟨factoryMv vsys 200, 5, 120, 3, 10, 200, 50⟩

/-- R195: the factory battery profile. -/
def factoryBattery (vsys : SystemVoltage) (chem : Chemistry) : Battery where
  cNom := 100
  eta := byChemistry chem 990 900
  k := byChemistry chem 5 8
  rInt := byChemistry chem 10 25
  vFull := factoryMv vsys (byChemistry chem 14000 14200)
  vEmpty := factoryMv vsys (byChemistry chem 12200 11600)
  vCut := factoryMv vsys (byChemistry chem 12000 11400)
  vSag := factoryMv vsys (byChemistry chem 11500 10800)
  tailCurrent := byChemistry chem 200 100
  tailTime := 120
  restCurrent := 30
  restTime := 30
  resync := 100
  rAnchor := 50
  hs := factoryMv vsys 300
  sagTolerance := 2000
  sagRecovery := 30
  isolateDwell := 30
  reconnectMargin := factoryMv vsys 400
  reconnectCharge := 200

/-- R195: the factory OCV table. -/
def factoryOcv (vsys : SystemVoltage) (chem : Chemistry) : Vector OcvPoint 8 :=
  match chem with
  | .lithium => #v[⟨factoryMv vsys 12000, 0⟩, ⟨factoryMv vsys 12800, 50⟩, ⟨factoryMv vsys 13000, 100⟩,
      ⟨factoryMv vsys 13100, 200⟩, ⟨factoryMv vsys 13200, 400⟩, ⟨factoryMv vsys 13300, 700⟩,
      ⟨factoryMv vsys 13350, 900⟩, ⟨factoryMv vsys 13500, 1000⟩]
  | .lead => #v[⟨factoryMv vsys 11600, 0⟩, ⟨factoryMv vsys 11800, 100⟩, ⟨factoryMv vsys 12000, 250⟩,
      ⟨factoryMv vsys 12150, 400⟩, ⟨factoryMv vsys 12300, 550⟩, ⟨factoryMv vsys 12450, 700⟩,
      ⟨factoryMv vsys 12600, 850⟩, ⟨factoryMv vsys 12750, 1000⟩]

/-- R195: disabled, empty sets, 60 min. -/
def factoryTimer : TimerRec := ⟨false, 0, 0, 60⟩

/-- R195: role NONE, edge RISE. -/
def factoryAux : AuxRec := ⟨.none, .rise⟩

/-- R195: the factory plan for the system voltage and chemistry of the straps: generation 0, the lock clear. -/
def factoryPlan (vsys : SystemVoltage) (chem : Chemistry) : Plan where
  channels := Vector.replicate 16 factoryChannel
  levels := factoryLevels vsys chem
  battery := factoryBattery vsys chem
  ocv := factoryOcv vsys chem
  timers := Vector.replicate 4 factoryTimer
  aux := Vector.replicate 4 factoryAux
  generation := 0
  lock := false
  vsys := vsys
  chem := chem

end Sys2Proof.Machine
end

