-- ==== Sys2Proof/Machine/State.lean ====
section
/-!
DEFINITION. The state of the 4816 as plain data, block by block in the order of the manual's block overview, and its
value right after a POWER_ON reset. What the manual says is always equal to its definition (A_c, T, P, D, the switch and
SIG drives, the link address, "waiting for the slot") is computed from this state in Machine/Flags.lean.
-/

namespace Sys2Proof.Machine

/-- A running timer: the length it started with and the time left, both in ms. A stopped timer is `none`. -/
structure Run where
  len : Nat
  left : Nat
deriving DecidableEq, Repr, Inhabited

/-- A timer that is stopped or running with time remaining. -/
abbrev Timer := Option Run

/-! ### Reserve Estimator (01) -/

/-- A reserve update (R23). -/
structure ReserveUpdate where
  r : Nat
  vc : Nat
  vb : Nat
  i : Int
deriving DecidableEq, Repr, Inhabited

/-- The Reserve Estimator's state (01, first table). -/
structure Estimator where
  /-- Q, counted charge, mAs. -/
  q : Nat
  /-- The charge remainder, 0..999. -/
  rem : Nat
  /-- Q_use, mAs. -/
  qUse : Nat
  /-- R, per mille. -/
  r : Nat
  /-- V_c, mV. -/
  vc : Nat
  /-- V_b of the latest battery sample, mV. -/
  vb : Nat
  /-- I of the latest battery sample, cA. -/
  i : Int
  /-- The temperature in use. -/
  temp : Int
  tempValid : Bool
  /-- The sync state: SYNCED. -/
  synced : Bool
  restTimer : Nat
  restMade : Bool
  fullArm : Bool
  tailTimer : Nat
  emptyArm : Bool
  emptyTimer : Nat
  /-- The start sync of R16 is still to be made: no battery sample has been taken since the POWER_ON reset. -/
  startSyncDue : Bool
deriving DecidableEq, Repr, Inhabited

/-- Published reserve updates and raw samples that a block has not taken yet, oldest first (R1 stage I, R23, R41). Each
block takes them as events of its own (R156); DESIGN CHOICE, notes/assumptions/4.md. -/
structure Mail where
  /-- Reserve updates the Level Controller has not taken. -/
  level : List ReserveUpdate
  /-- Reserve updates the Disconnect Unit has not taken. -/
  disconnect : List ReserveUpdate
  /-- V_b of the battery samples the sag comparator has not taken. -/
  sag : List Nat
deriving DecidableEq, Repr, Inhabited

/-! ### Level Controller (02 section 2.2) -/

/-- The pending direction of a dwell (R33). -/
inductive Pending where
  | none | deepen | ease
deriving DecidableEq, Repr, Inhabited

/-- The Level Controller's state. -/
structure LevelCtl where
  current : Level
  pending : Pending
  /-- Reserve updates counted by the pending dwell. -/
  count : Nat
  /-- The last demanded depth (R31). -/
  deep : Level
  /-- The note of R31: the last demanded depth was demanded by reserve. -/
  byReserve : Bool
  /-- The first update after POWER_ON has been taken (R38). -/
  firstTaken : Bool
deriving DecidableEq, Repr, Inhabited

/-! ### Sag Monitor (02 section 2.4) -/

/-- The sag states. -/
inductive SagState where
  | clear | sagging | sagShedding | recovering
deriving DecidableEq, Repr, Inhabited

/-- The Sag Monitor's state. -/
structure SagMon where
  /-- The comparator output is HIGH. -/
  high : Bool
  state : SagState
  tolerance : Timer
  recovery : Timer
  releasePending : Bool
  noReliefReported : Bool
  /-- Sag sheds made so far in the episode (R44, R45). -/
  sheds : Nat
deriving DecidableEq, Repr, Inhabited

/-! ### Channel Controllers (06 section 6.1) -/

/-- The nine channel states (R112). -/
inductive ChState where
  | off | waiting | starting | on | throttled | rundown | tripped | locked | checking
deriving DecidableEq, Repr, Inhabited

/-- The throttle phase. -/
inductive Phase where
  | none | rest | run
deriving DecidableEq, Repr, Inhabited

/-- Why a channel last lost power (R113). -/
inductive Reason where
  | none | panel | idle | shed | sag | trip | short | isolation | restart | deactivated
deriving DecidableEq, Repr, Inhabited

/-- Where a channel in RUNDOWN goes when its rundown ends (R113). -/
inductive Intent where
  | none | off | waitRequest | waitShed | waitSag
deriving DecidableEq, Repr, Inhabited

/-- The last check result (R136). -/
inductive CheckResult where
  | none | present | openLoad | shorted | aborted
deriving DecidableEq, Repr, Inhabited

/-- An inrush window (R116): stopped, running with a length and time left in ms, or (for an inrush time of 0) open until
the channel's next sample. -/
inductive Inrush where
  | stopped
  | timed (run : Run)
  | untilSample
deriving DecidableEq, Repr, Inhabited

/-- One Channel Controller's state. -/
structure Channel where
  state : ChState
  phase : Phase
  unthrottlePending : Bool
  reason : Reason
  intent : Intent
  /-- m_c, the latest channel sample, cA. -/
  m : Nat
  ocStreak : Nat
  doneStreak : Nat
  inrush : Inrush
  offTimer : Timer
  onTimer : Timer
  rundownTimer : Timer
  retryTimer : Timer
  goodRun : Timer
  checkTimer : Timer
  retryCount : Nat
  /-- Uptime at the last entry to STARTING from WAITING (R116). -/
  startTime : Nat
  lastCheck : CheckResult
deriving DecidableEq, Repr, Inhabited

/-- 06 section 6.1, "After POWER_ON". -/
def Channel.initial : Channel where
  state := .off
  phase := .none
  unthrottlePending := false
  reason := .none
  intent := .none
  m := 0
  ocStreak := 0
  doneStreak := 0
  inrush := .stopped
  offTimer := none
  onTimer := none
  rundownTimer := none
  retryTimer := none
  goodRun := none
  checkTimer := none
  retryCount := 0
  startTime := 0
  lastCheck := .none

/-! ### Planner and Start Slot (04) -/

/-- The Planner's own state; its totals are computed (R67). -/
structure Planner where
  excess : Timer
  restoreQuiet : Timer
  overloadReported : Bool
deriving DecidableEq, Repr, Inhabited

/-- The Start Slot (R86): the holder, and the waiting set in order of request. -/
structure Slot where
  holder : Option Chan
  waiting : List Chan
deriving DecidableEq, Repr, Inhabited

/-! ### Standby List (05) -/

/-- The origin of an entry (R94). -/
inductive Origin where
  | request | shed | sag | retry | resume
deriving DecidableEq, Repr, Inhabited

/-- An entry of the Standby List (R94). -/
structure Entry where
  channel : Chan
  origin : Origin
  forced : Bool
  held : Bool
  /-- Uptime in whole seconds. -/
  time : Nat
deriving DecidableEq, Repr, Inhabited

/-- The Standby List: entries in list order, and the list version 0..255 (R109). -/
structure Standby where
  entries : List Entry
  version : Nat
deriving DecidableEq, Repr, Inhabited

/-! ### Idle Timers and Aux Inputs (07) -/

/-- The idle timer states (R144). -/
inductive IdleState where
  | disabled | running | expired
deriving DecidableEq, Repr, Inhabited

/-- One idle timer (07 section 7.3). -/
structure IdleTimer where
  state : IdleState
  /-- Seconds remaining. -/
  count : Nat
deriving DecidableEq, Repr, Inhabited

/-- One auxiliary input (R140). -/
structure AuxInput where
  /-- The raw level of the pin; true is HIGH. -/
  raw : Bool
  /-- The debounced level, `none` while not yet acquired. -/
  level : Option Bool
  stability : Timer
deriving DecidableEq, Repr, Inhabited

/-! ### Disconnect Unit (08) -/

/-- The device state (R154). -/
inductive Device where
  | start | run | isolated
deriving DecidableEq, Repr, Inhabited

/-- The isolation reason (R154). -/
inductive IsoReason where
  | none | lowVoltage | empty | storage | brownout
deriving DecidableEq, Repr, Inhabited

/-- The kind of a relay pulse (R155). -/
inductive PulseKind where
  | openRelay | closeRelay
deriving DecidableEq, Repr, Inhabited

/-- The Disconnect Unit's state. -/
structure Disconnect where
  device : Device
  reason : IsoReason
  isolateCount : Nat
  /-- The isolate dwell, s, read at the update that started the running count (R156). -/
  isolateLen : Nat
  chargeCount : Nat
  /-- V_c of the latest reserve update taken. -/
  vc : Nat
  /-- I of the latest reserve update taken. -/
  i : Int
  /-- The relay pulse in flight: its kind and the ms left. -/
  pulse : Option (PulseKind × Nat)
  /-- The kind of the last relay pulse started, which the latching relay keeps (R155, R158). -/
  lastPulse : PulseKind
  /-- In START: the first reserve update after POWER_ON was taken while the CLOSE pulse was in flight (R154). -/
  entryPending : Bool
deriving DecidableEq, Repr, Inhabited

/-! ### Panel Link (09) -/

/-- The receiver states (R166). -/
inductive RxState where
  | idle | receiving | skip | hold
deriving DecidableEq, Repr, Inhabited

/-- The reply state with the reply frame, byte for byte (R170). -/
inductive Reply where
  | none
  | pending (frame : List Byte)
  | sending (frame : List Byte)
deriving DecidableEq, Repr, Inhabited

/-- The Panel Link's state; the link address is computed from the straps (R169). -/
structure Link where
  rx : RxState
  buffer : List Byte
  gap : Timer
  reply : Reply
deriving DecidableEq, Repr, Inhabited

/-! ### Notice Ring (10) -/

/-- The kinds of notices (10 section 10.1). -/
inductive NoticeKind where
  | levelChange | shed | restore | trip | lockout | rundownTimeout | sagStart | sagClear | sagNoRelief | overload
  | idleOff | sync | isolated | reconnected | reconnectRefused | checkResult | saved | saveFailed | planFactory
  | planMismatch | reset
deriving DecidableEq, Repr, Inhabited

/-- A notice (10 section 10.1). -/
structure Notice where
  kind : NoticeKind
  /-- Uptime at the push, s. -/
  time : Nat
  subject : Option Nat
  a : Nat
  b : Nat
deriving DecidableEq, Repr, Inhabited

/-- The Notice Ring, oldest first (R183). -/
structure Ring where
  notices : List Notice
  lost : Bool
deriving DecidableEq, Repr, Inhabited

/-! ### Plan Store, Start-up and Reset (11) -/

/-- The stored image (R192, R194): its check does not match; its check matches and a coded field of its contents is
outside its codes (a yes/no field, role, edge or source flag); or a plan whose check matches. -/
inductive StoredImage where
  | badCheck
  | badCode
  | plan (p : Plan)
deriving DecidableEq, Repr

/-- The Plan Store beside the working plan. -/
structure Store where
  image : StoredImage
  /-- The store write in flight with its snapshot (R192). -/
  writing : Option Plan
deriving DecidableEq, Repr

/-- The reset-cause set (R198). -/
structure Causes where
  powerOn : Bool
  brownout : Bool
  restart : Bool
deriving DecidableEq, Repr, Inhabited

/-- The Start-up and Reset block. -/
structure Startup where
  straps : Straps
  /-- The SERVICE input as last seen: asserted (R174). -/
  service : Bool
  causes : Causes
  /-- Uptime in whole seconds, 0..4294967295 (R198). -/
  uptime : Nat
  /-- The ms counted toward the next whole second of uptime. -/
  msec : Nat
  /-- A RESTART has been answered OK and is not yet taken (R197). -/
  restartPending : Bool
deriving DecidableEq, Repr, Inhabited

/-! ### The whole machine -/

/-- The state of the 4816, with the queue of the commands that wait, first in, first out. -/
structure State where
  /-- The model's own: the commands that wait, the next one at the head. -/
  pending : List Instr
  est : Estimator
  mail : Mail
  level : LevelCtl
  sag : SagMon
  chans : Vector Channel 16
  planner : Planner
  slot : Slot
  standby : Standby
  idle : Vector IdleTimer 4
  /-- R107 row 1: idle timer and channel of each forced SWITCH ON that was taken ahead of an expiry due at the same moment,
  and reloaded the timer; the expiry still takes the channel's entry when its turn comes. -/
  overtaken : List (TimerIx × Chan)
  aux : Vector AuxInput 4
  disc : Disconnect
  link : Link
  ring : Ring
  plan : Plan
  store : Store
  sys : Startup
deriving DecidableEq, Repr

/-- The faults of the block. There is none: no rule of the manual stops the part, and every command answers a next state
(DEDUCED, notes/assumptions/2.md). -/
inductive Fault where
deriving DecidableEq, Repr

/-- The refusals of the model. -/
inductive Refusal where
  /-- A command that `exec` gives no meaning yet; raised by `exec` alone; safe. No arm raises it. -/
  | notModelled (mnemonic : String)
deriving DecidableEq, Repr

/-- The machine right after a POWER_ON reset (R24, R40, R48, R91, R111, R138, R153, R164, R182, R186, R196) of a unit
wired as Config says, whose store has never been written (notes/assumptions/1.md): the factory plan is loaded, and the
ring holds the RESET and the PLAN_FACTORY notice. -/
def State.reset : State where
  pending := []
  est :=
    { q := 0, rem := 0, qUse := 360000000, r := 0, vc := 0, vb := 0, i := 0, temp := 20, tempValid := false
      synced := false, restTimer := 0, restMade := false, fullArm := false, tailTimer := 0, emptyArm := false
      emptyTimer := 0, startSyncDue := true }
  mail := ⟨[], [], []⟩
  level := { current := 0, pending := .none, count := 0, deep := 0, byReserve := false, firstTaken := false }
  sag :=
    { high := true, state := .clear, tolerance := none, recovery := none, releasePending := false
      noReliefReported := false, sheds := 0 }
  chans := Vector.replicate 16 Channel.initial
  planner := ⟨none, none, false⟩
  slot := ⟨none, []⟩
  standby := ⟨[], 0⟩
  idle := Vector.replicate 4 ⟨.disabled, 0⟩
  overtaken := []
  aux := Vector.replicate 4 ⟨false, none, some ⟨50, 50⟩⟩
  disc :=
    { device := .start, reason := .none, isolateCount := 0, isolateLen := 0, chargeCount := 0, vc := 0, i := 0
      pulse := some (.closeRelay, 50), lastPulse := .closeRelay, entryPending := false }
  link := { rx := .skip, buffer := [], gap := some ⟨10, 10⟩, reply := .none }
  ring := ⟨[⟨.reset, 0, none, 1, 1⟩, ⟨.planFactory, 0, none, 1, 0⟩], false⟩
  plan := factoryPlan Config.resetStraps.vsys Config.resetStraps.chem
  store := ⟨.badCheck, none⟩
  sys :=
    { straps := Config.resetStraps, service := Config.resetService, causes := ⟨true, false, false⟩, uptime := 0
      msec := 0, restartPending := false }

end Sys2Proof.Machine
end

