-- ==== Sys2Proof/Machine/Ops.lean ====
section
/-!
DEFINITION. The named operations every block uses: timers, the one read and the one write of a channel, an idle timer
and an auxiliary input, and the push of a notice (R184).
-/

namespace Sys2Proof.Machine

/-- A timer started with `ms` milliseconds. -/
def Timer.ms (ms : Nat) : Timer := some ⟨ms, ms⟩

/-- A timer started with `s` seconds. -/
def Timer.s (s : Nat) : Timer := Timer.ms (s * 1000)

/-- The time left of a timer in ms, 0 when it is stopped. -/
def Timer.left (t : Timer) : Nat :=
  match t with
  | none => 0
  | some r => r.left

/-- The time a timer has run in ms, 0 when it is stopped. -/
def Timer.elapsed (t : Timer) : Nat :=
  match t with
  | none => 0
  | some r => r.len - r.left

/-- Time left in whole seconds rounded up (R113). -/
def Timer.secondsLeft (t : Timer) : Nat := (t.left + 999) / 1000

/-- The inrush window opened by a record's inrush time (R54, R116). -/
def Inrush.opened (units : Nat) : Inrush :=
  if units = 0 then .untilSample else .timed ⟨units * 100, units * 100⟩

/-- The window is running. -/
def Inrush.isOpen (w : Inrush) : Bool :=
  match w with
  | .stopped => false
  | .timed _ => true
  | .untilSample => true

/-- The Channel Controller's state of channel `c`. -/
def State.chan (s : State) (c : Chan) : Channel := s.chans[c]

/-- The Load Table's record of channel `c` as it stands (R49). -/
def State.crec (s : State) (c : Chan) : ChannelRec := s.plan.channels[c]

/-- The rank of channel `c` as it stands (R51). -/
def State.rank (s : State) (c : Chan) : Nat := (s.crec c).rank

/-- The one write of a channel's state. -/
def State.setChan (s : State) (c : Chan) (ch : Channel) : State := { s with chans := s.chans.set c ch }

/-- Every channel's state replaced by a function of its number and its state. -/
def State.mapChans (s : State) (f : Chan → Channel → Channel) : State :=
  { s with chans := Vector.ofFn fun c => f c s.chans[c] }

/-- The one write of an idle timer's state. -/
def State.setIdle (s : State) (n : TimerIx) (t : IdleTimer) : State := { s with idle := s.idle.set n t }

/-- The one write of the overtaken expiries (R107). -/
def State.setOvertaken (s : State) (l : List (TimerIx × Chan)) : State := { s with overtaken := l }

/-- No expiry of timer `n` is overtaken any more. -/
def State.dropOvertaken (s : State) (n : TimerIx) : State := s.setOvertaken (s.overtaken.filter fun x => x.1 ≠ n)

/-- The one write of an auxiliary input's state. -/
def State.setAuxIn (s : State) (n : AuxIx) (a : AuxInput) : State := { s with aux := s.aux.set n a }

/-- The Start Slot with a new holder. -/
def State.setHolder (s : State) (h : Option Chan) : State := { s with slot := { s.slot with holder := h } }

/-- R86, R88: channel `c` releases the Start Slot when it holds it. -/
def State.releaseSlot (s : State) (c : Chan) : State :=
  if s.slot.holder = some c then s.setHolder none else s

/-- R89: channel `c` leaves the waiting set, which closes up behind it. -/
def State.leaveWaiting (s : State) (c : Chan) : State :=
  { s with slot := { s.slot with waiting := s.slot.waiting.filter (fun d => d ≠ c) } }

/-- R184: a push into the ring: a full ring of 32 first drops its head and sets the lost flag. -/
def Ring.push (g : Ring) (n : Notice) : Ring :=
  if 32 ≤ g.notices.length then ⟨g.notices.drop 1 ++ [n], true⟩ else ⟨g.notices ++ [n], g.lost⟩

/-- R184: a block pushes a notice, stamped with the uptime. -/
def State.push (s : State) (kind : NoticeKind) (subject : Option Nat) (a b : Nat) : State :=
  { s with ring := s.ring.push ⟨kind, s.sys.uptime, subject, a, b⟩ }

/-- R184: several notices in order. -/
def State.pushAll (s : State) : List (NoticeKind × Option Nat × Nat × Nat) → State
  | [] => s
  | (k, j, a, b) :: rest => (s.push k j a b).pushAll rest

end Sys2Proof.Machine
end

