-- ==== Sys2Proof/Machine/Flags.lean ====
section
/-!
DEFINITION. What the manual fixes by definition from the state: switch and SIG drives (R112, R115), accounted loads and
totals (R67), the ceiling (R30), the link address (R169), dwell and timer times shown to the panel, the codes of 09
section 9.6, and the summary byte (R171).
-/

namespace Sys2Proof.Machine

/-! ### Switch, SIG and accounted load -/

/-- R112: the switch is closed only in STARTING, ON, RUNDOWN and the RUN phase of THROTTLED. -/
def Channel.closed (ch : Channel) : Bool :=
  match ch.state with
  | .starting => true
  | .on => true
  | .rundown => true
  | .throttled => ch.phase = .run
  | .off => false
  | .waiting => false
  | .tripped => false
  | .locked => false
  | .checking => false

/-- R56: a rundown is configured when the rundown timeout is not 0. -/
def ChannelRec.rundownConfigured (r : ChannelRec) : Bool := r.rundownTimeout ≠ 0

/-- OUTc: the load switch drive of channel `c` (R112). -/
def State.out (s : State) (c : Chan) : Bool := (s.chan c).closed

/-- SIGc (R56, R115): asserted while the switch is closed and the channel is not in RUNDOWN, where a rundown is
configured. A throttled channel has none configured (R57), so its SIG is deasserted in both phases (R112). -/
def State.sig (s : State) (c : Chan) : Bool :=
  (s.crec c).rundownConfigured && (s.chan c).closed && ((s.chan c).state ≠ .rundown)

/-- R52: d × on time / (on time + off time), rounded up. -/
def ChannelRec.dutyLoad (r : ChannelRec) : Nat :=
  (r.demand * r.onTime + (r.onTime + r.offTime) - 1) / (r.onTime + r.offTime)

/-- A_c: the accounted load a channel state has under a record (R67, R112). -/
def accountedOf (r : ChannelRec) (ch : Channel) : Nat :=
  match ch.state with
  | .starting => r.demand
  | .on => ch.m
  | .rundown => ch.m
  | .throttled => r.dutyLoad
  | .off => 0
  | .waiting => 0
  | .tripped => 0
  | .locked => 0
  | .checking => 0

/-- The part of A_c that stands in the projected total: 0 in RUNDOWN (R67). -/
def projectedOf (r : ChannelRec) (ch : Channel) : Nat :=
  if ch.state = .rundown then 0 else accountedOf r ch

/-- A_c of channel `c` (R67). -/
def State.accounted (s : State) (c : Chan) : Nat := accountedOf (s.crec c) (s.chan c)

/-- The part of A_c that stands in P. -/
def State.projected (s : State) (c : Chan) : Nat := projectedOf (s.crec c) (s.chan c)

/-- T, the total accounted load (R67). -/
def State.totalT (s : State) : Nat := (allChans.map s.accounted).sum

/-- P, the projected total: T less the channels in RUNDOWN (R67). -/
def State.totalP (s : State) : Nat := (allChans.map s.projected).sum

/-- Every channel's A_c and its part in P: what the Planner watches for a change (R68; DEDUCED, notes/assumptions/8.md). -/
def State.loads (s : State) : List (Nat × Nat) := allChans.map fun c => (s.accounted c, s.projected c)

/-- D, the ceiling in force: D_C of the current level (R30, R67). -/
def State.ceiling (s : State) : Nat := s.plan.levels.recs[s.level.current].ceiling

/-- "waiting for the slot" of channel `c` (06 section 6.1): it stands in the Start Slot's waiting set. -/
def State.waitsForSlot (s : State) (c : Chan) : Bool := s.slot.waiting.contains c

/-- R80 condition 4 and R88: the sag states in which a throttled channel may be served. -/
def SagState.servesSlot (g : SagState) : Bool := g = .clear || g = .recovering

/-! ### Times shown to the panel -/

/-- R30: the dwell remaining in whole seconds rounded up. -/
def State.dwellRemaining (s : State) : Nat :=
  match s.level.pending with
  | .none => 0
  | .deepen => (s.plan.levels.settings.enterDwell * 10 - s.level.count + 9) / 10
  | .ease => (s.plan.levels.settings.leaveDwell * 10 - s.level.count + 9) / 10

/-- R113: the time remaining of the one timer the state runs. -/
def State.timeRemaining (s : State) (c : Chan) : Nat :=
  let ch := s.chan c
  match ch.state with
  | .throttled =>
    if s.waitsForSlot c then 0
    else if ch.phase = .run then Timer.secondsLeft ch.onTimer else Timer.secondsLeft ch.offTimer
  | .rundown => Timer.secondsLeft ch.rundownTimer
  | .tripped => Timer.secondsLeft ch.retryTimer
  | .off => 0
  | .waiting => 0
  | .starting => 0
  | .on => 0
  | .locked => 0
  | .checking => 0

/-! ### Straps -/

/-- R169: the link address from ADDR0..ADDR4; 0 gives address 1. -/
def linkAddress (p : Straps) : Byte := if p.addr = 0 then 1 else p.addr.setWidth 8

/-- The lower end of the strap range of voltage fields (R194). -/
def strapLow (v : SystemVoltage) : Nat :=
  match v with
  | .v12 => 9000
  | .v24 => 18000

/-- The upper end of the strap range of voltage fields (R194). -/
def strapHigh (v : SystemVoltage) : Nat :=
  match v with
  | .v12 => 16000
  | .v24 => 32000

/-- A voltage lies in the strap range (R194). -/
def inStrapRange (v : SystemVoltage) (mv : Nat) : Bool := strapLow v ≤ mv && mv ≤ strapHigh v

/-- R194: the system code of a voltage and a chemistry. -/
def systemCode (v : SystemVoltage) (c : Chemistry) : Nat :=
  match c, v with
  | .lithium, .v12 => 0
  | .lithium, .v24 => 1
  | .lead, .v12 => 2
  | .lead, .v24 => 3

/-! ### Codes (R154, R178, 09 section 9.6) -/

/-- START 0, RUN 1, ISOLATED 2 (R154). -/
def Device.code (d : Device) : Nat :=
  match d with
  | .start => 0
  | .run => 1
  | .isolated => 2

/-- NONE 0, LOW_VOLTAGE 1, EMPTY 2, STORAGE 3, BROWNOUT 4 (R154). -/
def IsoReason.code (r : IsoReason) : Nat :=
  match r with
  | .none => 0
  | .lowVoltage => 1
  | .empty => 2
  | .storage => 3
  | .brownout => 4

/-- NONE 0, DEEPEN 1, EASE 2 (R178). -/
def Pending.code (p : Pending) : Nat :=
  match p with
  | .none => 0
  | .deepen => 1
  | .ease => 2

/-- CLEAR 0, SAGGING 1, SAG_SHEDDING 2, RECOVERING 3 (R178). -/
def SagState.code (g : SagState) : Nat :=
  match g with
  | .clear => 0
  | .sagging => 1
  | .sagShedding => 2
  | .recovering => 3

/-- The channel state codes. -/
def ChState.code (c : ChState) : Nat :=
  match c with
  | .off => 0
  | .waiting => 1
  | .starting => 2
  | .on => 3
  | .throttled => 4
  | .rundown => 5
  | .tripped => 6
  | .locked => 7
  | .checking => 8

/-- NONE 0, REST 1, RUN 2 (R178). -/
def Phase.code (p : Phase) : Nat :=
  match p with
  | .none => 0
  | .rest => 1
  | .run => 2

/-- The reason codes. -/
def Reason.code (r : Reason) : Nat :=
  match r with
  | .none => 0
  | .panel => 1
  | .idle => 2
  | .shed => 3
  | .sag => 4
  | .trip => 5
  | .short => 6
  | .isolation => 7
  | .restart => 8
  | .deactivated => 9

/-- The intent codes. -/
def Intent.code (i : Intent) : Nat :=
  match i with
  | .none => 0
  | .off => 1
  | .waitRequest => 2
  | .waitShed => 3
  | .waitSag => 4

/-- The origin codes. -/
def Origin.code (o : Origin) : Nat :=
  match o with
  | .request => 1
  | .shed => 2
  | .sag => 3
  | .retry => 4
  | .resume => 5

/-- The last check result codes. -/
def CheckResult.code (r : CheckResult) : Nat :=
  match r with
  | .none => 0
  | .present => 1
  | .openLoad => 2
  | .shorted => 3
  | .aborted => 4

/-- R136: the test circuit's classification as a check result. -/
def checkResultOf (r : CheckClass) : CheckResult :=
  match r with
  | .present => .present
  | .openLoad => .openLoad
  | .shorted => .shorted

/-- DISABLED 0, RUNNING 1, EXPIRED 2 (R179). -/
def IdleState.code (i : IdleState) : Nat :=
  match i with
  | .disabled => 0
  | .running => 1
  | .expired => 2

/-- NONE 0, ACTIVITY 1, WAKE 2. -/
def AuxRole.code (r : AuxRole) : Nat :=
  match r with
  | .none => 0
  | .activity => 1
  | .wake => 2

/-- RISE 0, FALL 1, BOTH 2. -/
def AuxEdge.code (e : AuxEdge) : Nat :=
  match e with
  | .rise => 0
  | .fall => 1
  | .both => 2

/-- The notice kind codes. -/
def NoticeKind.code (k : NoticeKind) : Nat :=
  match k with
  | .levelChange => 0x01
  | .shed => 0x02
  | .restore => 0x03
  | .trip => 0x04
  | .lockout => 0x05
  | .rundownTimeout => 0x06
  | .sagStart => 0x07
  | .sagClear => 0x08
  | .sagNoRelief => 0x09
  | .overload => 0x0A
  | .idleOff => 0x0B
  | .sync => 0x0C
  | .isolated => 0x0D
  | .reconnected => 0x0E
  | .reconnectRefused => 0x0F
  | .checkResult => 0x10
  | .saved => 0x11
  | .saveFailed => 0x12
  | .planFactory => 0x13
  | .planMismatch => 0x14
  | .reset => 0x15

/-- The reset-cause set: bit 0 POWER_ON, bit 1 BROWNOUT, bit 2 RESTART (R178, R198). -/
def Causes.code (c : Causes) : Nat :=
  (if c.powerOn then 1 else 0) + (if c.brownout then 2 else 0) + (if c.restart then 4 else 0)

/-- The yes/no encoding 0 or 1. -/
def yesNo (b : Bool) : Nat := if b then 1 else 0

/-- R140: an input that is not yet acquired is reported LOW. -/
def AuxInput.reported (a : AuxInput) : Bool := a.level.getD false

/-- R171: the summary byte: level in bits 0..2, device state in bits 3..4, attention in bit 7. -/
def State.summary (s : State) : Byte :=
  BitVec.ofNat 8 (s.level.current.val + 8 * s.disc.device.code + (if s.ring.notices.isEmpty then 0 else 128))

end Sys2Proof.Machine
end

