-- ==== Sys2Proof/Machine/Operands.lean ====
section
/-!
DEFINITION. The operand forms of the panel link: big-endian numbers, the 16-bit check (R167), the fields of a body with
omitted, cut and surplus bytes (R176), the clamping of range tables, and every record in the field order of its SET_* body
(R181, 09 section 9.6) and of its CONFIG_READ reply (R179).
-/

namespace Sys2Proof.Machine

/-! ### Numbers on the link (most significant byte first, 00_scope.md "Numbers on the link") -/

/-- A number of two bytes. -/
def u16 (n : Nat) : List Byte := [BitVec.ofNat 8 (n / 256), BitVec.ofNat 8 n]

/-- A number of one byte. -/
def u8 (n : Nat) : List Byte := [BitVec.ofNat 8 n]

/-- A number of four bytes. -/
def u32 (n : Nat) : List Byte :=
  [BitVec.ofNat 8 (n / 16777216), BitVec.ofNat 8 (n / 65536), BitVec.ofNat 8 (n / 256), BitVec.ofNat 8 n]

/-- A signed number of two bytes, two's complement. -/
def i16 (i : Int) : List Byte := u16 (BitVec.ofInt 16 i).toNat

/-- A signed number of one byte, two's complement. -/
def i8 (i : Int) : List Byte := [BitVec.ofInt 8 i]

/-- The number that bytes spell, most significant first. -/
def beNat (bytes : List Byte) : Nat := bytes.foldl (fun acc b => acc * 256 + b.toNat) 0

/-! ### The check (R167) -/

/-- R167: one of the eight shifts. -/
def crcShift (reg : BitVec 16) : BitVec 16 :=
  if reg.msb then (reg <<< 1) ^^^ 0x1021#16 else reg <<< 1

/-- R167: `n` shifts. -/
def crcShifts : Nat → BitVec 16 → BitVec 16
  | 0, reg => reg
  | n + 1, reg => crcShifts n (crcShift reg)

/-- R167: one byte, combined into the high eight bits and shifted eight times. -/
def crcByte (reg : BitVec 16) (b : Byte) : BitVec 16 :=
  crcShifts 8 (reg ^^^ (b.setWidth 16 <<< 8))

/-- R167: the check over bytes, from 0xFFFF. -/
def crc (bytes : List Byte) : BitVec 16 := bytes.foldl crcByte 0xFFFF#16

/-! ### Bodies -/

/-- R176: the values of the whole fields, of the given widths in bytes, that a body holds; `none` when the body ends
inside a field. Bytes after the last field are ignored. -/
def takeFields : List Nat → List Byte → Option (List Nat)
  | [], _ => some []
  | w :: ws, body =>
    if body.isEmpty then some []
    else if body.length < w then none
    else (takeFields ws (body.drop w)).map (beNat (body.take w) :: ·)

/-- What is left of a body after fields of the given widths. -/
def afterFields (widths : List Nat) (body : List Byte) : List Byte := body.drop widths.sum

/-- A value moved to the nearer end of its range. -/
def clamp (lo hi n : Nat) : Nat := max lo (min hi n)

/-- A value clamped to a signed range. -/
def clampInt (lo hi i : Int) : Int := max lo (min hi i)

/-! ### Records as fields -/

/-- The field widths of a channel record before its label (R181, 09 section 9.6). -/
def channelWidths : List Nat := [1, 1, 2, 2, 2, 1, 1, 1, 2, 2, 1, 1, 1, 1, 2]

/-- The field widths of the record of levels 1..7. -/
def levelWidths : List Nat := [2, 2, 2, 2]

/-- The field widths of the record of level 0. -/
def level0Widths : List Nat := [2, 2, 1, 2, 1, 1, 2, 2]

/-- The field widths of the battery profile. -/
def batteryWidths : List Nat := [2, 2, 1, 1, 2, 2, 2, 2, 2, 2, 2, 1, 2, 1, 2, 2, 2, 2, 2, 2]

/-- The field widths of one OCV point: the point counts as one field of four bytes (R176). -/
def ocvWidths : List Nat := [4, 4, 4, 4, 4, 4, 4, 4]

/-- The field widths of an idle timer record. -/
def timerWidths : List Nat := [1, 2, 1, 2]

/-- The field widths of an auxiliary input record. -/
def auxWidths : List Nat := [1, 1]

/-- R60: a printable character. -/
def printable (b : Byte) : Bool := 0x20 ≤ b.toNat && b.toNat ≤ 0x7E

/-- R60, R176: the label field of a body: absent (`some none`), present and whole, or cut (`none`). A length above 12 is
returned as a label that `validChannel` refuses. -/
def takeLabel (rest : List Byte) : Option (Option (List Byte)) :=
  match rest with
  | [] => some none
  | l :: chars => if chars.length < l.toNat then none else some (some (chars.take l.toNat))

/-- A channel record as sent, with its yes/no fields still numbers (R58 step 4). -/
structure RawChannel where
  active : Nat
  throttle : Nat
  resume : Nat
  fields : ChannelRec
deriving DecidableEq, Repr

/-- R58 step 3: the clamped fields of a record at the nearer end of their ranges. The surge limit is clamped above 2500
only (R53). -/
def clampChannel (r : ChannelRec) : ChannelRec :=
  { r with
    demand := clamp 1 2500 r.demand
    tripLimit := clamp 10 2500 r.tripLimit
    surgeLimit := min 2500 r.surgeLimit
    inrush := min 50 r.inrush
    retries := min 7 r.retries
    retryDelay := clamp 1 255 r.retryDelay
    rundownTimeout := min 600 r.rundownTimeout
    doneCurrent := min 2500 r.doneCurrent
    onTime := clamp 1 255 r.onTime
    offTime := clamp 1 255 r.offTime
    activityThreshold := min 2500 r.activityThreshold }

/-- R194: the checks on a record of a stored image, less the yes/no codes. The label is not among them
(notes/assumptions/11.md). -/
def validRecord (r : ChannelRec) : Bool :=
  r.rank ≤ 15 && r.tripLimit ≤ r.surgeLimit && !(r.rundownTimeout ≠ 0 && r.throttle)

/-- R60: a label of at most twelve printable characters. -/
def validLabel (label : List Byte) : Bool := label.length ≤ 12 && label.all printable

/-- R58 step 4: the checks on a resulting record, less the yes/no codes. -/
def validChannel (r : ChannelRec) : Bool := validRecord r && validLabel r.label

/-- R58 steps 2 and 3: the record that a SET_CHANNEL body (after its index) makes of the current one; `none` when the
body ends inside a field. -/
def channelFromBody (cur : ChannelRec) (body : List Byte) : Option RawChannel :=
  match takeFields channelWidths body, takeLabel (afterFields channelWidths body) with
  | some f, some lab =>
    let active := f.getD 0 (yesNo cur.active)
    let throttle := f.getD 10 (yesNo cur.throttle)
    let resume := f.getD 13 (yesNo cur.resume)
    some
      { active := active
        throttle := throttle
        resume := resume
        fields := clampChannel
          { active := active ≠ 0
            rank := f.getD 1 cur.rank
            demand := f.getD 2 cur.demand
            tripLimit := f.getD 3 cur.tripLimit
            surgeLimit := f.getD 4 cur.surgeLimit
            inrush := f.getD 5 cur.inrush
            retries := f.getD 6 cur.retries
            retryDelay := f.getD 7 cur.retryDelay
            rundownTimeout := f.getD 8 cur.rundownTimeout
            doneCurrent := f.getD 9 cur.doneCurrent
            throttle := throttle ≠ 0
            onTime := f.getD 11 cur.onTime
            offTime := f.getD 12 cur.offTime
            resume := resume ≠ 0
            activityThreshold := f.getD 14 cur.activityThreshold
            label := lab.getD cur.label } }
  | some _, none => none
  | none, _ => none

/-- R58 step 4: the record a body makes passes every check, its yes/no fields being 0 or 1. -/
def RawChannel.valid (r : RawChannel) : Bool :=
  r.active ≤ 1 && r.throttle ≤ 1 && r.resume ≤ 1 && validChannel r.fields

/-- R49: a channel record as CONFIG_READ returns it. -/
def ChannelRec.bytes (r : ChannelRec) : List Byte :=
  u8 (yesNo r.active) ++ u8 r.rank ++ u16 r.demand ++ u16 r.tripLimit ++ u16 r.surgeLimit ++ u8 r.inrush
    ++ u8 r.retries ++ u8 r.retryDelay ++ u16 r.rundownTimeout ++ u16 r.doneCurrent ++ u8 (yesNo r.throttle)
    ++ u8 r.onTime ++ u8 r.offTime ++ u8 (yesNo r.resume) ++ u16 r.activityThreshold ++ u8 r.label.length ++ r.label

/-- R28: the clamped fields of the level 0 record. -/
def clampSettings (x : LevelSettings) : LevelSettings where
  hv := clamp 50 1000 x.hv
  enterDwell := min 60 x.enterDwell
  leaveDwell := clamp 10 3600 x.leaveDwell
  excessDwell := min 30 x.excessDwell
  restoreDwell := clamp 1 120 x.restoreDwell
  margin := min 2000 x.margin
  passLimit := min 500 x.passLimit

/-- R28 steps 1 and 2: the table that a SET_LEVEL body (after its index) makes of the current one. -/
def levelsFromBody (cur : LevelTable) (l : Level) (body : List Byte) : Option LevelTable :=
  if l = 0 then
    (takeFields level0Widths body).map fun f =>
      { recs := cur.recs.set 0 { cur.recs[0] with ceiling := f.getD 0 cur.recs[0].ceiling }
        settings := clampSettings
          { hv := f.getD 1 cur.settings.hv
            enterDwell := f.getD 2 cur.settings.enterDwell
            leaveDwell := f.getD 3 cur.settings.leaveDwell
            excessDwell := f.getD 4 cur.settings.excessDwell
            restoreDwell := f.getD 5 cur.settings.restoreDwell
            margin := f.getD 6 cur.settings.margin
            passLimit := f.getD 7 cur.settings.passLimit } }
  else
    (takeFields levelWidths body).map fun f =>
      { recs := cur.recs.set l
          { enter := f.getD 0 cur.recs[l].enter
            leave := f.getD 1 cur.recs[l].leave
            floor := f.getD 2 cur.recs[l].floor
            ceiling := f.getD 3 cur.recs[l].ceiling }
        settings := cur.settings }

/-- R179: a level record as CONFIG_READ returns it. -/
def LevelTable.bytes (t : LevelTable) (l : Level) : List Byte :=
  if l = 0 then
    u16 t.recs[0].ceiling ++ u16 t.settings.hv ++ u8 t.settings.enterDwell ++ u16 t.settings.leaveDwell
      ++ u8 t.settings.excessDwell ++ u8 t.settings.restoreDwell ++ u16 t.settings.margin ++ u16 t.settings.passLimit
  else
    u16 t.recs[l].enter ++ u16 t.recs[l].leave ++ u16 t.recs[l].floor ++ u16 t.recs[l].ceiling

/-- Every value is below the one before it. -/
def strictlyFalling : List Nat → Bool
  | a :: b :: rest => b < a && strictlyFalling (b :: rest)
  | [_] => true
  | [] => true

/-- No value is above the one before it. -/
def neverRising : List Nat → Bool
  | a :: b :: rest => b ≤ a && neverRising (b :: rest)
  | [_] => true
  | [] => true

/-- R27: the five conditions on the level table, with the ranges of 02 section 2.1. -/
def validLevels (v : SystemVoltage) (t : LevelTable) : Bool :=
  let deep := t.recs.toList.drop 1
  let floors := (deep.map (·.floor)).filter (· ≠ 0)
  strictlyFalling (deep.map (·.enter))
    && deep.all (fun r => r.enter < r.leave && r.leave ≤ 1000)
    && neverRising floors
    && neverRising (t.recs.toList.map (·.ceiling))
    && t.recs.toList.all (fun r => r.ceiling ≤ 40000)
    && floors.all (inStrapRange v)

/-- R3 step 2: the clamped fields of the battery profile. -/
def clampBattery (b : Battery) : Battery :=
  { b with
    eta := clamp 800 1000 b.eta
    k := min 20 b.k
    rInt := min 200 b.rInt
    tailCurrent := clamp 10 2000 b.tailCurrent
    tailTime := clamp 10 600 b.tailTime
    restCurrent := clamp 5 500 b.restCurrent
    restTime := clamp 5 240 b.restTime
    resync := clamp 10 500 b.resync
    rAnchor := min 200 b.rAnchor
    hs := clamp 50 1000 b.hs
    sagTolerance := clamp 200 5000 b.sagTolerance
    sagRecovery := clamp 5 600 b.sagRecovery
    isolateDwell := clamp 10 300 b.isolateDwell
    reconnectMargin := clamp 100 2000 b.reconnectMargin
    reconnectCharge := clamp 50 5000 b.reconnectCharge }

/-- R3 step 3: the checks on the resulting profile. -/
def validBattery (v : SystemVoltage) (b : Battery) : Bool :=
  10 ≤ b.cNom && b.cNom ≤ 1000
    && inStrapRange v b.vFull && inStrapRange v b.vEmpty && inStrapRange v b.vCut && inStrapRange v b.vSag
    && b.vSag < b.vCut && b.vCut < b.vEmpty && b.vEmpty < b.vFull

/-- R3 steps 1 and 2: the profile that a SET_BATTERY body (after the generation) makes of the current one. -/
def batteryFromBody (cur : Battery) (body : List Byte) : Option Battery :=
  (takeFields batteryWidths body).map fun f =>
    clampBattery
      { cNom := f.getD 0 cur.cNom
        eta := f.getD 1 cur.eta
        k := f.getD 2 cur.k
        rInt := f.getD 3 cur.rInt
        vFull := f.getD 4 cur.vFull
        vEmpty := f.getD 5 cur.vEmpty
        vCut := f.getD 6 cur.vCut
        vSag := f.getD 7 cur.vSag
        tailCurrent := f.getD 8 cur.tailCurrent
        tailTime := f.getD 9 cur.tailTime
        restCurrent := f.getD 10 cur.restCurrent
        restTime := f.getD 11 cur.restTime
        resync := f.getD 12 cur.resync
        rAnchor := f.getD 13 cur.rAnchor
        hs := f.getD 14 cur.hs
        sagTolerance := f.getD 15 cur.sagTolerance
        sagRecovery := f.getD 16 cur.sagRecovery
        isolateDwell := f.getD 17 cur.isolateDwell
        reconnectMargin := f.getD 18 cur.reconnectMargin
        reconnectCharge := f.getD 19 cur.reconnectCharge }

/-- R179: the battery profile as CONFIG_READ returns it. -/
def Battery.bytes (b : Battery) : List Byte :=
  u16 b.cNom ++ u16 b.eta ++ u8 b.k ++ u8 b.rInt ++ u16 b.vFull ++ u16 b.vEmpty ++ u16 b.vCut ++ u16 b.vSag
    ++ u16 b.tailCurrent ++ u16 b.tailTime ++ u16 b.restCurrent ++ u8 b.restTime ++ u16 b.resync ++ u8 b.rAnchor
    ++ u16 b.hs ++ u16 b.sagTolerance ++ u16 b.sagRecovery ++ u16 b.isolateDwell ++ u16 b.reconnectMargin
    ++ u16 b.reconnectCharge

/-- R14, R181: the table that a SET_OCV body (after the generation) makes of the current one. -/
def ocvFromBody (cur : Vector OcvPoint 8) (body : List Byte) : Option (Vector OcvPoint 8) :=
  (takeFields ocvWidths body).map fun f =>
    Vector.ofFn fun n : Fin 8 =>
      match f[n.val]? with
      | some x => ⟨x / 65536, x % 65536⟩
      | none => cur[n]

/-- Every value is above the one before it. -/
def strictlyRising : List Nat → Bool
  | a :: b :: rest => a < b && strictlyRising (b :: rest)
  | [_] => true
  | [] => true

/-- No value is below the one before it. -/
def neverFalling : List Nat → Bool
  | a :: b :: rest => a ≤ b && neverFalling (b :: rest)
  | [_] => true
  | [] => true

/-- R14: the conditions on the OCV table. -/
def validOcv (v : SystemVoltage) (t : Vector OcvPoint 8) : Bool :=
  t.toList.all (fun p => inStrapRange v p.v && p.r ≤ 1000)
    && strictlyRising (t.toList.map (·.v)) && neverFalling (t.toList.map (·.r))

/-- R179: the OCV points as CONFIG_READ returns them. -/
def ocvBytes (t : Vector OcvPoint 8) : List Byte := t.toList.flatMap fun p => u16 p.v ++ u16 p.r

/-- R143: an idle timer record as sent, with its enabled field and source flags still numbers. -/
structure RawTimer where
  enabled : Nat
  members : Nat
  sources : Nat
  terminal : Nat
deriving DecidableEq, Repr

/-- R143 steps 2 and 3: the record that a SET_TIMER body (after its index) makes of the current one. -/
def timerFromBody (cur : TimerRec) (body : List Byte) : Option RawTimer :=
  (takeFields timerWidths body).map fun f =>
    { enabled := f.getD 0 (yesNo cur.enabled)
      members := f.getD 1 cur.members.toNat
      sources := f.getD 2 cur.sources.toNat
      terminal := clamp 1 1440 (f.getD 3 cur.terminal) }

/-- R143 step 4. -/
def RawTimer.valid (r : RawTimer) : Bool := r.enabled ≤ 1 && r.sources < 64

/-- The record of a valid `RawTimer`. -/
def RawTimer.toRec (r : RawTimer) : TimerRec :=
  ⟨r.enabled ≠ 0, BitVec.ofNat 16 r.members, BitVec.ofNat 6 r.sources, r.terminal⟩

/-- R145: an idle timer record as CONFIG_READ returns it. -/
def TimerRec.bytes (r : TimerRec) : List Byte :=
  u8 (yesNo r.enabled) ++ u16 r.members.toNat ++ u8 r.sources.toNat ++ u16 r.terminal

/-- R181: channel `c` is in the member set: the first byte holds channels 0 to 7 from bit 7 down to bit 0, the second
channels 8 to 15 in the same way. -/
def TimerRec.isMember (r : TimerRec) (c : Chan) : Bool := r.members.getMsbD c

/-- R181: AUXn is in the source set. -/
def TimerRec.hasAux (r : TimerRec) (n : AuxIx) : Bool := r.sources.getLsbD n

/-- R181: PANEL is in the source set. -/
def TimerRec.hasPanel (r : TimerRec) : Bool := r.sources.getLsbD 4

/-- R181: CURRENT is in the source set. -/
def TimerRec.hasCurrent (r : TimerRec) : Bool := r.sources.getLsbD 5

/-- R142: the role a code names. -/
def auxRoleOf (n : Nat) : Option AuxRole :=
  match n with
  | 0 => some .none
  | 1 => some .activity
  | 2 => some .wake
  | _ => none

/-- R142: the edge a code names. -/
def auxEdgeOf (n : Nat) : Option AuxEdge :=
  match n with
  | 0 => some .rise
  | 1 => some .fall
  | 2 => some .both
  | _ => none

/-- R142: the record that a SET_AUX body (after its index) makes of the current one; `none` when it is refused. -/
def auxFromBody (cur : AuxRec) (body : List Byte) : Option AuxRec :=
  match takeFields auxWidths body with
  | none => none
  | some f =>
    match auxRoleOf (f.getD 0 cur.role.code), auxEdgeOf (f.getD 1 cur.edge.code) with
    | some r, some e => some ⟨r, e⟩
    | some _, none => none
    | none, _ => none

/-- R142: an auxiliary input record as CONFIG_READ returns it. -/
def AuxRec.bytes (r : AuxRec) : List Byte := u8 r.role.code ++ u8 r.edge.code

/-- R180: the control byte of SWITCH from its bits 7..1 and its action bit. -/
def controlByte (flags : BitVec 7) (action : Bool) : Byte := flags ++ BitVec.ofBool action

end Sys2Proof.Machine
end

