-- ==== Sys2Proof/Machine/Standby.lean ====
section
/-!
DEFINITION. The Standby List (05): its order, insertion, forcing, repositioning, release of held entries and removal.
-/

namespace Sys2Proof.Machine

/-- R96 rows 3 to 5: by rank, then entry time, then channel number. -/
def Entry.rankBefore (rank : Chan → Nat) (a b : Entry) : Bool :=
  if rank a.channel ≠ rank b.channel then rank b.channel < rank a.channel
  else if a.time ≠ b.time then a.time < b.time
  else a.channel < b.channel

/-- R96: entry `a` stands before entry `b`. -/
def Entry.before (rank : Chan → Nat) (a b : Entry) : Bool :=
  if a.forced ≠ b.forced then a.forced
  else if a.forced && a.time ≠ b.time then a.time < b.time
  else Entry.rankBefore rank a b

/-- R97: an entry placed at the position its key gives it. -/
def placeEntry (rank : Chan → Nat) (e : Entry) : List Entry → List Entry
  | [] => [e]
  | x :: xs => if Entry.before rank e x then e :: x :: xs else x :: placeEntry rank e xs

/-- R97: entries placed in list order, each at the position its key gives it. -/
def sortEntries (rank : Chan → Nat) : List Entry → List Entry
  | [] => []
  | x :: xs => placeEntry rank x (sortEntries rank xs)

/-- R109: the list version increases by one, from 255 to 0. -/
def nextVersion (v : Nat) : Nat := (v + 1) % 256

/-- New entries as one change of the list (R109). -/
def State.setEntries (s : State) (es : List Entry) : State :=
  { s with standby := ⟨es, nextVersion s.standby.version⟩ }

/-- The entry of channel `c`, when it has one. -/
def State.entry? (s : State) (c : Chan) : Option Entry := s.standby.entries.find? (fun e => e.channel = c)

/-- R97: the position of channel `c`'s entry, counted from 1; 0 when it has none. -/
def State.position (s : State) (c : Chan) : Nat :=
  match s.standby.entries.findIdx? (fun e => e.channel = c) with
  | some i => i + 1
  | none => 0

/-- R98, R99: an entry is created; an entry of origin SAG is held when release pending is yes. -/
def State.insertEntry (s : State) (c : Chan) (origin : Origin) (forced : Bool) : State :=
  let e : Entry := ⟨c, origin, forced, origin = .sag && s.sag.releasePending, s.sys.uptime⟩
  s.setEntries (placeEntry s.rank e s.standby.entries)

/-- R104, R105: the entry of channel `c` is removed; an event that leaves the list as it was does not change its version
(R109). -/
def State.removeEntry (s : State) (c : Chan) : State :=
  if s.standby.entries.any (fun e => e.channel = c) then
    s.setEntries (s.standby.entries.filter (fun e => e.channel ≠ c))
  else s

/-- R101: the entry of channel `c` is forced and moves to its position; a forced entry is left as it is. -/
def State.forceEntry (s : State) (c : Chan) : State :=
  match s.entry? c with
  | none => s
  | some e =>
    if e.forced then s
    else s.setEntries (placeEntry s.rank { e with forced := true } (s.standby.entries.filter (fun x => x.channel ≠ c)))

/-- R102: the entry of channel `c` moves to the position its new rank gives it. -/
def State.repositionEntry (s : State) (c : Chan) : State :=
  match s.entry? c with
  | none => s
  | some e => s.setEntries (placeEntry s.rank e (s.standby.entries.filter (fun x => x.channel ≠ c)))

/-- R103: the held flag of every held entry is cleared; the version changes when a flag changed. -/
def State.releaseHeld (s : State) : State :=
  if s.standby.entries.any (·.held) then s.setEntries (s.standby.entries.map fun e => { e with held := false }) else s

/-- R106: the list is emptied; the version changes when it held an entry. -/
def State.emptyStandby (s : State) : State :=
  if s.standby.entries.isEmpty then s else s.setEntries []

/-- R97: the unheld entries in list order. -/
def State.unheld (s : State) : List Entry := s.standby.entries.filter (fun e => !e.held)

/-- R100: channel `c` gets a RESUME entry: active, OFF, and essential or set to resume. -/
def State.resumes (s : State) (c : Chan) : Bool :=
  (s.crec c).active && (s.chan c).state = .off && (s.rank c = 0 || (s.crec c).resume)

/-- R100: the RESUME event: every such channel enters WAITING in one event and one change of the list. -/
def State.resumeAll (s : State) : State :=
  let cs := allChans.filter s.resumes
  if cs.isEmpty then s
  else
    let es := cs.map fun c => ({ channel := c, origin := .resume, forced := false, held := false, time := s.sys.uptime } : Entry)
    (s.mapChans fun c ch => if s.resumes c then { ch with state := .waiting } else ch).setEntries
      (es.foldl (fun acc e => placeEntry s.rank e acc) s.standby.entries)

end Sys2Proof.Machine
end

