-- ==== Sys2Proof/Machine/Channels.lean ====
section
/-!
DEFINITION. What happens to one channel (06): the cut, the switch closings, rundown, trip, throttle and unthrottle, and the
off requests of the panel and the idle timers. The Planner's re-evaluation and the slot's service that follow an event are
in Machine/Planner.lean.
-/

namespace Sys2Proof.Machine

/-! ### The cut and the departures -/

/-- R131: what a cut does to the channel's own items: the switch opens, the inrush window, the phase timers and the
good-run timer stop, the streak and the throttle flags are cleared. -/
def Channel.cut (ch : Channel) : Channel :=
  { ch with phase := .none, unthrottlePending := false, ocStreak := 0, inrush := .stopped, offTimer := none
            onTimer := none, goodRun := none }

/-- R131: a cut of channel `c` into state `st`: the channel's own items, the Start Slot released when held, the waiting
set left. -/
def State.cutTo (s : State) (c : Chan) (st : ChState) (reason : Reason) : State :=
  ((s.setChan c { (s.chan c).cut with state := st, reason := reason }).releaseSlot c).leaveWaiting c

/-- R131: cut and WAITING with an entry of the given origin, unforced (R98). -/
def State.cutToWaiting (s : State) (c : Chan) (origin : Origin) (reason : Reason) : State :=
  (s.cutTo c .waiting reason).insertEntry c origin false

/-- R123: the entry to RUNDOWN from ON. -/
def State.enterRundown (s : State) (c : Chan) (reason : Reason) (intent : Intent) : State :=
  s.setChan c { s.chan c with state := .rundown, reason := reason, intent := intent, doneStreak := 0, goodRun := none
                              rundownTimer := Timer.s (s.crec c).rundownTimeout }

/-- R124: the origin an intent WAIT(x) makes. -/
def Intent.origin? (i : Intent) : Option Origin :=
  match i with
  | .none => Option.none
  | .off => Option.none
  | .waitRequest => some .request
  | .waitShed => some .shed
  | .waitSag => some .sag

/-- R124: the end of a rundown: the switch opens, and the channel goes by its intent. -/
def State.endRundown (s : State) (c : Chan) : State :=
  let ch := s.chan c
  let ch' := { ch with intent := .none, doneStreak := 0, ocStreak := 0, rundownTimer := none }
  match ch.intent.origin? with
  | none => s.setChan c { ch' with state := .off }
  | some o => (s.setChan c { ch' with state := .waiting }).insertEntry c o false

/-- R118 value A: TRIP 1, SHORT 2. -/
def tripCode (reason : Reason) : Nat := if reason = .short then 2 else 1

/-- R118, R120: a trip of a channel whose switch is closed, with its notices and the retry decision. The Planner, which R118
names at step 4, re-evaluates once when all the steps are done, so its notices stand behind TRIP and LOCKOUT (DESIGN CHOICE,
notes/assumptions/9.md). -/
def State.trip (s : State) (c : Chan) (reason : Reason) : State :=
  let r := s.crec c
  let count := (s.chan c).retryCount + 1
  let ch := { (s.chan c).cut with reason := reason, intent := .none, doneStreak := 0, rundownTimer := none
                                  retryCount := count }
  if count ≤ r.retries then
    ((s.setChan c { ch with state := .tripped, retryTimer := Timer.s r.retryDelay }).releaseSlot c).push
      .trip (some c) (tripCode reason) count
  else
    (((s.setChan c { ch with state := .locked }).releaseSlot c).push .trip (some c) (tripCode reason) count).push
      .lockout (some c) count r.retries

/-! ### Switch closings -/

/-- R116: what every closing of the switch into an inrush window does: the streak 0 and a window of the record's length. -/
def Channel.close (ch : Channel) (r : ChannelRec) : Channel :=
  { ch with ocStreak := 0, inrush := Inrush.opened r.inrush }

/-- R116, R84: an admission: the channel takes the Start Slot, its entry is removed, the start time is recorded. -/
def State.startFromWaiting (s : State) (c : Chan) : State :=
  ((s.setChan c { (s.chan c).close (s.crec c) with state := .starting, startTime := s.sys.uptime }).setHolder
    (some c)).removeEntry c

/-- R129, R130: a throttled channel in REST that is unthrottled takes the slot and enters STARTING; its start time is
kept. -/
def State.startFromRest (s : State) (c : Chan) : State :=
  ((s.setChan c { (s.chan c).close (s.crec c) with state := .starting, phase := .none, unthrottlePending := false
                                                   offTimer := none }).setHolder (some c)).leaveWaiting c

/-- R128: a throttled channel's RUN phase begins: the slot taken, the switch closed, the on timer started. -/
def State.startRun (s : State) (c : Chan) : State :=
  ((s.setChan c { (s.chan c).close (s.crec c) with phase := .run, offTimer := none
                                                   onTimer := Timer.s (s.crec c).onTime }).setHolder
    (some c)).leaveWaiting c

/-- R87, R88: the slot is granted to a throttled channel in REST: STARTING when it has been unthrottled, its RUN phase
otherwise. -/
def State.grantSlot (s : State) (c : Chan) : State :=
  if (s.chan c).unthrottlePending then s.startFromRest c else s.startRun c

/-- R87: a throttled channel in REST asks for the Start Slot: granted at once, or it joins the end of the waiting set,
where it stands at most once. -/
def State.askSlot (s : State) (c : Chan) : State :=
  if s.slot.holder = none && s.slot.waiting.isEmpty && s.sag.state.servesSlot then s.grantSlot c
  else if s.slot.waiting.contains c then s
  else { s with slot := { s.slot with waiting := s.slot.waiting ++ [c] } }

/-- R116: the entry to ON from STARTING or from the RUN phase: the good-run timer is started (R121). -/
def Channel.toOn (ch : Channel) : Channel :=
  { ch with state := .on, phase := .none, unthrottlePending := false, onTimer := none, goodRun := Timer.s 60 }

/-- R116, R128: the end of an inrush window by expiry or by its sample: the slot is released; a STARTING channel becomes
ON. -/
def State.endWindow (s : State) (c : Chan) : State :=
  let ch := { s.chan c with inrush := .stopped }
  (s.setChan c (if ch.state = .starting then ch.toOn else ch)).releaseSlot c

/-- R127: a throttle of an ON channel: its REST phase begins. -/
def State.throttle (s : State) (c : Chan) : State :=
  s.setChan c { (s.chan c).cut with state := .throttled, phase := .rest, offTimer := Timer.s (s.crec c).offTime }

/-- R128: the end of a RUN phase: the switch opens, a window still running ends and its slot is released, and the off
timer starts. -/
def State.endRun (s : State) (c : Chan) : State :=
  (s.setChan c { s.chan c with phase := .rest, ocStreak := 0, inrush := .stopped, onTimer := none
                               offTimer := Timer.s (s.crec c).offTime }).releaseSlot c

/-- R129: the Planner's unthrottle: ON at once from RUN, through STARTING from REST. -/
def State.unthrottle (s : State) (c : Chan) : State :=
  if (s.chan c).phase = .run then s.setChan c (s.chan c).toOn else s.startFromRest c

/-- R130: an edit's unthrottle, in any part of a phase. -/
def State.editUnthrottle (s : State) (c : Chan) : State :=
  let ch := s.chan c
  if ch.phase = .run then
    if ch.inrush.isOpen then s.setChan c { ch with state := .starting, phase := .none, onTimer := none }
    else s.setChan c ch.toOn
  else (s.setChan c { ch with unthrottlePending := true, offTimer := none }).askSlot c

/-! ### Requests that take power away -/

/-- R131: the off request of an expiring idle timer. -/
def State.idleOff (s : State) (c : Chan) : State :=
  match (s.chan c).state with
  | .on => if (s.crec c).rundownConfigured then s.enterRundown c .idle .off else s.cutTo c .off .idle
  | .starting => s.cutTo c .off .idle
  | .throttled => s.cutTo c .off .idle
  | .waiting => (s.cutTo c .off .idle).removeEntry c
  | .off => s
  | .rundown => s
  | .tripped => s
  | .locked => s
  | .checking => s

/-- R148: the states in which a member counts as affected. -/
def ChState.idleAffected (st : ChState) : Bool :=
  match st with
  | .on => true
  | .starting => true
  | .throttled => true
  | .waiting => true
  | .off => false
  | .rundown => false
  | .tripped => false
  | .locked => false
  | .checking => false

/-- R133: SWITCH OFF by the channel's state. -/
def State.switchOff (s : State) (c : Chan) : State :=
  match (s.chan c).state with
  | .waiting => (s.cutTo c .off .panel).removeEntry c
  | .starting => s.cutTo c .off .panel
  | .on => if (s.crec c).rundownConfigured then s.enterRundown c .panel .off else s.cutTo c .off .panel
  | .throttled => s.cutTo c .off .panel
  | .rundown => s.setChan c { s.chan c with intent := .off, reason := .panel }
  | .tripped => s.setChan c { s.chan c with state := .off, reason := .panel, retryTimer := none }
  | .off => s
  | .locked => s
  | .checking => s

/-- R131: a Planner shed (origin SHED) or sag shed (origin SAG) of a candidate: an ON channel with a rundown configured
runs down with the intent, every other is cut to WAITING. -/
def State.shedChannel (s : State) (c : Chan) (origin : Origin) (reason : Reason) (intent : Intent) : State :=
  if (s.chan c).state = .on && (s.crec c).rundownConfigured then s.enterRundown c reason intent
  else s.cutToWaiting c origin reason

/-! ### Isolation -/

/-- R137, R138, R139: a channel cut at once without rundown, whatever it was doing: OFF with every timer stopped, the
intent NONE and the streaks 0; a check in flight is recorded ABORTED. The last sample, the retry count and the start time
are kept. -/
def Channel.stopped (ch : Channel) (reason : Reason) : Channel :=
  { ch.cut with
    state := .off, reason := reason, intent := .none, doneStreak := 0, rundownTimer := none, retryTimer := none
    checkTimer := none, lastCheck := if ch.state = .checking then .aborted else ch.lastCheck }

/-- R137: what the isolation makes of a channel: LOCKED stays, every other ends OFF with reason ISOLATION. -/
def Channel.isolated (ch : Channel) : Channel := if ch.state = .locked then ch else ch.stopped .isolation

/-- R136: the CHECK_RESULT notices of the checks that are abandoned, by ascending channel number. -/
def State.abortNotices (s : State) (cs : List Chan) : List (NoticeKind × Option Nat × Nat × Nat) :=
  (cs.filter fun c => (s.chan c).state = .checking).map fun c =>
    (.checkResult, some c.val, 4, Timer.elapsed (s.chan c).checkTimer)

end Sys2Proof.Machine
end

