-- ==== Sys2Proof/Machine/Planner.lean ====
section
/-!
DEFINITION. The Planner and the Start Slot (04): choice of candidates, the shed pass, the sag shed, admission, pass-by and
unthrottling, the re-evaluation, and what follows an event (the slot's service and one re-evaluation).
-/

namespace Sys2Proof.Machine

/-! ### Choices among channels -/

/-- R73: channel `a` is taken before channel `b`: the lower rank, then the later start time, then the higher number. -/
def State.shedBefore (s : State) (a b : Chan) : Bool :=
  if s.rank a ≠ s.rank b then s.rank a < s.rank b
  else if (s.chan a).startTime ≠ (s.chan b).startTime then (s.chan b).startTime < (s.chan a).startTime
  else b < a

/-- The first channel of a list in an order: a later one replaces it only when it stands before it. -/
def pickFirst (before : Chan → Chan → Bool) : List Chan → Option Chan
  | [] => none
  | c :: cs =>
    match pickFirst before cs with
    | none => some c
    | some d => if before d c then some d else some c

/-- R72: a shed candidate: ON, STARTING or THROTTLED in either phase, of rank at least 1. -/
def State.isShedCandidate (s : State) (c : Chan) : Bool :=
  ((s.chan c).state = .on || (s.chan c).state = .starting || (s.chan c).state = .throttled) && s.rank c ≠ 0

/-- R78: a sag candidate: ON, STARTING or the RUN phase of THROTTLED, of rank at least 1. -/
def State.isSagCandidate (s : State) (c : Chan) : Bool :=
  ((s.chan c).state = .on || (s.chan c).state = .starting
    || ((s.chan c).state = .throttled && (s.chan c).phase = .run)) && s.rank c ≠ 0

/-- R72, R73: the candidate of the next step of a shed pass. -/
def State.shedCandidate (s : State) : Option Chan := pickFirst s.shedBefore (allChans.filter s.isShedCandidate)

/-- R78: the sag candidate. -/
def State.sagCandidate (s : State) : Option Chan := pickFirst s.shedBefore (allChans.filter s.isSagCandidate)

/-- R73, R82: the throttled channel to unthrottle: the reverse of the shed order. -/
def State.bestThrottled (s : State) : Option Chan :=
  pickFirst (fun a b => s.shedBefore b a) (allChans.filter fun c => (s.chan c).state = .throttled)

/-- R88 step 2: of two waiting channels, `a` has the strictly higher rank. -/
def State.servedBefore (s : State) (a b : Chan) : Bool := s.rank b < s.rank a

/-- R88 step 2: the waiting channel the slot is granted to: the highest rank, then the first to join. -/
def State.nextServed (s : State) : Option Chan := pickFirst s.servedBefore s.slot.waiting

/-! ### Timers of the Planner -/

/-- R80: the restore-quiet timer is started afresh with the restore dwell. -/
def State.startQuiet (s : State) : State :=
  { s with planner := { s.planner with restoreQuiet := Timer.s s.plan.levels.settings.restoreDwell } }

/-- R70: the excess timer is stopped. -/
def State.stopExcess (s : State) : State := { s with planner := { s.planner with excess := none } }

/-- R70: the excess timer is started with the excess dwell. -/
def State.startExcess (s : State) : State :=
  { s with planner := { s.planner with excess := Timer.s s.plan.levels.settings.excessDwell } }

/-- R76: the overload flag. -/
def State.setOverload (s : State) (b : Bool) : State :=
  { s with planner := { s.planner with overloadReported := b } }

/-! ### The shed pass (R72 to R76) -/

/-- R74, R75: one step on candidate `c`: throttle or shed, the SHED notice with P after the step, and the restore-quiet
timer. -/
def State.shedStep (s : State) (c : Chan) : State :=
  if (s.chan c).state = .on && (s.crec c).throttle then
    let s' := s.throttle c
    (s'.push .shed (some c) 1 s'.totalP).startQuiet
  else
    let s' := s.shedChannel c .shed .shed .waitShed
    (s'.push .shed (some c) 2 s'.totalP).startQuiet

/-- R76: the end of a pass: an overload is reported once. -/
def State.endPass (s : State) : State :=
  if s.ceiling < s.totalP && !s.planner.overloadReported then
    (s.push .overload none s.totalP s.ceiling).setOverload true
  else s

/-- R72: a shed pass of at most `n` steps. -/
def State.shedPass : Nat → State → State
  | 0, s => s.endPass
  | n + 1, s =>
    if s.totalP ≤ s.ceiling then s
    else
      match s.shedCandidate with
      | none => s.endPass
      | some c => State.shedPass n (s.shedStep c)

/-- R72: a pass over sixteen channels makes at most thirty-two steps. -/
def passSteps : Nat := 32

/-! ### Admission and unthrottling (R80 to R84) -/

/-- R80: the five conditions of stage D. -/
def State.mayAdmit (s : State) : Bool :=
  s.disc.device = .run && s.slot.holder = none && s.slot.waiting.isEmpty && s.totalP ≤ s.ceiling
    && s.sag.state = .clear && s.planner.restoreQuiet = none

/-- R82: a contender of the given need fits: P + need ≤ D − M. -/
def State.fits (s : State) (need : Nat) : Bool :=
  s.totalP + need + s.plan.levels.settings.margin ≤ s.ceiling

/-- A contender of an admission (R81). -/
inductive Contender where
  | entry (e : Entry)
  | throttled (c : Chan)
deriving DecidableEq, Repr

/-- R81: the first choice, from the first unheld entry and the highest-ranked throttled channel. -/
def State.firstChoice (s : State) : Option Contender :=
  match s.unheld.head?, s.bestThrottled with
  | none, none => none
  | some e, none => some (.entry e)
  | none, some c => some (.throttled c)
  | some e, some c =>
    if e.forced || s.rank c < s.rank e.channel then some (.entry e) else some (.throttled c)

/-- R82: the need of a contender. -/
def State.need (s : State) (x : Contender) : Nat :=
  match x with
  | .entry e => (s.crec e.channel).demand
  | .throttled c => (s.crec c).demand - s.accounted c

/-- R83: the unheld entries that stand after the first choice. -/
def State.behind (s : State) (x : Contender) : List Entry :=
  match x with
  | .entry _ => s.unheld.drop 1
  | .throttled _ => s.unheld

/-- R83: an entry that may pass by: its demand at or below the pass limit, and it fits. -/
def State.passesBy (s : State) (e : Entry) : Bool :=
  (s.crec e.channel).demand ≤ s.plan.levels.settings.passLimit && s.fits (s.crec e.channel).demand

/-- R84: an admission with its RESTORE notice; value A is ADMIT 1 or PASS_BY 2. -/
def State.admitEntry (s : State) (c : Chan) (kind : Nat) : State :=
  let s' := s.startFromWaiting c
  s'.push .restore (some c) kind s'.totalP

/-- R84: the Planner's unthrottle with its RESTORE notice, value A UNTHROTTLE 3. -/
def State.unthrottleChoice (s : State) (c : Chan) : State :=
  let s' := s.unthrottle c
  s'.push .restore (some c) 3 s'.totalP

/-- Stage D of a re-evaluation (R80 to R84), applied again after an unthrottle in the RUN phase; `n` bounds the rounds. -/
def State.admission : Nat → State → State
  | 0, s => s
  | n + 1, s =>
    if s.mayAdmit then
      match s.firstChoice with
      | none => s
      | some x =>
        if s.fits (s.need x) then
          match x with
          | .entry e => s.admitEntry e.channel 1
          | .throttled c => State.admission n (s.unthrottleChoice c)
        else
          match (s.behind x).find? s.passesBy with
          | none => s
          | some e => s.admitEntry e.channel 2
    else s

/-- Rounds of stage D: each unthrottle takes one of sixteen channels out of THROTTLED. -/
def admissionRounds : Nat := 17

/-! ### The re-evaluation (R69) -/

/-- What calls for a re-evaluation: an ordinary event, the expiry of the excess timer (R70), or a level change (R71). -/
inductive Call where
  | ordinary | expiry | levelChange
deriving DecidableEq, Repr

/-- Stage B (R70, R71). An excess dwell of 0 starts a timer that expires at once. -/
def State.stageB (s : State) (call : Call) : State :=
  match call with
  | .ordinary =>
    if s.totalP ≤ s.ceiling then s.stopExcess
    else if s.planner.excess.isSome then s
    else if s.plan.levels.settings.excessDwell = 0 then s.shedPass passSteps
    else s.startExcess
  | .expiry => s.stopExcess.shedPass passSteps
  | .levelChange => s.stopExcess.shedPass passSteps

/-- Stage C (R69, R76). -/
def State.stageC (s : State) : State := if s.totalP ≤ s.ceiling then s.setOverload false else s

/-- R68, R69: a re-evaluation, made in RUN only. -/
def State.reevaluate (s : State) (call : Call) : State :=
  if s.disc.device = .run then (s.stageB call).stageC.admission admissionRounds else s

/-! ### What follows an event: the slot's service and the Planner's re-evaluation -/

/-- R88: the service of the waiting set. -/
def State.serveSlot (s : State) : State :=
  if s.slot.holder = none && s.sag.state.servesSlot then
    match s.nextServed with
    | none => s
    | some c => s.grantSlot c
  else s

/-- The slot was held before and is free now. -/
def freed (before now : State) : Bool := before.slot.holder.isSome && now.slot.holder.isNone

/-- R89: the waiting set has been emptied, and the slot has no holder. -/
def emptiedFree (before now : State) : Bool :=
  !before.slot.waiting.isEmpty && now.slot.waiting.isEmpty && now.slot.holder.isNone

/-- R77, R88, R89: the Start Slot acts when a re-evaluation has ended that freed it, or whose shed pass took the last waiting
channel of a free slot. -/
def slotActs (before now : State) : Bool := freed before now || emptiedFree before now

/-- R68, R77, R88, R89: the service of the slot, then a re-evaluation when one is called for or the service changed an
accounted load; a slot freed by that re-evaluation is handed on when it has ended, and a slot freed with the waiting set
empty, or a free slot whose waiting set it emptied, makes a further re-evaluation. Each round after the first serves one of
at most sixteen waiting channels or is the last; `n` bounds the rounds. -/
def State.settle : Nat → Bool → State → State
  | 0, _, s => s
  | n + 1, need, s =>
    let s1 := s.serveSlot
    if need || s.loads ≠ s1.loads then
      let s2 := s1.reevaluate .ordinary
      if slotActs s1 s2 then State.settle n s2.slot.waiting.isEmpty s2 else s2
    else s1

/-- The bound on the rounds of `State.settle`. -/
def settleRounds : Nat := 20

/-- A re-evaluation of the given kind, after which the Start Slot acts (R77, R88, R89). -/
def State.reevaluateThen (s : State) (call : Call) : State :=
  let s' := s.reevaluate call
  if slotActs s s' then State.settle settleRounds s'.slot.waiting.isEmpty s' else s'

/-- R68: what an event did calls for a re-evaluation: a change of a channel's accounted load, a change of the Standby
List, a freeing of the slot that leaves nobody waiting, or a departure that empties the waiting set of a free slot. -/
def callsPlanner (before after : State) : Bool :=
  before.loads ≠ after.loads || before.standby.entries ≠ after.standby.entries
    || (freed before after && after.slot.waiting.isEmpty) || emptiedFree before after

/-- What follows an event that took `before` to `after`: the slot is served, and the Planner makes one re-evaluation when
`tell` holds or the event's changes call for it (R68, R88; DESIGN CHOICE, notes/assumptions/7.md). -/
def State.finish (before after : State) (tell : Bool) : State :=
  after.settle settleRounds (tell || callsPlanner before after)

/-- R71: the Planner is told of a level change: in RUN the excess timer is stopped, the restore-quiet timer started and a
re-evaluation made whose pass does not wait for the excess dwell; elsewhere only the restore-quiet timer is started. -/
def State.tellLevelChange (s : State) : State :=
  if s.disc.device = .run then s.startQuiet.stopExcess.reevaluateThen .levelChange else s.startQuiet

/-- R78, R79: a sag shed: the candidate is always shed, with its notice and the restore-quiet timer; `none` is no
relief. Outside RUN the answer is no relief. -/
def State.sagShed (s : State) : State × Option Chan :=
  if s.disc.device = .run then
    match s.sagCandidate with
    | none => (s, none)
    | some c =>
      let s' := s.shedChannel c .sag .sag .waitSag
      ((s'.push .shed (some c) 3 s'.totalP).startQuiet, some c)
  else (s, none)

end Sys2Proof.Machine
end

