-- ==== Sys2Proof/Machine/Estimator.lean ====
section
/-!
DEFINITION. The Reserve Estimator (01): counting, derating, reserve, compensated voltage, the OCV table, the syncs and
anchors, the effects of a profile edit, and the meanings of BATTERY_SAMPLE, REST_SYNC, FULL_ANCHOR, EMPTY_ANCHOR and
TEMPERATURE_SAMPLE.
-/

namespace Sys2Proof.Machine

/-- Q_nom = C_nom × 3,600,000 mAs (01 section 1.3). -/
def Battery.qNom (b : Battery) : Nat := b.cNom * 3600000

/-- R8: the derate from the temperature in use. -/
def derate (k : Nat) (temp : Int) : Nat :=
  if 20 ≤ temp then 1000 else (max 500 (1000 - (k : Int) * (20 - temp))).toNat

/-- R8: Q_use. -/
def usable (b : Battery) (temp : Int) : Nat := b.qNom * derate b.k temp / 1000

/-- R10: R = min(1000, floor(Q × 1000 / Q_use)). -/
def reserveOf (q qUse : Nat) : Nat := min 1000 (q * 1000 / qUse)

/-- R8, R10: Q_use recomputed, and then R. -/
def Estimator.recompute (e : Estimator) (b : Battery) : Estimator :=
  let qu := usable b e.temp
  { e with qUse := qu, r := reserveOf e.q qu }

/-- R5, R6: stage A, charge counting. -/
def Estimator.count (e : Estimator) (b : Battery) (i : Int) : Estimator :=
  if i ≤ 0 then { e with q := e.q - (-i).toNat }
  else
    let acc := e.rem + i.toNat * b.eta
    { e with q := min b.qNom (e.q + acc / 1000), rem := acc % 1000 }

/-- R12: the compensated voltage. -/
def compensated (b : Battery) (vb : Nat) (i : Int) : Nat :=
  (clampInt 0 40000 ((vb : Int) - (i * (b.rInt : Int)).tdiv 100)).toNat

/-- R13: the segment that holds `v`, for a `v` above the first point. -/
def ocvSegment (v : Nat) : List OcvPoint → Nat
  | p :: q :: rest =>
    if v < q.v then p.r + (v - p.v) * (q.r - p.r) / (q.v - p.v) else ocvSegment v (q :: rest)
  | [p] => p.r
  | [] => 0

/-- R13: a lookup of the OCV table. -/
def ocvLookup (t : Vector OcvPoint 8) (v : Nat) : Nat :=
  if v ≤ t[0].v then t[0].r else ocvSegment v t.toList

/-- The origin of a sync, with the codes of R15. -/
inductive SyncOrigin where
  | rest | full | empty | manual
deriving DecidableEq, Repr

/-- REST 1, FULL 2, EMPTY 3, MANUAL 4 (R15). -/
def SyncOrigin.code (o : SyncOrigin) : Nat :=
  match o with
  | .rest => 1
  | .full => 2
  | .empty => 3
  | .manual => 4

/-- A sync: Q becomes floor(Q_use × r / 1000) and the remainder 0 (R7, R16). -/
def Estimator.syncTo (e : Estimator) (r : Nat) : Estimator := { e with q := e.qUse * r / 1000, rem := 0 }

/-- Stages A and B (R1, R16): V_c first, then the start sync in place of counting where it is due, and R (stage C). A start
sync makes the estimator UNSYNCED, as R16 says, also where a SET_CHARGE taken after a BROWNOUT and before the first sample
had made it SYNCED, which R15 would keep (DESIGN CHOICE, notes/assumptions/24.md). -/
def Estimator.stagesAC (e : Estimator) (b : Battery) (ocv : Vector OcvPoint 8) (vb : Nat) (i : Int) : Estimator :=
  let e1 := { e with vb := vb, i := i, vc := compensated b vb i }
  let e2 :=
    if e1.startSyncDue then { e1.syncTo (ocvLookup ocv e1.vc) with synced := false, startSyncDue := false }
    else e1.count b i
  { e2 with r := reserveOf e2.q e2.qUse }

/-- Stage D (R18, R19): the arming of the anchors. -/
def Estimator.stageD (e : Estimator) (b : Battery) : Estimator :=
  { e with fullArm := e.fullArm || e.r < 950, emptyArm := e.emptyArm || b.vEmpty + 300 < e.vc }

/-- Stage E (R17): the rest timer, and the rest sync when it is complete. The flag says that a sync was made. -/
def Estimator.stageE (e : Estimator) (b : Battery) (ocv : Vector OcvPoint 8) : Estimator × Bool :=
  if e.i.natAbs ≤ b.restCurrent then
    let e1 := { e with restTimer := min (e.restTimer + 1) (b.restTime * 600) }
    if b.restTime * 600 ≤ e1.restTimer && !e1.restMade then
      let ro := ocvLookup ocv e1.vc
      let e2 := if b.resync < max ro e1.r - min ro e1.r then e1.syncTo ro else e1
      ({ e2 with restMade := true, synced := true }, true)
    else (e1, false)
  else ({ e with restTimer := 0, restMade := false }, false)

/-- Stage F (R18): the tail timer and the full anchor. -/
def Estimator.stageF (e : Estimator) (b : Battery) : Estimator × Bool :=
  if !e.fullArm then ({ e with tailTimer := 0 }, false)
  else if 0 < e.i && e.i ≤ (b.tailCurrent : Int) && b.vFull ≤ e.vb then
    if b.tailTime * 10 ≤ e.tailTimer + 1 then
      ({ e with q := b.qNom, rem := 0, fullArm := false, tailTimer := 0, synced := true }, true)
    else ({ e with tailTimer := e.tailTimer + 1 }, false)
  else ({ e with tailTimer := 0 }, false)

/-- Stage G (R19): the empty timer and the empty anchor; it tests the R of stage C, which `e.r` still is. -/
def Estimator.stageG (e : Estimator) (b : Battery) : Estimator × Bool :=
  if !e.emptyArm then ({ e with emptyTimer := 0 }, false)
  else if e.vc ≤ b.vEmpty then
    if 100 ≤ e.emptyTimer + 1 then
      let e1 := if b.rAnchor < e.r then e.syncTo b.rAnchor else e
      ({ e1 with emptyArm := false, emptyTimer := 0, synced := true }, true)
    else ({ e with emptyTimer := e.emptyTimer + 1 }, false)
  else ({ e with emptyTimer := 0 }, false)

/-- Stage H (R10): R again, by R10's formula. After an empty anchor whose Q_use × R_anchor / 1000 is not whole that formula
may give R_anchor − 1, where R19 says R_anchor: the model follows the formula (DESIGN CHOICE,
notes/assumptions/22.md). -/
def Estimator.stageH (e : Estimator) : Estimator := { e with r := reserveOf e.q e.qUse }

/-- What a battery sample makes of the estimator, and the syncs it made with the R after each, in the order E, F, G. -/
structure SampleResult where
  est : Estimator
  syncs : List (SyncOrigin × Nat)
deriving DecidableEq, Repr

/-- One sync of a result: its origin and the R after it (R15), when it was made. Of two syncs at one sample each has the R of
the Q that it left, though stage H computes R once (DESIGN CHOICE, notes/assumptions/22.md). -/
def syncOf (o : SyncOrigin) (x : Estimator × Bool) : List (SyncOrigin × Nat) :=
  if x.2 then [(o, reserveOf x.1.q x.1.qUse)] else []

/-- R1: stages A to H, one operation, on a sample clamped as the front end delivers it. -/
def Estimator.sample (e : Estimator) (b : Battery) (ocv : Vector OcvPoint 8) (vb i : Int) : SampleResult :=
  let vb' := (clampInt 0 40000 vb).toNat
  let i' := clampInt (-30000) 30000 i
  let d := (e.stagesAC b ocv vb' i').stageD b
  let x := d.stageE b ocv
  let y := x.1.stageF b
  let z := y.1.stageG b
  ⟨z.1.stageH, syncOf .rest x ++ syncOf .full y ++ syncOf .empty z⟩

/-- R15: the SYNC notice of a sync. -/
def syncNotice (o : SyncOrigin × Nat) : NoticeKind × Option Nat × Nat × Nat := (.sync, none, o.1.code, o.2)

/-- R23: the reserve update of stage I. -/
def Estimator.update (e : Estimator) : ReserveUpdate := ⟨e.r, e.vc, e.vb, e.i⟩

/-- What a battery sample would make of the state's estimator. -/
def State.sampleResult (s : State) (vb i : Int) : SampleResult := s.est.sample s.plan.battery s.plan.ocv vb i

/-- R41, R47: the sag comparator takes the raw voltage of a battery sample of START or RUN; in ISOLATED it takes none. -/
def State.comparatorListens (s : State) : Bool := s.disc.device ≠ .isolated

/-- Stage I (R23, R41): an update for the Level Controller and one for the Disconnect Unit, and its raw voltage for the sag
comparator when that listens. -/
def Mail.publish (m : Mail) (u : ReserveUpdate) (listens : Bool) : Mail where
  level := m.level ++ [u]
  disconnect := m.disconnect ++ [u]
  sag := if listens then m.sag ++ [u.vb] else m.sag

/-- R1: a battery sample: stages A to H, the SYNC notices, and stage I, which publishes the reserve update to the Level
Controller and the Disconnect Unit and hands the raw voltage to the sag comparator. -/
def State.takeBatterySample (s : State) (vb i : Int) : State :=
  let x := s.sampleResult vb i
  let s1 := ({ s with est := x.est }).pushAll (x.syncs.map syncNotice)
  { s1 with mail := s.mail.publish x.est.update s.comparatorListens }

/-- The sample would make a sync of the given origin. -/
def State.sampleMakes (s : State) (o : SyncOrigin) (vb i : Int) : Bool :=
  (s.sampleResult vb i).syncs.any (fun x => x.1 = o)

/-- BATTERY_SAMPLE (R1). -/
def execBatterySample (vb i : Int) (s : State) : Host.Outcome State Fault Refusal := .next (s.takeBatterySample vb i)

/-- REST_SYNC (R17): the battery sample at which the rest sync is made; a sample that makes none is not this event
(DESIGN CHOICE, notes/assumptions/5.md). -/
def execRestSync (vb i : Int) (s : State) : Host.Outcome State Fault Refusal :=
  .next (if s.sampleMakes .rest vb i then s.takeBatterySample vb i else s)

/-- FULL_ANCHOR (R18): the battery sample at which the full anchor fires. -/
def execFullAnchor (vb i : Int) (s : State) : Host.Outcome State Fault Refusal :=
  .next (if s.sampleMakes .full vb i then s.takeBatterySample vb i else s)

/-- EMPTY_ANCHOR (R19): the battery sample at which the empty anchor fires. -/
def execEmptyAnchor (vb i : Int) (s : State) : Host.Outcome State Fault Refusal :=
  .next (if s.sampleMakes .empty vb i then s.takeBatterySample vb i else s)

/-- R2: a reading outside −40..+85 °C is delivered marked invalid. -/
def temperatureDelivered (t : Int) (valid : Bool) : Bool := valid && -40 ≤ t && t ≤ 85

/-- R2: a temperature sample. -/
def Estimator.takeTemperature (e : Estimator) (b : Battery) (t : Int) (valid : Bool) : Estimator :=
  if temperatureDelivered t valid then ({ e with temp := t, tempValid := true }).recompute b
  else { e with tempValid := false }

/-- TEMPERATURE_SAMPLE (R2). -/
def execTemperatureSample (t : Int) (valid : Bool) (s : State) : Host.Outcome State Fault Refusal :=
  .next { s with est := s.est.takeTemperature s.plan.battery t valid }

/-- R22: the capacity-edit rescale. -/
def Estimator.rescale (e : Estimator) (old new : Battery) : Estimator :=
  ({ e with q := new.qNom * e.q / old.qNom, rem := 0 }).recompute new

/-- R4, R22, R25, R26: what replacing the battery profile does to the estimator, field by field. -/
def Estimator.reprofile (e : Estimator) (old new : Battery) : Estimator :=
  let e1 :=
    if new.cNom ≠ old.cNom then e.rescale old new else if new.k ≠ old.k then e.recompute new else e
  { e1 with
    tailTimer :=
      if new.vFull ≠ old.vFull || new.tailCurrent ≠ old.tailCurrent || new.tailTime ≠ old.tailTime then 0
      else e1.tailTimer
    emptyTimer := if new.vEmpty ≠ old.vEmpty then 0 else e1.emptyTimer
    restTimer :=
      if new.restCurrent ≠ old.restCurrent || new.restTime ≠ old.restTime then 0 else e1.restTimer }

/-- R20: the manual sync of SET_CHARGE to a requested reserve, clamped at 1000. -/
def State.manualSync (s : State) (r : Nat) : State :=
  let e := ({ s.est.syncTo (min 1000 r) with synced := true }).stageH
  ({ s with est := e }).push .sync none SyncOrigin.manual.code e.r

/-- R24: the estimator after a POWER_ON reset, under the loaded plan's battery. -/
def Estimator.powerOn (b : Battery) : Estimator where
  q := 0
  rem := 0
  qUse := usable b 20
  r := 0
  vc := 0
  vb := 0
  i := 0
  temp := 20
  tempValid := false
  synced := false
  restTimer := 0
  restMade := false
  fullArm := false
  tailTimer := 0
  emptyArm := false
  emptyTimer := 0
  startSyncDue := true

/-- R25: the estimator after a BROWNOUT reset from the old to the loaded profile. -/
def Estimator.brownout (e : Estimator) (old new : Battery) : Estimator :=
  { e.reprofile old new with
    vc := 0, vb := 0, i := 0, restTimer := 0, tailTimer := 0, emptyTimer := 0, restMade := false }

end Sys2Proof.Machine
end

