-- ==== Sys2Proof/Machine/Levels.lean ====
section
/-!
DEFINITION. The Level Controller (02 sections 2.1 to 2.3): demanded depth, easing condition, dwells and level changes, and
the meanings of RESERVE_UPDATE, DEEPENING_DWELL_COMPLETE and EASING_DWELL_COMPLETE.
-/

namespace Sys2Proof.Machine

/-- The levels 1..7, deepest first. -/
def deepLevels : List Level := [7, 6, 5, 4, 3, 2, 1]

/-- R31: level `l` is demanded by an update. -/
def LevelTable.demands (t : LevelTable) (u : ReserveUpdate) (l : Level) : Bool :=
  u.r ≤ t.recs[l].enter || (t.recs[l].floor ≠ 0 && u.vc ≤ t.recs[l].floor)

/-- R31: the demanded depth. -/
def LevelTable.deepOf (t : LevelTable) (u : ReserveUpdate) : Level := (deepLevels.find? (t.demands u)).getD 0

/-- R31: the note that the demanded depth was demanded by reserve. -/
def LevelTable.deepByReserve (t : LevelTable) (u : ReserveUpdate) : Bool :=
  t.deepOf u ≠ 0 && u.r ≤ t.recs[t.deepOf u].enter

/-- R32: the easing condition of level `c`, which is above 0. -/
def LevelTable.eases (t : LevelTable) (u : ReserveUpdate) (c : Level) : Bool :=
  t.recs[c].leave ≤ u.r && (t.recs[c].floor = 0 || t.recs[c].floor + t.settings.hv ≤ u.vc)

/-- The cause of a level change (R36). -/
inductive Cause where
  | reserve | voltage | ease
deriving DecidableEq, Repr

/-- RESERVE 1, VOLTAGE 2, EASE 3 (R36). -/
def Cause.code (c : Cause) : Nat :=
  match c with
  | .reserve => 1
  | .voltage => 2
  | .ease => 3

/-- R34: the cause of a deepening. -/
def deepeningCause (byReserve : Bool) : Cause := if byReserve then .reserve else .voltage

/-- R33: the pending dwell is cancelled. -/
def State.cancelDwell (s : State) : State := { s with level := { s.level with pending := .none, count := 0 } }

/-- R33: a dwell with its count. -/
def State.setDwell (s : State) (p : Pending) (count : Nat) : State :=
  { s with level := { s.level with pending := p, count := count } }

/-- R36: a level change: the level, the notice, and the Planner told. -/
def State.changeLevel (s : State) (new : Level) (cause : Cause) : State :=
  let old := s.level.current
  let s1 : State := { s with level := { s.level with current := new, pending := .none, count := 0 } }
  (s1.push .levelChange (some new.val) old.val cause.code).tellLevelChange

/-- R36, R38, R39: a direct setting; one that leaves the level as it was is not a level change. -/
def State.setLevelDirect (s : State) (new : Level) (cause : Cause) : State :=
  if new = s.level.current then s else s.changeLevel new cause

/-- R34: the deepening dwell completes when its count reaches the enter dwell × 10. -/
def State.deepening (s : State) (count : Nat) (deep : Level) (byReserve : Bool) : State :=
  if s.plan.levels.settings.enterDwell * 10 ≤ count then s.changeLevel deep (deepeningCause byReserve)
  else s.setDwell .deepen count

/-- The level one shallower (R35). -/
def shallower (l : Level) : Level := ⟨l.val - 1, Nat.lt_of_le_of_lt (Nat.sub_le _ _) l.isLt⟩

/-- R35: the easing dwell completes when its count reaches the leave dwell × 10. -/
def State.easing (s : State) (count : Nat) : State :=
  if s.plan.levels.settings.leaveDwell * 10 ≤ count then s.changeLevel (shallower s.level.current) .ease
  else s.setDwell .ease count

/-- R33: the table of conditions, in RUN after the first update. -/
def State.runDwell (s : State) (u : ReserveUpdate) : State :=
  let t := s.plan.levels
  let deep := t.deepOf u
  let c := s.level.current
  if c < deep then
    s.deepening (if s.level.pending = .deepen then s.level.count + 1 else 0) deep (t.deepByReserve u)
  else if c ≠ 0 && t.eases u c then
    s.easing (if s.level.pending = .ease then s.level.count + 1 else 0)
  else s.cancelDwell

/-- R31: the demanded depth and its note are stored, in every device state. -/
def State.storeDeep (s : State) (u : ReserveUpdate) : State :=
  { s with level := { s.level with deep := s.plan.levels.deepOf u, byReserve := s.plan.levels.deepByReserve u } }

/-- R31, R33, R37, R38: the Level Controller takes a reserve update. A first update after POWER_ON that is taken in RUN after
a BROWNOUT and the reconnection from it falls under R38 and under R39 (which leaves it to R33): the model sets the level
directly, as R38 says, from level 7 and with its cause RESERVE or VOLTAGE (DESIGN CHOICE, notes/assumptions/23.md). -/
def State.levelTakes (s : State) (u : ReserveUpdate) : State :=
  let s1 := s.storeDeep u
  if !s.level.firstTaken then
    let s2 : State := { s1 with level := { s1.level with firstTaken := true } }
    if s.disc.device = .isolated then s2
    else s2.setLevelDirect (s.plan.levels.deepOf u) (deepeningCause (s.plan.levels.deepByReserve u))
  else if s.disc.device = .run then s1.runDwell u
  else s1

/-- The Level Controller takes the next published update, when there is one. -/
def State.levelTakesNext (s : State) : State :=
  match s.mail.level with
  | [] => s
  | u :: rest => ({ s with mail := { s.mail with level := rest } }).levelTakes u

/-- R34: the next published update would complete a deepening dwell. -/
def State.completesDeepening (s : State) : Bool :=
  match s.mail.level with
  | [] => false
  | u :: _ =>
    s.level.firstTaken && s.disc.device = .run && s.level.current < s.plan.levels.deepOf u
      && s.plan.levels.settings.enterDwell * 10 ≤ (if s.level.pending = .deepen then s.level.count + 1 else 0)

/-- R35: the next published update would complete an easing dwell. -/
def State.completesEasing (s : State) : Bool :=
  match s.mail.level with
  | [] => false
  | u :: _ =>
    s.level.firstTaken && s.disc.device = .run && s.plan.levels.deepOf u ≤ s.level.current
      && s.level.current ≠ 0 && s.plan.levels.eases u s.level.current
      && s.plan.levels.settings.leaveDwell * 10 ≤ (if s.level.pending = .ease then s.level.count + 1 else 0)

/-- RESERVE_UPDATE (R33): the Level Controller takes the oldest update it has not taken; with none waiting there is no
event. -/
def execReserveUpdate (s : State) : Host.Outcome State Fault Refusal := .next s.levelTakesNext

/-- DEEPENING_DWELL_COMPLETE (R34): the update that completes a deepening dwell is taken; an update that completes none is
not this event (DESIGN CHOICE, notes/assumptions/5.md). -/
def execDeepeningDwellComplete (s : State) : Host.Outcome State Fault Refusal :=
  .next (if s.completesDeepening then s.levelTakesNext else s)

/-- EASING_DWELL_COMPLETE (R35): the update that completes an easing dwell is taken. -/
def execEasingDwellComplete (s : State) : Host.Outcome State Fault Refusal :=
  .next (if s.completesEasing then s.levelTakesNext else s)

end Sys2Proof.Machine
end

