-- ==== Sys2Proof/Machine/Sag.lean ====
section
/-!
DEFINITION. The Sag Monitor (02 section 2.4): the comparator, its events, the two timers, and the meanings of
SAG_COMPARATOR_SAMPLE, TOLERANCE_TIMER_EXPIRY and RECOVERY_TIMER_EXPIRY.
-/

namespace Sys2Proof.Machine

/-- R48: the Sag Monitor after every reset and at isolation (R47). -/
def SagMon.initial : SagMon where
  high := true
  state := .clear
  tolerance := none
  recovery := none
  releasePending := false
  noReliefReported := false
  sheds := 0

/-- The Sag Monitor replaced. -/
def State.setSag (s : State) (g : SagMon) : State := { s with sag := g }

/-- R42, R43: the tolerance timer started with the sag tolerance. -/
def State.toleranceTimer (s : State) : Timer := Timer.ms s.plan.battery.sagTolerance

/-- R42: a falling event, which arrives in CLEAR or RECOVERING. -/
def State.fallingEvent (s : State) : State :=
  match s.sag.state with
  | .clear => s.setSag { s.sag with state := .sagging, tolerance := s.toleranceTimer }
  | .recovering => s.setSag { s.sag with state := .sagging, tolerance := s.toleranceTimer, recovery := none }
  | .sagging => s
  | .sagShedding => s

/-- R45: the recovery dwell starts. -/
def State.startRecovery (s : State) : State :=
  s.setSag { s.sag with state := .recovering, tolerance := none, recovery := Timer.s s.plan.battery.sagRecovery }

/-- R45: a rising event, which arrives in SAGGING or SAG_SHEDDING; the sample that raised it carries `vb`. -/
def State.risingEvent (s : State) (vb : Nat) : State :=
  match s.sag.state with
  | .sagging =>
    if s.sag.releasePending then s.startRecovery
    else s.setSag { s.sag with state := .clear, tolerance := none }
  | .sagShedding => s.startRecovery.push .sagClear none s.sag.sheds vb
  | .clear => s
  | .recovering => s

/-- R41: the comparator takes a raw voltage in START or RUN; in ISOLATED it takes no sample (R47). A rising event is
followed by the Start Slot's service (R45, R88), and a return to CLEAR is told to the Planner (R68). -/
def State.comparatorTakes (s : State) (vb : Nat) : State :=
  if s.disc.device = .isolated then s
  else if s.sag.high && vb < s.plan.battery.vSag then (s.setSag { s.sag with high := false }).fallingEvent
  else if !s.sag.high && s.plan.battery.vSag + s.plan.battery.hs < vb then
    let s' := (s.setSag { s.sag with high := true }).risingEvent vb
    s.finish s' (s.sag.state ≠ .clear && s'.sag.state = .clear)
  else s

/-- SAG_COMPARATOR_SAMPLE (R41): the comparator takes the voltage of the oldest battery sample it has not taken. -/
def execSagComparatorSample (s : State) : Host.Outcome State Fault Refusal :=
  .next
    (match s.mail.sag with
      | [] => s
      | vb :: rest => ({ s with mail := { s.mail with sag := rest } }).comparatorTakes vb)

/-- R43, R44: one sag shed is asked for and its answer taken; the Planner re-evaluates after a shed (R79), and no relief
is reported once in an episode. -/
def State.askSagShed (s : State) : State :=
  match s.sagShed with
  | (s', some _) => (s'.setSag { s'.sag with sheds := s'.sag.sheds + 1 }).settle settleRounds true
  | (s', none) =>
    if s'.sag.noReliefReported then s'
    else (s'.push .sagNoRelief none s'.est.vb s'.sag.sheds).setSag { s'.sag with noReliefReported := true }

/-- R43: an expiry of the tolerance timer. -/
def State.toleranceExpiry (s : State) : State :=
  match s.sag.state with
  | .sagging =>
    let s1 := s.setSag { s.sag with state := .sagShedding, releasePending := true, noReliefReported := false, sheds := 0
                                    tolerance := s.toleranceTimer }
    (s1.push .sagStart none s.est.vb s.plan.battery.vSag).askSagShed
  | .sagShedding => (s.setSag { s.sag with tolerance := s.toleranceTimer }).askSagShed
  | .clear => s
  | .recovering => s

/-- TOLERANCE_TIMER_EXPIRY (R43); no event when the timer is stopped (R45, R47). -/
def execToleranceTimerExpiry (s : State) : Host.Outcome State Fault Refusal :=
  .next (if s.sag.tolerance.isSome then s.toleranceExpiry else s)

/-- RECOVERY_TIMER_EXPIRY (R46): CLEAR, the held entries released (R103), the Planner told. -/
def execRecoveryTimerExpiry (s : State) : Host.Outcome State Fault Refusal :=
  .next
    (if s.sag.recovery.isSome && s.sag.state = .recovering then
      s.finish (s.setSag { s.sag with state := .clear, recovery := none, releasePending := false }).releaseHeld true
    else s)

end Sys2Proof.Machine
end

