-- ==== Sys2Proof/Machine/Idle.lean ====
section
/-!
DEFINITION. The idle timers (07 sections 7.2 to 7.6): arming, qualifying activity, expiry, and the meaning of
IDLE_TIMER_EXPIRY.
-/

namespace Sys2Proof.Machine

/-- R144: the full count, terminal time × 60 seconds. -/
def TimerRec.fullCount (r : TimerRec) : Nat := r.terminal * 60

/-- R144: a timer armed from its record. -/
def TimerRec.armed (r : TimerRec) : IdleTimer := ⟨.running, r.fullCount⟩

/-- R151, R153: a timer after an accepted edit or a reset: armed when enabled, DISABLED with count 0 otherwise. -/
def TimerRec.fresh (r : TimerRec) : IdleTimer := if r.enabled then r.armed else ⟨.disabled, 0⟩

/-- R153: every timer armed or disabled from the records of a loaded plan. -/
def freshIdle (p : Plan) : Vector IdleTimer 4 := Vector.ofFn fun n => p.timers[n].fresh

/-- R152: at reconnection every enabled timer is armed; every disabled timer stays DISABLED. -/
def State.armIdle (s : State) : State :=
  { s with idle := Vector.ofFn fun n => if s.plan.timers[n].enabled then s.plan.timers[n].armed else s.idle[n] }

/-- R147: one qualifying activity in RUN: RUNNING is reloaded, EXPIRED is armed, DISABLED is left. -/
def IdleTimer.activity (t : IdleTimer) (r : TimerRec) : IdleTimer :=
  match t.state with
  | .disabled => t
  | .running => r.armed
  | .expired => r.armed

/-- R146, R147: an activity taken by every timer for which it qualifies; in START and ISOLATED it has no effect. -/
def State.activity (s : State) (qualifies : TimerRec → Bool) : State :=
  if s.disc.device = .run then
    { s with idle := Vector.ofFn fun n =>
        if qualifies s.plan.timers[n] then s.idle[n].activity s.plan.timers[n] else s.idle[n] }
  else s

/-- R146: an activity event of input AUXn. -/
def State.auxActivity (s : State) (n : AuxIx) : State := s.activity (fun r => r.hasAux n)

/-- R146: a SWITCH request taken by channel `c`. -/
def State.panelActivity (s : State) (c : Chan) : State := s.activity (fun r => r.hasPanel && r.isMember c)

/-- R146: a sample of channel `c` above its activity threshold, when the threshold is not 0. -/
def State.currentActivity (s : State) (c : Chan) (m : Nat) : State :=
  if (s.crec c).activityThreshold ≠ 0 && (s.crec c).activityThreshold < m then
    s.activity (fun r => r.hasCurrent && r.isMember c)
  else s

/-- R148: the members of a timer that an expiry would turn off. -/
def State.affectedMembers (s : State) (r : TimerRec) : List Chan :=
  allChans.filter fun c => r.isMember c && (s.chan c).state.idleAffected

/-- R148: the idle timer off handed to each channel of a list in turn. -/
def State.idleOffAll (s : State) : List Chan → State
  | [] => s
  | c :: cs => (s.idleOff c).idleOffAll cs

/-- R148: the expiry of timer `n`, one event: its members off, EXPIRED with count 0, the IDLE_OFF notice; then the slot's
service and one re-evaluation, whose notices stand behind IDLE_OFF (DESIGN CHOICE, notes/assumptions/9.md). -/
def State.idleExpiry (s : State) (n : TimerIx) : State :=
  let r := s.plan.timers[n]
  let affected := s.affectedMembers r
  let s1 := ((s.idleOffAll affected).setIdle n ⟨.expired, 0⟩).dropOvertaken n
  s.finish (s1.push .idleOff (some n) affected.length r.terminal) false

/-- R148, R150: the count of a RUNNING timer has reached 0 in RUN. A count reloaded by an activity (R147) or an edit (R151)
takes the expiry away. -/
def State.idleDue (s : State) (n : TimerIx) : Bool :=
  s.idle[n].state = .running && s.idle[n].count = 0 && s.disc.device = .run

/-! ### A forced SWITCH ON ahead of an expiry that is due (R107, R150) -/

/-- The idle timers. -/
def allTimers : List TimerIx := [0, 1, 2, 3]

/-- R107, R150: a SWITCH request for channel `c` reloads timer `n` when its expiry is due. -/
def State.overtakes (s : State) (c : Chan) (n : TimerIx) : Bool :=
  s.idleDue n && s.plan.timers[n].hasPanel && s.plan.timers[n].isMember c

/-- R107 row 1: a forced SWITCH ON of a WAITING channel is noted for each timer whose due expiry it overtakes. -/
def State.noteOvertaken (s : State) (c : Chan) (forced : Bool) : State :=
  if forced && (s.crec c).active && (s.chan c).state = .waiting then
    s.setOvertaken (s.overtaken ++ (allTimers.filter (s.overtakes c)).map fun n => (n, c))
  else s

/-- R107 row 1, R85 row 4: what an overtaken expiry still finds of a channel: its forced entry, or the start that the forcing
brought about at once (notes/assumptions/25.md). -/
def State.overtakenFinds (s : State) (c : Chan) : Bool :=
  (s.chan c).state = .starting || ((s.chan c).state = .waiting && (s.entry? c).any (·.forced))

/-- R107 row 1: the channels that the overtaken expiry of timer `n` turns off. -/
def State.overtakenMembers (s : State) (n : TimerIx) : List Chan :=
  allChans.filter fun c => s.overtaken.contains (n, c) && s.overtakenFinds c

/-- R107 row 1, R150: the expiry of timer `n` that forced SWITCH ON requests overtook: the entry of each is removed, the
channel OFF with reason IDLE; the timer stays as the activity reloaded it, its other members are left, and no IDLE_OFF notice
is pushed (notes/assumptions/25.md). -/
def State.overtakenExpiry (s : State) (n : TimerIx) : State :=
  s.finish ((s.idleOffAll (s.overtakenMembers n)).dropOvertaken n) false

/-- IDLE_TIMER_EXPIRY (R148): the count of a RUNNING timer reaches 0 in RUN; the expiry that a forced SWITCH ON overtook
takes the entry that was forced (R107); no event otherwise (R150). -/
def execIdleTimerExpiry (n : TimerIx) (s : State) : Host.Outcome State Fault Refusal :=
  .next (if s.idleDue n then s.idleExpiry n
    else if s.disc.device = .run && s.overtaken.any (fun x => x.1 = n) then s.overtakenExpiry n else s)

end Sys2Proof.Machine
end

