-- ==== Sys2Proof/Machine/ChannelEvents.lean ====
section
/-!
DEFINITION. The events of a channel (06) and of the Planner's timers (04): the meanings of CHANNEL_SAMPLE, SHORT_REPORT,
RUNDOWN_TIMEOUT, INRUSH_WINDOW_END, RETRY_TIMER_EXPIRY, GOOD_RUN_TIMER_EXPIRY, OFF_TIMER_EXPIRY, ON_TIMER_EXPIRY,
CHECK_TIMER_EXPIRY, EXCESS_TIMER_EXPIRY and RESTORE_QUIET_EXPIRY.
-/

namespace Sys2Proof.Machine

/-! ### The channel sample (R114) -/

/-- R117: the limit that applies to a sample: the surge limit during an inrush window, the trip limit otherwise. -/
def Channel.limit (ch : Channel) (r : ChannelRec) : Nat := if ch.inrush.isOpen then r.surgeLimit else r.tripLimit

/-- R117: the streak after a sample. -/
def Channel.streakAfter (ch : Channel) (r : ChannelRec) (m : Nat) : Nat :=
  if ch.limit r < m then ch.ocStreak + 1 else 0

/-- R117: the streak after a sample stands recorded. -/
def State.setStreak (s : State) (c : Chan) (n : Nat) : State := s.setChan c { s.chan c with ocStreak := n }

/-- R54, R116: a window of inrush time 0 ends at the sample, after its test. -/
def State.endSampleWindow (s : State) (c : Chan) : State :=
  if (s.chan c).inrush = .untilSample then s.endWindow c else s

/-- R124: the done test of a sample in RUNDOWN. -/
def State.doneTest (s : State) (c : Chan) (m : Nat) : State :=
  if m < (s.crec c).doneCurrent then
    if 2 ≤ (s.chan c).doneStreak + 1 then s.endRundown c
    else s.setChan c { s.chan c with doneStreak := (s.chan c).doneStreak + 1 }
  else s.setChan c { s.chan c with doneStreak := 0 }

/-- R117: five consecutive samples above the limit trip. -/
def tripStreak : Nat := 5

/-- R114, R117: the work of a sample at a channel whose switch is closed: the overcurrent test, then the end of a sample
window and the done test of a RUNDOWN. -/
def State.testSample (s : State) (c : Chan) (m : Nat) : State :=
  let n := (s.chan c).streakAfter (s.crec c) m
  if tripStreak ≤ n then s.trip c .trip
  else
    let s1 := (s.setStreak c n).endSampleWindow c
    if (s.chan c).state = .rundown then s1.doneTest c m else s1

/-- The sense range of a channel current (00_scope.md, Units). -/
def sampleRange (m : Nat) : Nat := min 2500 m

/-- R114: a channel sample: m_c recorded in every state, the work of the state, and current activity (R146). -/
def State.takeSample (s : State) (c : Chan) (m : Nat) : State :=
  let s1 := s.setChan c { s.chan c with m := m }
  (if (s1.chan c).closed then s1.testSample c m else s1).currentActivity c m

/-- CHANNEL_SAMPLE (R114). -/
def execChannelSample (c : Chan) (m : Nat) (s : State) : Host.Outcome State Fault Refusal :=
  .next (s.finish (s.takeSample c (sampleRange m)) false)

/-- SHORT_REPORT (R119): a trip with reason SHORT while the switch is closed; disregarded while it is open. -/
def execShortReport (c : Chan) (s : State) : Host.Outcome State Fault Refusal :=
  .next (if (s.chan c).closed then s.finish (s.trip c .short) false else s)

/-! ### The channel's timers -/

/-- R124: the timeout a rundown timer started with, in s. -/
def Timer.lengthSeconds (t : Timer) : Nat :=
  match t with
  | none => 0
  | some r => r.len / 1000

/-- RUNDOWN_TIMEOUT (R124): the notice, then the end of the rundown. -/
def execRundownTimeout (c : Chan) (s : State) : Host.Outcome State Fault Refusal :=
  .next
    (if (s.chan c).state = .rundown && (s.chan c).rundownTimer.isSome then
      s.finish ((s.push .rundownTimeout (some c) (s.chan c).m (Timer.lengthSeconds (s.chan c).rundownTimer)).endRundown c)
        false
    else s)

/-- An inrush window that runs by time. -/
def Inrush.isTimed (w : Inrush) : Bool :=
  match w with
  | .stopped => false
  | .timed _ => true
  | .untilSample => false

/-- INRUSH_WINDOW_END (R116): a window that runs by time expires; a window of inrush time 0 ends at a sample only. -/
def execInrushWindowEnd (c : Chan) (s : State) : Host.Outcome State Fault Refusal :=
  .next (if (s.chan c).inrush.isTimed then s.finish (s.endWindow c) false else s)

/-- RETRY_TIMER_EXPIRY (R121): TRIPPED to WAITING with origin RETRY; the reason and the retry count are kept. -/
def execRetryTimerExpiry (c : Chan) (s : State) : Host.Outcome State Fault Refusal :=
  .next
    (if (s.chan c).state = .tripped && (s.chan c).retryTimer.isSome then
      s.finish
        ((s.setChan c { s.chan c with state := .waiting, retryTimer := none }).insertEntry c .retry false) false
    else s)

/-- GOOD_RUN_TIMER_EXPIRY (R121): the retry count becomes 0. -/
def execGoodRunTimerExpiry (c : Chan) (s : State) : Host.Outcome State Fault Refusal :=
  .next
    (if (s.chan c).state = .on && (s.chan c).goodRun.isSome then
      s.setChan c { s.chan c with retryCount := 0, goodRun := none }
    else s)

/-- OFF_TIMER_EXPIRY (R128): a REST phase ends and the channel asks for the Start Slot (R87). -/
def execOffTimerExpiry (c : Chan) (s : State) : Host.Outcome State Fault Refusal :=
  .next
    (if (s.chan c).state = .throttled && (s.chan c).phase = .rest && (s.chan c).offTimer.isSome then
      s.finish ((s.setChan c { s.chan c with offTimer := none }).askSlot c) false
    else s)

/-- ON_TIMER_EXPIRY (R128): a RUN phase ends. -/
def execOnTimerExpiry (c : Chan) (s : State) : Host.Outcome State Fault Refusal :=
  .next
    (if (s.chan c).state = .throttled && (s.chan c).phase = .run && (s.chan c).onTimer.isSome then
      s.finish (s.endRun c) false
    else s)

/-- R135: the length of a check, ms. -/
def checkMs : Nat := 500

/-- CHECK_TIMER_EXPIRY (R136): the classification becomes the last check result, the notice, and OFF with the reason as
it was. -/
def execCheckTimerExpiry (c : Chan) (r : CheckClass) (s : State) : Host.Outcome State Fault Refusal :=
  .next
    (if (s.chan c).state = .checking && (s.chan c).checkTimer.isSome then
      (s.setChan c { s.chan c with state := .off, checkTimer := none, lastCheck := checkResultOf r }).push .checkResult
        (some c) (checkResultOf r).code checkMs
    else s)

/-! ### The Planner's timers -/

/-- EXCESS_TIMER_EXPIRY (R70): the timer stops and the Planner re-evaluates, with a pass if P is still above D. -/
def execExcessTimerExpiry (s : State) : Host.Outcome State Fault Refusal :=
  .next (if s.planner.excess.isSome then s.stopExcess.reevaluateThen .expiry else s)

/-- RESTORE_QUIET_EXPIRY (R80): the timer stops and the Planner makes a re-evaluation. -/
def execRestoreQuietExpiry (s : State) : Host.Outcome State Fault Refusal :=
  .next
    (if s.planner.restoreQuiet.isSome then
      ({ s with planner := { s.planner with restoreQuiet := none } }).settle settleRounds true
    else s)

end Sys2Proof.Machine
end

