-- ==== Sys2Proof/Machine/Disconnect.lean ====
section
/-!
DEFINITION. The Disconnect Unit (08): the relay pulse, isolation, the entry to RUN, reconnection, and the meanings of
DISCONNECT_RESERVE_UPDATE, ISOLATE_DWELL_COMPLETE, RECONNECT_CHARGE_COMPLETE and RELAY_PULSE_END.
-/

namespace Sys2Proof.Machine

/-- The length of a relay pulse, ms (R155). -/
def pulseMs : Nat := 50

/-- R155: a pulse is started, ending any pulse in flight. -/
def Disconnect.startPulse (d : Disconnect) (k : PulseKind) : Disconnect :=
  { d with pulse := some (k, pulseMs), lastPulse := k }

/-- DISC_OPEN is driven (R155). -/
def State.discOpen (s : State) : Bool := s.disc.pulse.any (fun p => p.1 = .openRelay)

/-- DISC_CLOSE is driven (R155). -/
def State.discClose (s : State) : Bool := s.disc.pulse.any (fun p => p.1 = .closeRelay)

/-! ### Isolation (R158) -/

/-- R47: the comparator takes none of the samples from before an isolation that it has not taken: after the reconnection it
begins with the next battery sample. -/
def State.dropSagSamples (s : State) : State := { s with mail := { s.mail with sag := [] } }

/-- R158 steps 1 to 5 on the blocks other than the Disconnect Unit: every channel cut (R137), the list emptied (R106), the
slot and the Planner's timers cleared (R90), the Sag Monitor at CLEAR (R47), the dwell cancelled (R37), and no expiry
overtaken (R150: the expiry does not happen). -/
def State.isolateBlocks (s : State) : State :=
  (({ (s.mapChans fun _ ch => ch.isolated) with slot := ⟨none, []⟩, planner := ⟨none, none, false⟩ }).emptyStandby.setSag
    SagMon.initial).cancelDwell.dropSagSamples.setOvertaken []

/-- R158 step 6: the state, the reason, the counts and the OPEN pulse. -/
def State.isolateUnit (s : State) (reason : IsoReason) : State :=
  { s with disc :=
      { s.disc with device := .isolated, reason := reason, isolateCount := 0, chargeCount := 0, entryPending := false
                    pulse := some (.openRelay, pulseMs), lastPulse := .openRelay } }

/-- R158: an isolation, with the notices of the aborted checks ahead of the ISOLATED notice. -/
def State.isolate (s : State) (reason : IsoReason) : State :=
  ((s.isolateBlocks.pushAll (s.abortNotices allChans)).isolateUnit reason).push .isolated none reason.code s.disc.vc

/-! ### The entry to RUN and reconnection -/

/-- R154: the entry to RUN from START: the counts 0, the RESUME entries, and a re-evaluation. -/
def State.enterRun (s : State) : State :=
  let s1 : State := { s with disc := { s.disc with device := .run, reason := .none, isolateCount := 0, chargeCount := 0
                                                   entryPending := false } }
  s1.resumeAll.settle settleRounds true

/-- What ends an isolation (R162). -/
inductive Trigger where
  | charge | wake | request
deriving DecidableEq, Repr

/-- CHARGE 1, WAKE 2, REQUEST 3 (R162). -/
def Trigger.code (t : Trigger) : Nat :=
  match t with
  | .charge => 1
  | .wake => 2
  | .request => 3

/-- R39: the cause of the direct level setting of a reconnection. -/
def State.reconnectCause (s : State) : Cause :=
  if s.level.deep < s.level.current then .ease else deepeningCause s.level.byReserve

/-- R162 step 1: the CLOSE pulse, the reason NONE and both counts 0. -/
def State.closeRelay (s : State) : State :=
  { s with disc := { s.disc with reason := .none, isolateCount := 0, chargeCount := 0
                                 pulse := some (.closeRelay, pulseMs), lastPulse := .closeRelay } }

/-- R162: a reconnection, in the order of its steps. -/
def State.reconnect (s : State) (t : Trigger) : State :=
  let s1 := s.closeRelay
  let s2 := s1.setLevelDirect s1.level.deep s1.reconnectCause
  let s3 : State := { s2 with disc := { s2.disc with device := .run } }
  let s4 := s3.armIdle.resumeAll.settle settleRounds true
  s4.push .reconnected none t.code s4.disc.vc

/-- R160: the battery condition of a reconnection by WAKE or REQUEST, with V_cut and the margin as they stand at the event.
The first words of R163 have an edited V_cut count from the next reserve update; the model follows R160 and the last words
of R163 (DESIGN CHOICE, notes/assumptions/26.md). -/
def State.mayReconnect (s : State) : Bool :=
  s.plan.battery.vCut + s.plan.battery.reconnectMargin ≤ s.disc.vc || 0 < s.disc.i

/-- R160: a WAKE event. -/
def State.wakeEvent (s : State) : State :=
  if s.disc.device = .isolated && s.disc.pulse.isNone then
    if s.mayReconnect then s.reconnect .wake
    else s.push .reconnectRefused none s.disc.vc (s.plan.battery.vCut + s.plan.battery.reconnectMargin)
  else s

/-! ### Reserve updates (R156, R159) -/

/-- R156: the condition of the isolation test at an update. -/
def State.isolationCondition (s : State) (u : ReserveUpdate) : Bool :=
  s.level.current = 7 && (u.vc ≤ s.plan.battery.vCut || u.r = 0)

/-- R156: the isolate dwell that stands at an update: read at the update that starts a count from 0. -/
def State.isolateLenAt (s : State) : Nat :=
  if s.disc.isolateCount = 0 then s.plan.battery.isolateDwell else s.disc.isolateLen

/-- R156: the update would complete the isolate dwell. -/
def State.completesIsolation (s : State) (u : ReserveUpdate) : Bool :=
  s.disc.device = .run && s.isolationCondition u && s.isolateLenAt * 10 ≤ s.disc.isolateCount + 1

/-- R159: sixty seconds of updates. -/
def chargeUpdates : Nat := 600

/-- R159: the update counts toward a charge reconnection. -/
def State.chargeCounts (s : State) (u : ReserveUpdate) : Bool :=
  s.disc.reason ≠ .storage && (s.plan.battery.reconnectCharge : Int) ≤ u.i

/-- R159: the update would complete the reconnect-charge count. -/
def State.completesCharge (s : State) (u : ReserveUpdate) : Bool :=
  s.disc.device = .isolated && s.chargeCounts u && chargeUpdates ≤ s.disc.chargeCount + 1

/-- R156: the unit's latest V_c and I. -/
def State.noteUpdate (s : State) (u : ReserveUpdate) : State :=
  { s with disc := { s.disc with vc := u.vc, i := u.i } }

/-- R154: the first reserve update in START: RUN at once, or at the end of the CLOSE pulse in flight. -/
def State.startTakes (s : State) : State :=
  if s.disc.pulse.isNone then s.enterRun
  else { s with disc := { s.disc with entryPending := true } }

/-- R156: the isolation test of an update in RUN. -/
def State.runTakes (s : State) (u : ReserveUpdate) : State :=
  if s.completesIsolation u then s.isolate (if u.vc ≤ s.plan.battery.vCut then .lowVoltage else .empty)
  else if s.isolationCondition u then
    { s with disc := { s.disc with isolateCount := s.disc.isolateCount + 1, isolateLen := s.isolateLenAt } }
  else { s with disc := { s.disc with isolateCount := 0 } }

/-- R159: the charge test of an update in ISOLATED. -/
def State.isolatedTakes (s : State) (u : ReserveUpdate) : State :=
  if s.completesCharge u then s.reconnect .charge
  else { s with disc := { s.disc with chargeCount := if s.chargeCounts u then s.disc.chargeCount + 1 else 0 } }

/-- R154, R156, R159: the Disconnect Unit takes a reserve update. -/
def State.disconnectTakes (s : State) (u : ReserveUpdate) : State :=
  let s1 := s.noteUpdate u
  match s1.disc.device with
  | .start => s1.startTakes
  | .run => s1.runTakes u
  | .isolated => s1.isolatedTakes u

/-- The Disconnect Unit takes the next published update, when there is one. -/
def State.disconnectTakesNext (s : State) : State :=
  match s.mail.disconnect with
  | [] => s
  | u :: rest => ({ s with mail := { s.mail with disconnect := rest } }).disconnectTakes u

/-- The next published update the unit has not taken, when it meets `p`. -/
def State.nextUpdateIs (s : State) (p : ReserveUpdate → Bool) : Bool :=
  match s.mail.disconnect with
  | [] => false
  | u :: _ => p u

/-- DISCONNECT_RESERVE_UPDATE (R156): the unit takes the oldest update it has not taken; with none waiting there is no
event. -/
def execDisconnectReserveUpdate (s : State) : Host.Outcome State Fault Refusal := .next s.disconnectTakesNext

/-- ISOLATE_DWELL_COMPLETE (R156): the update that completes the isolate dwell is taken; an update that completes none is
not this event (DESIGN CHOICE, notes/assumptions/5.md). -/
def execIsolateDwellComplete (s : State) : Host.Outcome State Fault Refusal :=
  .next (if s.nextUpdateIs s.completesIsolation then s.disconnectTakesNext else s)

/-- RECONNECT_CHARGE_COMPLETE (R159): the update that completes the reconnect-charge count is taken. -/
def execReconnectChargeComplete (s : State) : Host.Outcome State Fault Refusal :=
  .next (if s.nextUpdateIs s.completesCharge then s.disconnectTakesNext else s)

/-- RELAY_PULSE_END (R155): the drive is removed; in START an entry to RUN that waited for the CLOSE pulse is made
(R154). -/
def execRelayPulseEnd (s : State) : Host.Outcome State Fault Refusal :=
  .next
    (if s.disc.pulse.isSome then
      let s1 : State := { s with disc := { s.disc with pulse := none } }
      if s1.disc.device = .start && s1.disc.entryPending then s1.enterRun else s1
    else s)

end Sys2Proof.Machine
end

