-- ==== Sys2Proof/Machine/AuxInputs.lean ====
section
/-!
DEFINITION. The auxiliary inputs (07 section 7.1): debounce, activity and WAKE events, and the meanings of AUX_RAW_CHANGE
and STABILITY_PERIOD_END.
-/

namespace Sys2Proof.Machine

/-- The length of a stability period, ms (R140). -/
def stabilityMs : Nat := 50

/-- R140: a change of the raw input. Before acquisition every change starts the 50 ms afresh; after it, a change away from
the debounced level starts or restarts the period and a return to it abandons the period. -/
def AuxInput.rawChange (a : AuxInput) (level : Bool) : AuxInput :=
  if level = a.raw then a
  else { a with raw := level, stability := if a.level = some level then none else Timer.ms stabilityMs }

/-- AUX_RAW_CHANGE (R140). -/
def execAuxRawChange (n : AuxIx) (level : Bool) (s : State) : Host.Outcome State Fault Refusal :=
  .next (s.setAuxIn n (s.aux[n].rawChange level))

/-- R141: the edge of a record matches a transition to `level`. -/
def AuxEdge.hits (e : AuxEdge) (level : Bool) : Bool :=
  match e with
  | .rise => level
  | .fall => !level
  | .both => true

/-- R141: a debounced transition of input `n` to `level`: the activity event to the idle timers, and the WAKE event to the
Disconnect Unit. -/
def State.transition (s : State) (n : AuxIx) (level : Bool) : State :=
  let r := s.plan.aux[n]
  if r.role ≠ .none && r.edge.hits level then
    let s1 := s.auxActivity n
    if r.role = .wake then s1.wakeEvent else s1
  else s

/-- STABILITY_PERIOD_END (R140): the debounced level takes the raw level; the first time after a reset it is acquired
without a transition. -/
def execStabilityPeriodEnd (n : AuxIx) (s : State) : Host.Outcome State Fault Refusal :=
  .next
    (if s.aux[n].stability.isSome then
      let a := s.aux[n]
      let s1 := s.setAuxIn n { a with level := some a.raw, stability := none }
      if a.level.isSome && a.level ≠ some a.raw then s1.transition n a.raw else s1
    else s)

/-- R153: an input after a POWER_ON or BROWNOUT reset: not yet acquired, its first 50 ms running. -/
def AuxInput.afterReset (a : AuxInput) : AuxInput := ⟨a.raw, none, Timer.ms stabilityMs⟩

end Sys2Proof.Machine
end

