-- ==== Sys2Proof/Machine/PlanStore.lean ====
section
/-!
DEFINITION. The Plan Store (11): generation, validity and loading of the stored image, SAVE and LOCK_PLAN, and the meaning
of STORE_WRITE_COMPLETE.
-/

namespace Sys2Proof.Machine

/-- R190: the increase of the plan generation, from 65534 to 0. -/
def nextGeneration (g : Nat) : Nat := if g = 65534 then 0 else g + 1

/-- R190: an accepted plan edit increases the generation. -/
def State.bumpGeneration (s : State) : State :=
  { s with plan := { s.plan with generation := nextGeneration s.plan.generation } }

/-- R194: a clamped field outside its range is loaded clamped to the nearer end. -/
def clampPlan (p : Plan) : Plan :=
  { p with
    channels := Vector.ofFn fun c => clampChannel p.channels[c]
    levels := { p.levels with settings := clampSettings p.levels.settings }
    battery := clampBattery p.battery
    timers := Vector.ofFn fun n => { p.timers[n] with terminal := clamp 1 1440 p.timers[n].terminal } }

/-- R194: the rules the contents of an image must meet, voltages under the system voltage the plan was made for
(DESIGN CHOICE, notes/assumptions/11.md). R194's list does not name the label, so an image whose label breaks R60 is
loaded with it. -/
def validPlan (p : Plan) : Bool :=
  validLevels p.vsys p.levels && validOcv p.vsys p.ocv && validBattery p.vsys p.battery
    && p.channels.toList.all validRecord && p.generation ≤ 65534

/-- A plan load: the plan, and the notice that follows the RESET notice (R194). -/
structure Load where
  plan : Plan
  notice : List (NoticeKind × Option Nat × Nat × Nat)
deriving DecidableEq, Repr

/-- R194: the plan load under the straps. -/
def loadPlan (image : StoredImage) (straps : Straps) : Load :=
  let factory := factoryPlan straps.vsys straps.chem
  match image with
  | .badCheck => ⟨factory, [(.planFactory, none, 1, 0)]⟩
  | .badCode => ⟨factory, [(.planFactory, none, 2, 0)]⟩
  | .plan p =>
    if !validPlan (clampPlan p) then ⟨factory, [(.planFactory, none, 2, 0)]⟩
    else if p.vsys = straps.vsys && p.chem = straps.chem then ⟨clampPlan p, []⟩
    else ⟨factory, [(.planMismatch, none, systemCode p.vsys p.chem, systemCode straps.vsys straps.chem)]⟩

/-- R192: a store write starts: the snapshot is fixed, and the stored image is invalid until the completion. A reset that
interrupts the write finds a check that does not match, so its PLAN_FACTORY notice has value A 1 (DESIGN CHOICE,
notes/assumptions/11.md). -/
def State.startWrite (s : State) : State := { s with store := ⟨.badCheck, some s.plan⟩ }

/-- R193: the plan lock of the working plan. -/
def State.setLock (s : State) (b : Bool) : State := { s with plan := { s.plan with lock := b } }

/-- R192: the notice of a completed write. -/
def savedNotice (matched : Bool) : NoticeKind := if matched then .saved else .saveFailed

/-- STORE_WRITE_COMPLETE (R192): the read-back equals the snapshot or does not; no event without a write in flight. -/
def execStoreWriteComplete (matched : Bool) (s : State) : Host.Outcome State Fault Refusal :=
  .next
    (match s.store.writing with
      | none => s
      | some p =>
        ({ s with store := ⟨if matched then .plan p else .badCheck, none⟩ }).push (savedNotice matched) none p.generation
          (yesNo p.lock))

end Sys2Proof.Machine
end

