-- ==== Sys2Proof/Machine/Edits.lean ====
section
/-!
DEFINITION. The six plan edits as their owners carry them out (R3, R14, R28, R58, R142, R143), each on the body that
follows the expected generation, and the effects of an edit on live state (R4, R29, R59 to R65, R151).
-/

namespace Sys2Proof.Machine

/-- The status codes of a reply (R172). -/
inductive Status where
  | ok | queued | busy | invalid | denied | planLocked | stale | unknownType | notAllowed | tooLow
deriving DecidableEq, Repr

/-- R172. -/
def Status.code (x : Status) : Nat :=
  match x with
  | .ok => 0x00
  | .queued => 0x01
  | .busy => 0x02
  | .invalid => 0x03
  | .denied => 0x04
  | .planLocked => 0x05
  | .stale => 0x06
  | .unknownType => 0x07
  | .notAllowed => 0x08
  | .tooLow => 0x09

/-! ### The Load Table (03) -/

/-- The record of channel `c` replaced in the working plan. -/
def State.setCrec (s : State) (c : Chan) (r : ChannelRec) : State :=
  { s with plan := { s.plan with channels := s.plan.channels.set c r } }

/-- R59: the request clears the active field of a channel. -/
def deactivates (old new : ChannelRec) : Bool := old.active && !new.active

/-- R63, R61: the edit unthrottles a throttled channel: it clears throttle permission or sets the rank to 0. -/
def unthrottles (old new : ChannelRec) : Bool :=
  (old.throttle && !new.throttle) || (old.rank ≠ 0 && new.rank = 0)

/-- R59: a deactivated channel: OFF, reason DEACTIVATED, retry count 0; the last check result is kept. -/
def Channel.deactivated (ch : Channel) : Channel := { ch with state := .off, reason := .deactivated, retryCount := 0 }

/-- R61 to R65: the effects of a replaced record on the live channel: an entry repositioned by a changed rank (R102), and
a throttled channel unthrottled (R63, R130). Changed demand, times, limits and SIG are read live. -/
def State.carryEdit (s : State) (c : Chan) (old new : ChannelRec) : State :=
  if (s.chan c).state = .waiting && old.rank ≠ new.rank then s.repositionEntry c
  else if (s.chan c).state = .throttled && unthrottles old new then s.editUnthrottle c
  else s

/-- R58: SET_CHANNEL on an index and the fields after it. -/
def State.editChannel (s : State) (index : Nat) (body : List Byte) : State × Status :=
  if h : index < 16 then
    let c : Chan := ⟨index, h⟩
    let old := s.crec c
    match channelFromBody old body with
    | none => (s, .invalid)
    | some raw =>
      if !raw.valid then (s, .invalid)
      else if deactivates old raw.fields then
        if (s.chan c).state = .off || (s.chan c).state = .locked then
          ((s.setCrec c raw.fields).setChan c (s.chan c).deactivated, .ok)
        else (s, .notAllowed)
      else ((s.setCrec c raw.fields).carryEdit c old raw.fields, .ok)
  else (s, .invalid)

/-! ### The level table (02) -/

/-- R68: a SET_LEVEL that the Planner is told of: it changed the ceiling in force or one of the Planner's settings. -/
def State.levelEditTells (before after : State) : Bool :=
  before.ceiling ≠ after.ceiling
    || before.plan.levels.settings.excessDwell ≠ after.plan.levels.settings.excessDwell
    || before.plan.levels.settings.restoreDwell ≠ after.plan.levels.settings.restoreDwell
    || before.plan.levels.settings.margin ≠ after.plan.levels.settings.margin
    || before.plan.levels.settings.passLimit ≠ after.plan.levels.settings.passLimit

/-- R28, R29: SET_LEVEL on an index and the fields after it. -/
def State.editLevel (s : State) (index : Nat) (body : List Byte) : State × Status :=
  if h : index < 8 then
    match levelsFromBody s.plan.levels ⟨index, h⟩ body with
    | none => (s, .invalid)
    | some t =>
      if validLevels s.sys.straps.vsys t then
        (({ s with plan := { s.plan with levels := t } }).cancelDwell, .ok)
      else (s, .invalid)
  else (s, .invalid)

/-! ### The battery profile and the OCV table (01) -/

/-- R3: SET_BATTERY on the fields after the generation. -/
def State.editBattery (s : State) (body : List Byte) : State × Status :=
  match batteryFromBody s.plan.battery body with
  | none => (s, .invalid)
  | some b =>
    if validBattery s.sys.straps.vsys b then
      ({ s with plan := { s.plan with battery := b }, est := s.est.reprofile s.plan.battery b }, .ok)
    else (s, .invalid)

/-- R14: SET_OCV on the points after the generation. -/
def State.editOcv (s : State) (body : List Byte) : State × Status :=
  match ocvFromBody s.plan.ocv body with
  | none => (s, .invalid)
  | some t =>
    if validOcv s.sys.straps.vsys t then ({ s with plan := { s.plan with ocv := t } }, .ok) else (s, .invalid)

/-! ### Idle timers and auxiliary inputs (07) -/

/-- R143, R151: SET_TIMER on an index and the fields after it. -/
def State.editTimer (s : State) (index : Nat) (body : List Byte) : State × Status :=
  if h : index < 4 then
    let n : TimerIx := ⟨index, h⟩
    match timerFromBody s.plan.timers[n] body with
    | none => (s, .invalid)
    | some raw =>
      if raw.valid then
        ((({ s with plan := { s.plan with timers := s.plan.timers.set n raw.toRec } }).setIdle n
          raw.toRec.fresh).dropOvertaken n, .ok)
      else (s, .invalid)
  else (s, .invalid)

/-- R142: SET_AUX on an index and the fields after it. -/
def State.editAux (s : State) (index : Nat) (body : List Byte) : State × Status :=
  if h : index < 4 then
    let n : AuxIx := ⟨index, h⟩
    match auxFromBody s.plan.aux[n] body with
    | none => (s, .invalid)
    | some r => ({ s with plan := { s.plan with aux := s.plan.aux.set n r } }, .ok)
  else (s, .invalid)

end Sys2Proof.Machine
end

