-- ==== Sys2Proof/Machine/Replies.lean ====
section
/-!
DEFINITION. The reading requests (10 section 10.2, R178, R179): the reply fields of STATUS, CHANNEL, STANDBY_PAGE, NOTICES
and CONFIG_READ after the reply head.
-/

namespace Sys2Proof.Machine

/-- R178: the aux levels of STATUS: bit n is 1 when AUXn is HIGH. -/
def State.auxLevels (s : State) : Nat :=
  yesNo s.aux[0].reported + 2 * yesNo s.aux[1].reported + 4 * yesNo s.aux[2].reported + 8 * yesNo s.aux[3].reported

/-- R178: the slot holder, 0xFF for none. -/
def State.holderCode (s : State) : Nat :=
  match s.slot.holder with
  | some c => c.val
  | none => 0xFF

/-- R178, R187: the forty bytes of STATUS. -/
def State.statusBytes (s : State) : List Byte :=
  u8 s.disc.device.code ++ u8 s.disc.reason.code
    ++ u8 s.level.current.val ++ u8 s.level.pending.code ++ u16 s.dwellRemaining
    ++ u16 s.est.r ++ u16 s.est.vb ++ u16 s.est.vc ++ i16 s.est.i
    ++ i8 s.est.temp ++ u8 (yesNo s.est.tempValid)
    ++ u16 (s.est.qUse / 3600000)
    ++ u8 (yesNo s.est.synced) ++ u8 s.sag.state.code
    ++ u16 s.totalT ++ u16 s.totalP ++ u16 s.ceiling
    ++ u8 s.holderCode
    ++ u8 s.standby.entries.length ++ u8 s.ring.notices.length
    ++ u8 s.sys.causes.code
    ++ u16 s.plan.generation ++ u8 (yesNo s.plan.lock) ++ u8 (yesNo s.sys.service)
    ++ u8 s.auxLevels
    ++ u8 (yesNo s.store.writing.isSome)
    ++ u32 s.sys.uptime

/-- R178: the throttle flags: bit 0 waiting for the slot, bit 1 unthrottle pending. -/
def State.throttleFlags (s : State) (c : Chan) : Nat :=
  yesNo (s.waitsForSlot c) + 2 * yesNo (s.chan c).unthrottlePending

/-- R110: the origin of a channel's entry, 0 for none. -/
def State.originCode (s : State) (c : Chan) : Nat :=
  match s.entry? c with
  | some e => e.origin.code
  | none => 0

/-- R178, R188: the sixteen bytes of CHANNEL. -/
def State.channelBytes (s : State) (c : Chan) : List Byte :=
  let ch := s.chan c
  u8 c.val ++ u8 ch.state.code ++ u8 ch.phase.code ++ u8 (s.throttleFlags c) ++ u8 ch.reason.code ++ u8 ch.intent.code
    ++ u8 (s.originCode c) ++ u8 (s.position c) ++ u16 ch.m ++ u16 (s.accounted c) ++ u16 (s.timeRemaining c)
    ++ u8 ch.retryCount ++ u8 ch.lastCheck.code

/-- 09 section 9.6: a Standby List entry as STANDBY_PAGE returns it. -/
def State.entryBytes (s : State) (e : Entry) : List Byte :=
  u8 e.channel.val ++ u8 e.origin.code ++ u8 (yesNo e.forced + 2 * yesNo e.held) ++ u32 e.time
    ++ u8 (s.rank e.channel) ++ u16 (s.crec e.channel).demand

/-- R108: the entries of the page that starts at a position. -/
def State.page (s : State) (start : Nat) : List Entry := (s.standby.entries.drop (start - 1)).take 4

/-- R108, R178: the fields of STANDBY_PAGE. -/
def State.pageBytes (s : State) (start : Nat) : List Byte :=
  u8 s.standby.version ++ u8 s.standby.entries.length ++ u8 start ++ u8 (s.page start).length
    ++ (s.page start).flatMap s.entryBytes

/-- 09 section 9.6: a notice as NOTICES returns it; no subject is 0xFF. -/
def Notice.bytes (n : Notice) : List Byte :=
  u8 n.kind.code ++ u32 n.time ++ u8 (n.subject.getD 0xFF) ++ u16 n.a ++ u16 n.b

/-- R185: the ring after NOTICES: up to four notices removed from the head, the lost flag no. -/
def Ring.taken (g : Ring) : Ring := ⟨g.notices.drop 4, false⟩

/-- R185, R178: the fields of NOTICES. -/
def Ring.noticesBytes (g : Ring) : List Byte :=
  u8 (yesNo g.lost) ++ u8 (g.notices.drop 4).length ++ u8 (g.notices.take 4).length
    ++ (g.notices.take 4).flatMap Notice.bytes

/-- R179: the head of every CONFIG_READ reply: the section, the index as sent, the plan generation. -/
def State.configHead (s : State) (code : Nat) (index : Byte) : List Byte :=
  u8 code ++ [index] ++ u16 s.plan.generation

/-- R49: section CHANNEL. -/
def State.configChannel (s : State) (index : Byte) (c : Chan) : List Byte :=
  s.configHead 0 index ++ (s.crec c).bytes

/-- R179: section LEVEL. -/
def State.configLevel (s : State) (index : Byte) (l : Level) : List Byte := s.configHead 1 index ++ s.plan.levels.bytes l

/-- R179: section BATTERY; the index is read and ignored. -/
def State.configBattery (s : State) (index : Byte) : List Byte := s.configHead 2 index ++ s.plan.battery.bytes

/-- R179: section OCV; the index is read and ignored. -/
def State.configOcv (s : State) (index : Byte) : List Byte := s.configHead 3 index ++ ocvBytes s.plan.ocv

/-- R145: section TIMER: the record, the state and the count. -/
def State.configTimer (s : State) (index : Byte) (n : TimerIx) : List Byte :=
  s.configHead 4 index ++ s.plan.timers[n].bytes ++ u8 s.idle[n].state.code ++ u32 s.idle[n].count

/-- R142: section AUX: the role, the edge and the debounced level. -/
def State.configAux (s : State) (index : Byte) (n : AuxIx) : List Byte :=
  s.configHead 5 index ++ s.plan.aux[n].bytes ++ u8 (yesNo s.aux[n].reported)

end Sys2Proof.Machine
end

