-- ==== Sys2Proof/Machine/Owners.lean ====
section
/-!
DEFINITION. What the owner of each request type does with an admitted request (R177): the new state, the status, and the
reply fields after the head. Plan edits pass the Plan Store's generation test first (R191).
-/

namespace Sys2Proof.Machine

/-- What an owner answers: the state after the event, the status, the reply fields of an OK or QUEUED reply, and the summary
byte. Fields and summary are built after the request's own effects (R170) and before the Start Slot and the Planner act on
them (R132; DEDUCED for the requests other than SWITCH ON, notes/assumptions/9.md). -/
structure Answer where
  state : State
  status : Status
  fields : List Byte
  summary : Byte
deriving DecidableEq, Repr

/-- An answer whose reply is built from the state that the event leaves. -/
def Answer.whole (s : State) (x : Status) (fields : List Byte) : Answer := ⟨s, x, fields, s.summary⟩

/-- An answer whose reply is built from `own`, before the Start Slot and the Planner make `final` of it. -/
def Answer.before (own final : State) (x : Status) (fields : List Byte) : Answer := ⟨final, x, fields, own.summary⟩

/-- An answer without fields. -/
def Answer.plain (s : State) (x : Status) : Answer := .whole s x []

/-! ### Reading requests -/

/-- STATUS (R187). -/
def ownStatus (s : State) : Answer := .whole s .ok s.statusBytes

/-- CHANNEL (R188); the index passed the link's test. -/
def ownChannel (body : List Byte) (s : State) : Answer :=
  let i := (body.getD 0 0).toNat
  if h : i < 16 then .whole s .ok (s.channelBytes ⟨i, h⟩) else .plain s .invalid

/-- STANDBY_PAGE (R108): a start position of 0 or above 16 is INVALID. -/
def ownStandbyPage (body : List Byte) (s : State) : Answer :=
  let p := (body.getD 0 0).toNat
  if 1 ≤ p && p ≤ 16 then .whole s .ok (s.pageBytes p) else .plain s .invalid

/-- NOTICES (R185). -/
def ownNotices (s : State) : Answer := .whole { s with ring := s.ring.taken } .ok s.ring.noticesBytes

/-- CONFIG_READ (R179); the section and the index passed the link's test. -/
def ownConfigRead (body : List Byte) (s : State) : Answer :=
  let index := body.getD 1 0
  let i := index.toNat
  match (body.getD 0 0).toNat with
  | 0 => if h : i < 16 then .whole s .ok (s.configChannel index ⟨i, h⟩) else .plain s .invalid
  | 1 => if h : i < 8 then .whole s .ok (s.configLevel index ⟨i, h⟩) else .plain s .invalid
  | 2 => .whole s .ok (s.configBattery index)
  | 3 => .whole s .ok (s.configOcv index)
  | 4 => if h : i < 4 then .whole s .ok (s.configTimer index ⟨i, h⟩) else .plain s .invalid
  | 5 => if h : i < 4 then .whole s .ok (s.configAux index ⟨i, h⟩) else .plain s .invalid
  | _ => .plain s .invalid

/-! ### Acting USER requests -/

/-- R132: a SWITCH reply that is QUEUED carries the entry's position in `own`, the state before the Planner acts. -/
def queuedReply (own : State) (c : Chan) (final : State) : Answer := .before own final .queued (u8 (own.position c))

/-- SWITCH ON of a channel (R132), after the activity of R146. -/
def switchOnChannel (s : State) (c : Chan) (forced : Bool) : Answer :=
  if !(s.crec c).active || s.disc.device = .isolated then .plain s .notAllowed
  else
    match (s.chan c).state with
    | .off =>
      let s1 := (s.setChan c { s.chan c with state := .waiting }).insertEntry c .request forced
      queuedReply s1 c (s.finish s1 false)
    | .waiting =>
      let s1 := if forced then s.forceEntry c else s
      queuedReply s1 c (s.finish s1 false)
    | .starting => .plain s .ok
    | .on => .plain s .ok
    | .throttled => .plain s .ok
    | .rundown =>
      .plain (if (s.chan c).intent = .off then s.setChan c { s.chan c with intent := .waitRequest } else s) .ok
    | .tripped => .plain s .notAllowed
    | .locked => .plain s .notAllowed
    | .checking => .plain s .notAllowed

/-- SWITCH OFF of a channel (R133), after the activity of R146: always OK. -/
def switchOffChannel (s : State) (c : Chan) : Answer :=
  let own := s.switchOff c
  .before own (s.finish own false) .ok []

/-- SWITCH (R180): bit 0 of the control byte is the action, bit 1 the forcing; the request is an activity for the idle
timers that count the channel (R146), and a forced SWITCH ON may overtake their expiry (R107). -/
def ownSwitch (body : List Byte) (s : State) : Answer :=
  let i := (body.getD 0 0).toNat
  let control := body.getD 1 0
  if h : i < 16 then
    let c : Chan := ⟨i, h⟩
    let s1 := (s.noteOvertaken c (control.getLsbD 0 && control.getLsbD 1)).panelActivity c
    if control.getLsbD 0 then switchOnChannel s1 c (control.getLsbD 1) else switchOffChannel s1 c
  else .plain s .invalid

/-- CLEAR_LOCKOUT (R134). -/
def ownClearLockout (body : List Byte) (s : State) : Answer :=
  let i := (body.getD 0 0).toNat
  if h : i < 16 then
    let c : Chan := ⟨i, h⟩
    if (s.chan c).state = .locked then
      .plain (s.setChan c { s.chan c with state := .off, retryCount := 0, reason := .panel }) .ok
    else .plain s .notAllowed
  else .plain s .invalid

/-- CHECK (R135). -/
def ownCheck (body : List Byte) (s : State) : Answer :=
  let i := (body.getD 0 0).toNat
  if h : i < 16 then
    let c : Chan := ⟨i, h⟩
    if (s.crec c).active && (s.chan c).state = .off && s.disc.device = .run then
      .plain (s.setChan c { s.chan c with state := .checking, checkTimer := Timer.ms checkMs }) .ok
    else .plain s .notAllowed
  else .plain s .invalid

/-- RECONNECT (R161); START does not reach the unit. -/
def ownReconnect (s : State) : Answer :=
  match s.disc.device with
  | .isolated =>
    if s.disc.pulse.isSome then .plain s .busy
    else if s.mayReconnect then .plain (s.reconnect .request) .ok
    else .plain s .tooLow
  | .run => if s.disc.pulse.isSome then .plain s .busy else .plain s .ok
  | .start => .plain s .busy

/-- CLEAR_CAUSES (R198). -/
def ownClearCauses (s : State) : Answer :=
  .plain { s with sys := { s.sys with causes := ⟨false, false, false⟩ } } .ok

/-! ### INSTALLER requests -/

/-- R177, R191: the Plan Store's part of a plan edit: the generation test, the owner on the body after the generation, the
increase on OK. Every reply carries the generation as it then stands (R181). -/
def planEdit (body : List Byte) (s : State) (owner : List Byte → State × Status) : State × Status :=
  let expected := beNat (body.take 2)
  if expected ≠ 65535 && expected ≠ s.plan.generation then (s, .stale)
  else
    match owner (body.drop 2) with
    | (s', .ok) => (s'.bumpGeneration, .ok)
    | (_, x) => (s, x)

/-- R181: the reply of a plan edit carries the generation; `acts` is what the Start Slot and the Planner make of an accepted
edit. -/
def editAnswer (x : State × Status) (acts : State → State) : Answer :=
  .before x.1 (if x.2 = .ok then acts x.1 else x.1) x.2 (u16 x.1.plan.generation)

/-- R58, R68: SET_CHANNEL; the Planner re-evaluates once after all the effects of an accepted edit. -/
def ownSetChannel (body : List Byte) (s : State) : Answer :=
  editAnswer (planEdit body s fun rest => s.editChannel (rest.getD 0 0).toNat (rest.drop 1)) fun t => s.finish t true

/-- R28, R29: SET_LEVEL. -/
def ownSetLevel (body : List Byte) (s : State) : Answer :=
  editAnswer (planEdit body s fun rest => s.editLevel (rest.getD 0 0).toNat (rest.drop 1)) fun t =>
    s.finish t (s.levelEditTells t)

/-- R3: SET_BATTERY. -/
def ownSetBattery (body : List Byte) (s : State) : Answer := editAnswer (planEdit body s s.editBattery) id

/-- R14: SET_OCV. -/
def ownSetOcv (body : List Byte) (s : State) : Answer := editAnswer (planEdit body s s.editOcv) id

/-- R143: SET_TIMER. -/
def ownSetTimer (body : List Byte) (s : State) : Answer :=
  editAnswer (planEdit body s fun rest => s.editTimer (rest.getD 0 0).toNat (rest.drop 1)) id

/-- R142: SET_AUX. -/
def ownSetAux (body : List Byte) (s : State) : Answer :=
  editAnswer (planEdit body s fun rest => s.editAux (rest.getD 0 0).toNat (rest.drop 1)) id

/-- SET_CHARGE (R20): the reply carries the new R. -/
def ownSetCharge (body : List Byte) (s : State) : Answer :=
  let s' := s.manualSync (beNat (body.take 2))
  .whole s' .ok (u16 s'.est.r)

/-- ISOLATE (R157); START does not reach the unit. -/
def ownIsolate (s : State) : Answer :=
  match s.disc.device with
  | .run => if s.disc.pulse.isSome then .plain s .busy else .plain (s.isolate .storage) .ok
  | .isolated => .plain { s with disc := { s.disc with reason := .storage, chargeCount := 0 } } .ok
  | .start => .plain s .busy

/-- SAVE (R192). -/
def ownSave (s : State) : Answer :=
  if s.store.writing.isSome then .plain s .busy else .plain s.startWrite .ok

/-- LOCK_PLAN (R193). -/
def ownLockPlan (s : State) : Answer :=
  if s.store.writing.isSome then .plain s .busy else .plain (s.setLock true).startWrite .ok

/-- RESTART (R197): the restart itself follows the reply. -/
def ownRestart (s : State) : Answer :=
  if s.store.writing.isSome then .plain s .busy
  else .plain { s with sys := { s.sys with restartPending := true } } .ok

end Sys2Proof.Machine
end

