-- ==== Sys2Proof/Machine/Link.lean ====
section
/-!
DEFINITION. The Panel Link (09): the request catalogue, admission (R173), the reply, the receiver (R166, R168), and the
meanings of GAP_TIMER_EXPIRY, FRAME_REJECTED, REPLY_START, REPLY_COMPLETE and BYTE_RECEIVED.
-/

namespace Sys2Proof.Machine

/-! ### The catalogue (R177) -/

/-- The request types of the catalogue. -/
inductive ReqType where
  | status | channel | standbyPage | notices | configRead
  | switch | clearLockout | check | reconnect | clearCauses
  | setChannel | setLevel | setBattery | setOcv | setTimer | setAux
  | setCharge | isolate | save | lockPlan | restart
deriving DecidableEq, Repr

/-- R177: the type byte. -/
def ReqType.code (t : ReqType) : Byte :=
  match t with
  | .status => 0x01
  | .channel => 0x02
  | .standbyPage => 0x03
  | .notices => 0x04
  | .configRead => 0x05
  | .switch => 0x10
  | .clearLockout => 0x11
  | .check => 0x12
  | .reconnect => 0x13
  | .clearCauses => 0x14
  | .setChannel => 0x20
  | .setLevel => 0x21
  | .setBattery => 0x22
  | .setOcv => 0x23
  | .setTimer => 0x24
  | .setAux => 0x25
  | .setCharge => 0x28
  | .isolate => 0x29
  | .save => 0x2A
  | .lockPlan => 0x2B
  | .restart => 0x2C

/-- The catalogue in its order. -/
def catalogue : List ReqType :=
  [.status, .channel, .standbyPage, .notices, .configRead, .switch, .clearLockout, .check, .reconnect, .clearCauses,
    .setChannel, .setLevel, .setBattery, .setOcv, .setTimer, .setAux, .setCharge, .isolate, .save, .lockPlan, .restart]

/-- The type a type byte names, when it is in the catalogue. -/
def reqTypeOf (b : Byte) : Option ReqType := catalogue.find? (fun t => t.code = b)

/-- R177: an INSTALLER type. -/
def ReqType.installer (t : ReqType) : Bool := 0x20 ≤ t.code.toNat

/-- R175: a type gated by the plan lock: every INSTALLER type but ISOLATE and RESTART. -/
def ReqType.gated (t : ReqType) : Bool := t.installer && t ≠ .isolate && t ≠ .restart

/-- R177: a plan edit. -/
def ReqType.isPlanEdit (t : ReqType) : Bool := 0x20 ≤ t.code.toNat && t.code.toNat ≤ 0x25

/-- R177: the minimum body. -/
def ReqType.minBody (t : ReqType) : Nat :=
  match t with
  | .status => 0
  | .channel => 1
  | .standbyPage => 1
  | .notices => 0
  | .configRead => 2
  | .switch => 2
  | .clearLockout => 1
  | .check => 1
  | .reconnect => 0
  | .clearCauses => 0
  | .setChannel => 3
  | .setLevel => 3
  | .setBattery => 2
  | .setOcv => 2
  | .setTimer => 3
  | .setAux => 3
  | .setCharge => 2
  | .isolate => 0
  | .save => 0
  | .lockPlan => 0
  | .restart => 0

/-- R176: the index limit of a CONFIG_READ section; BATTERY and OCV ignore the index. -/
def sectionAccepts (code index : Nat) : Bool :=
  match code with
  | 0 => index ≤ 15
  | 1 => index ≤ 7
  | 2 => true
  | 3 => true
  | 4 => index ≤ 3
  | 5 => index ≤ 3
  | _ => false

/-- R176: the link's own field tests. -/
def ReqType.fieldsPass (t : ReqType) (body : List Byte) : Bool :=
  let b0 := body.getD 0 0
  let b1 := body.getD 1 0
  match t with
  | .channel => b0.toNat ≤ 15
  | .clearLockout => b0.toNat ≤ 15
  | .check => b0.toNat ≤ 15
  | .switch => b0.toNat ≤ 15 && b1.toNat ≤ 3
  | .configRead => sectionAccepts b0.toNat b1.toNat
  | .status => true
  | .standbyPage => true
  | .notices => true
  | .reconnect => true
  | .clearCauses => true
  | .setChannel => true
  | .setLevel => true
  | .setBattery => true
  | .setOcv => true
  | .setTimer => true
  | .setAux => true
  | .setCharge => true
  | .isolate => true
  | .save => true
  | .lockPlan => true
  | .restart => true

/-- R177: dispatch to the owner. -/
def ReqType.own (t : ReqType) (body : List Byte) (s : State) : Answer :=
  match t with
  | .status => ownStatus s
  | .channel => ownChannel body s
  | .standbyPage => ownStandbyPage body s
  | .notices => ownNotices s
  | .configRead => ownConfigRead body s
  | .switch => ownSwitch body s
  | .clearLockout => ownClearLockout body s
  | .check => ownCheck body s
  | .reconnect => ownReconnect s
  | .clearCauses => ownClearCauses s
  | .setChannel => ownSetChannel body s
  | .setLevel => ownSetLevel body s
  | .setBattery => ownSetBattery body s
  | .setOcv => ownSetOcv body s
  | .setTimer => ownSetTimer body s
  | .setAux => ownSetAux body s
  | .setCharge => ownSetCharge body s
  | .isolate => ownIsolate s
  | .save => ownSave s
  | .lockPlan => ownLockPlan s
  | .restart => ownRestart s

/-! ### Admission (R173) and the reply (R170) -/

/-- R173 steps 2 to 6 on a request whose type is known: the refusal, when a test fails. -/
def ReqType.refusal (t : ReqType) (body : List Byte) (s : State) : Option Status :=
  if body.length < t.minBody then some .invalid
  else if t.installer && !s.sys.service then some .denied
  else if t.gated && s.plan.lock then some .planLocked
  else if !t.fieldsPass body then some .invalid
  else none

/-- R172, R177: the reply fields of a status that is not OK or QUEUED: the generation for a plan edit, the position byte 0
for SWITCH, none otherwise. -/
def refusalFields (t : Option ReqType) (s : State) : List Byte :=
  match t with
  | some t => if t.isPlanEdit then u16 s.plan.generation else if t = .switch then u8 0 else []
  | none => []

/-- R177: the reply fields of an answer. -/
def answerFields (t : ReqType) (a : Answer) : List Byte :=
  if a.status = .ok then (if t = .switch then u8 0 else a.fields)
  else if a.status = .queued then a.fields
  else refusalFields (some t) a.state

/-- R173: a taken request admitted or refused, and carried out. -/
def State.handle (s : State) (ty : Byte) (body : List Byte) : Answer :=
  if s.disc.device = .start then .whole s .busy (refusalFields (reqTypeOf ty) s)
  else
    match reqTypeOf ty with
    | none => .plain s .unknownType
    | some t =>
      match t.refusal body s with
      | some x => .whole s x (refusalFields (some t) s)
      | none =>
        let a := t.own body s
        { a with fields := answerFields t a }

/-- 09 section 9.6: a frame from its destination, source, tag, type and body, with its check (R167). -/
def frameOf (dst src tag ty : Byte) (body : List Byte) : List Byte :=
  let inner := [dst, src, tag, ty, BitVec.ofNat 8 body.length] ++ body
  0xC3 :: inner ++ u16 (crc inner).toNat

/-- R170: the body of a reply: the head, then the fields. -/
def replyBody (a : Answer) : List Byte := u8 a.status.code ++ [a.summary] ++ a.fields

/-- R170: the reply frame to a request from `src`. -/
def replyFrame (s : State) (src tag ty : Byte) (a : Answer) : List Byte :=
  frameOf src (linkAddress s.sys.straps) tag (ty ||| 0x80) (replyBody a)

/-- The gap timer restarted (R166). -/
def gapMs : Nat := 10

/-- R166: the Panel Link's receiver after a change of state, its buffer and the gap timer restarted. -/
def State.setRx (s : State) (rx : RxState) (buffer : List Byte) : State :=
  { s with link := { s.link with rx := rx, buffer := buffer, gap := Timer.ms gapMs } }

/-- R168, R170, R172: a request is taken: the receiver enters HOLD, the request is admitted and carried out as one event,
and its reply is pending. -/
def State.takeRequest (s : State) (src tag ty : Byte) (body : List Byte) : State :=
  let a := (s.setRx .hold []).handle ty body
  { a.state with link := { a.state.link with reply := .pending (replyFrame s src tag ty a) } }

/-- R174: the SERVICE input as it stands. -/
def State.setService (s : State) (b : Bool) : State := { s with sys := { s.sys with service := b } }

/-- R168: the address of a panel device. -/
def panelAddress (n : Fin 8) : Byte := BitVec.ofNat 8 (0x40 + n.val)

/-- R166: the link takes no request: its receiver is in HOLD until the reply has been sent, and between the RESTART reply
and the restart the link holds the line (R197). -/
def State.linkHeld (s : State) : Bool := s.link.rx = .hold || s.sys.restartPending

/-- A request frame of a panel device that arrives whole after a quiet line (R166, R168; DESIGN CHOICE,
notes/assumptions/6.md): it is
taken unless the link is held, when its bytes are discarded. A body above 56 bytes makes the receiver skip. -/
def State.arrive (s : State) (p : Peer) (ty : Byte) (body : List Byte) : State :=
  let s1 := s.setService p.service
  if s1.linkHeld then s1.setRx s1.link.rx s1.link.buffer
  else if 56 < body.length then s1.setRx .skip []
  else s1.takeRequest (panelAddress p.panel) p.tag ty body

/-! ### The receiver (R166, R168) -/

/-- A frame buffer split into its parts (09 section 9.6). -/
structure Frame where
  dst : Byte
  src : Byte
  tag : Byte
  ty : Byte
  body : List Byte
  check : BitVec 16
deriving DecidableEq, Repr

/-- The frame a complete buffer holds: start byte 0xC3, a body length of at most 56, and exactly 8 + n bytes. -/
def parseFrame (buf : List Byte) : Option Frame :=
  match buf with
  | start :: dst :: src :: tag :: ty :: n :: rest =>
    if start = 0xC3 && n.toNat ≤ 56 && rest.length = n.toNat + 2 then
      some ⟨dst, src, tag, ty, rest.take n.toNat, BitVec.ofNat 16 (beNat (rest.drop n.toNat))⟩
    else none
  | _ => none

/-- R167, R168 test 1: the check of a frame equals its check bytes. -/
def Frame.checkPasses (f : Frame) : Bool :=
  crc ([f.dst, f.src, f.tag, f.ty, BitVec.ofNat 8 f.body.length] ++ f.body) = f.check

/-- R168 test 3: the source is a panel device address. -/
def fromPanel (src : Byte) : Bool := 0x40 ≤ src.toNat && src.toNat ≤ 0x47

/-- R168: the three tests of a complete frame. -/
def State.acceptsFrame (s : State) (f : Frame) : Bool :=
  f.checkPasses && f.dst = linkAddress s.sys.straps && fromPanel f.src

/-- R168: a complete frame is tested; a request is taken, any other frame is dropped and the receiver skips. -/
def State.frameComplete (s : State) (buf : List Byte) : State :=
  match parseFrame buf with
  | none => s.setRx .skip []
  | some f =>
    if s.acceptsFrame f && !s.sys.restartPending then s.takeRequest f.src f.tag f.ty f.body else s.setRx .skip []

/-- R166: the byte is appended in RECEIVING. -/
def State.appendByte (s : State) (b : Byte) : State :=
  let buf := s.link.buffer ++ [b]
  if buf.length = 6 && 56 < b.toNat then s.setRx .skip []
  else if 8 + (buf.getD 5 0).toNat ≤ buf.length then s.frameComplete buf
  else s.setRx .receiving buf

/-- R166: a byte on the line by the receiver's state; every byte restarts the gap timer. -/
def State.receiveByte (s : State) (b : Byte) (framingError : Bool) : State :=
  match s.link.rx with
  | .idle => if b = 0xC3 && !framingError then s.setRx .receiving [b] else s.setRx .skip []
  | .receiving => if framingError then s.setRx .skip [] else s.appendByte b
  | .skip => s.setRx .skip []
  | .hold => s.setRx .hold s.link.buffer

/-- BYTE_RECEIVED (R166). -/
def execByteReceived (b : Byte) (framingError service : Bool) (s : State) : Host.Outcome State Fault Refusal :=
  .next ((s.setService service).receiveByte b framingError)

/-- GAP_TIMER_EXPIRY (R166): RECEIVING empties its buffer, RECEIVING and SKIP go to IDLE, HOLD stays. -/
def execGapTimerExpiry (s : State) : Host.Outcome State Fault Refusal :=
  .next
    (if s.link.gap.isSome then
      match s.link.rx with
      | .hold => { s with link := { s.link with gap := none } }
      | .idle => { s with link := { s.link with gap := none } }
      | .receiving => { s with link := { s.link with rx := .idle, buffer := [], gap := none } }
      | .skip => { s with link := { s.link with rx := .idle, buffer := [], gap := none } }
    else s)

/-- FRAME_REJECTED (R168): a complete frame that arrives after a quiet line and fails a test is dropped and the receiver
skips; in HOLD its bytes are discarded; a frame that passes the tests, or is not a complete frame, is not this event. -/
def execFrameRejected (frame : List Byte) (s : State) : Host.Outcome State Fault Refusal :=
  .next
    (match parseFrame frame with
      | none => s
      | some f =>
        if s.acceptsFrame f then s
        else if s.link.rx = .hold then s.setRx .hold s.link.buffer
        else s.setRx .skip [])

/-- REPLY_START (R170): the pending reply is being sent. -/
def execReplyStart (s : State) : Host.Outcome State Fault Refusal :=
  .next
    (match s.link.reply with
      | .none => s
      | .pending f => { s with link := { s.link with reply := .sending f } }
      | .sending _ => s)

/-- REPLY_COMPLETE (R170): the last byte has been sent: the reply NONE, the receiver in SKIP, the gap timer running. -/
def execReplyComplete (s : State) : Host.Outcome State Fault Refusal :=
  .next
    (match s.link.reply with
      | .none => s
      | .pending _ => s
      | .sending _ => ({ s with link := { s.link with reply := .none } }).setRx .skip [])

end Sys2Proof.Machine
end

