-- ==== Sys2Proof/Machine/Requests.lean ====
section
/-!
DEFINITION. The meaning of every request command: the request arrives whole from a panel device and passes the link's
admission (R173) to its owner, whose part of the rule stands in Machine/Owners.lean.
-/

namespace Sys2Proof.Machine

/-- A request whose type is not in the catalogue (R173 step 2). -/
def execUnknownTypeRequest (p : Peer) (ty : Byte) (body : List Byte) (s : State) : Host.Outcome State Fault Refusal :=
  .next (s.arrive p ty body)

/-- STATUS (R187). -/
def execStatus (p : Peer) (body : List Byte) (s : State) : Host.Outcome State Fault Refusal :=
  .next (s.arrive p ReqType.status.code body)

/-- CHANNEL (R188). -/
def execChannel (p : Peer) (body : List Byte) (s : State) : Host.Outcome State Fault Refusal :=
  .next (s.arrive p ReqType.channel.code body)

/-- STANDBY_PAGE (R108). -/
def execStandbyPage (p : Peer) (body : List Byte) (s : State) : Host.Outcome State Fault Refusal :=
  .next (s.arrive p ReqType.standbyPage.code body)

/-- NOTICES (R185). -/
def execNotices (p : Peer) (body : List Byte) (s : State) : Host.Outcome State Fault Refusal :=
  .next (s.arrive p ReqType.notices.code body)

/-- CONFIG_READ of section CHANNEL, code 0 (R49, R179). -/
def execConfigReadChannel (p : Peer) (index : Byte) (extra : List Byte) (s : State) : Host.Outcome State Fault Refusal :=
  .next (s.arrive p ReqType.configRead.code (0 :: index :: extra))

/-- CONFIG_READ of section LEVEL, code 1 (R179). -/
def execConfigReadLevel (p : Peer) (index : Byte) (extra : List Byte) (s : State) : Host.Outcome State Fault Refusal :=
  .next (s.arrive p ReqType.configRead.code (1 :: index :: extra))

/-- CONFIG_READ of section BATTERY, code 2 (R179). -/
def execConfigReadBattery (p : Peer) (index : Byte) (extra : List Byte) (s : State) : Host.Outcome State Fault Refusal :=
  .next (s.arrive p ReqType.configRead.code (2 :: index :: extra))

/-- CONFIG_READ of section OCV, code 3 (R179). -/
def execConfigReadOcv (p : Peer) (index : Byte) (extra : List Byte) (s : State) : Host.Outcome State Fault Refusal :=
  .next (s.arrive p ReqType.configRead.code (3 :: index :: extra))

/-- CONFIG_READ of section TIMER, code 4 (R145, R179). -/
def execConfigReadTimer (p : Peer) (index : Byte) (extra : List Byte) (s : State) : Host.Outcome State Fault Refusal :=
  .next (s.arrive p ReqType.configRead.code (4 :: index :: extra))

/-- CONFIG_READ of section AUX, code 5 (R142, R179). -/
def execConfigReadAux (p : Peer) (index : Byte) (extra : List Byte) (s : State) : Host.Outcome State Fault Refusal :=
  .next (s.arrive p ReqType.configRead.code (5 :: index :: extra))

/-- SWITCH with the action ON (R132, R180). -/
def execSwitchOn (p : Peer) (index : Byte) (flags : BitVec 7) (extra : List Byte) (s : State) :
    Host.Outcome State Fault Refusal :=
  .next (s.arrive p ReqType.switch.code (index :: controlByte flags true :: extra))

/-- SWITCH with the action OFF (R133, R180). -/
def execSwitchOff (p : Peer) (index : Byte) (flags : BitVec 7) (extra : List Byte) (s : State) :
    Host.Outcome State Fault Refusal :=
  .next (s.arrive p ReqType.switch.code (index :: controlByte flags false :: extra))

/-- CLEAR_LOCKOUT (R134). -/
def execClearLockout (p : Peer) (body : List Byte) (s : State) : Host.Outcome State Fault Refusal :=
  .next (s.arrive p ReqType.clearLockout.code body)

/-- CHECK (R135). -/
def execCheck (p : Peer) (body : List Byte) (s : State) : Host.Outcome State Fault Refusal :=
  .next (s.arrive p ReqType.check.code body)

/-- RECONNECT (R161). -/
def execReconnect (p : Peer) (body : List Byte) (s : State) : Host.Outcome State Fault Refusal :=
  .next (s.arrive p ReqType.reconnect.code body)

/-- CLEAR_CAUSES (R198). -/
def execClearCauses (p : Peer) (body : List Byte) (s : State) : Host.Outcome State Fault Refusal :=
  .next (s.arrive p ReqType.clearCauses.code body)

/-- SET_CHANNEL (R58). -/
def execSetChannel (p : Peer) (body : List Byte) (s : State) : Host.Outcome State Fault Refusal :=
  .next (s.arrive p ReqType.setChannel.code body)

/-- SET_LEVEL (R28). -/
def execSetLevel (p : Peer) (body : List Byte) (s : State) : Host.Outcome State Fault Refusal :=
  .next (s.arrive p ReqType.setLevel.code body)

/-- SET_BATTERY (R3). -/
def execSetBattery (p : Peer) (body : List Byte) (s : State) : Host.Outcome State Fault Refusal :=
  .next (s.arrive p ReqType.setBattery.code body)

/-- SET_OCV (R14). -/
def execSetOcv (p : Peer) (body : List Byte) (s : State) : Host.Outcome State Fault Refusal :=
  .next (s.arrive p ReqType.setOcv.code body)

/-- SET_TIMER (R143). -/
def execSetTimer (p : Peer) (body : List Byte) (s : State) : Host.Outcome State Fault Refusal :=
  .next (s.arrive p ReqType.setTimer.code body)

/-- SET_AUX (R142). -/
def execSetAux (p : Peer) (body : List Byte) (s : State) : Host.Outcome State Fault Refusal :=
  .next (s.arrive p ReqType.setAux.code body)

/-- SET_CHARGE (R20). -/
def execSetCharge (p : Peer) (body : List Byte) (s : State) : Host.Outcome State Fault Refusal :=
  .next (s.arrive p ReqType.setCharge.code body)

/-- ISOLATE (R157). -/
def execIsolate (p : Peer) (body : List Byte) (s : State) : Host.Outcome State Fault Refusal :=
  .next (s.arrive p ReqType.isolate.code body)

/-- SAVE (R192). -/
def execSave (p : Peer) (body : List Byte) (s : State) : Host.Outcome State Fault Refusal :=
  .next (s.arrive p ReqType.save.code body)

/-- LOCK_PLAN (R193). -/
def execLockPlan (p : Peer) (body : List Byte) (s : State) : Host.Outcome State Fault Refusal :=
  .next (s.arrive p ReqType.lockPlan.code body)

/-- RESTART (R197): the request; the restart itself is RESTART_RESET. -/
def execRestart (p : Peer) (body : List Byte) (s : State) : Host.Outcome State Fault Refusal :=
  .next (s.arrive p ReqType.restart.code body)

end Sys2Proof.Machine
end

