-- ==== Sys2Proof/Machine/Resets.lean ====
section
/-!
DEFINITION. The three resets (11 section 11.6): the value each block takes at POWER_ON, BROWNOUT and RESTART, and the
meanings of POWER_ON_RESET, BROWNOUT_RESET and RESTART_RESET.
-/

namespace Sys2Proof.Machine

/-- R182: the link after every reset. -/
def Link.afterReset : Link where
  rx := .skip
  buffer := []
  gap := Timer.ms gapMs
  reply := .none

/-- No published update or raw sample waits. -/
def Mail.empty : Mail := ⟨[], [], []⟩

/-- R186: the RESET notice: value A the reset, value B the cause set after it. -/
def State.pushReset (s : State) (kind : Nat) : State := s.push .reset none kind s.sys.causes.code

/-! ### POWER_ON -/

/-- R193: the loaded plan with the lock cleared when SERVICE is asserted at the reset. -/
def powerOnPlan (p : Plan) (service : Bool) : Plan := { p with lock := p.lock && !service }

/-- R24, R40, R48, R91, R111, R138, R153, R164, R182, R196: every block after a POWER_ON reset, its ring empty. The queue,
the pin levels and the stored image stand; an interrupted write leaves the image invalid (R192). -/
def State.powerOnBlocks (s : State) (straps : Straps) (service : Bool) : State :=
  let plan := powerOnPlan (loadPlan s.store.image straps).plan service
  { pending := s.pending
    est := .powerOn plan.battery
    mail := .empty
    level := { current := 0, pending := .none, count := 0, deep := 0, byReserve := false, firstTaken := false }
    sag := .initial
    chans := Vector.replicate 16 Channel.initial
    planner := ⟨none, none, false⟩
    slot := ⟨none, []⟩
    standby := ⟨[], 0⟩
    idle := freshIdle plan
    overtaken := []
    aux := Vector.ofFn fun n => s.aux[n].afterReset
    disc :=
      { device := .start, reason := .none, isolateCount := 0, isolateLen := 0, chargeCount := 0, vc := 0, i := 0
        pulse := some (.closeRelay, pulseMs), lastPulse := .closeRelay, entryPending := false }
    link := .afterReset
    ring := ⟨[], false⟩
    plan := plan
    store := { s.store with writing := none }
    sys := ⟨straps, service, ⟨true, false, false⟩, 0, 0, false⟩ }

/-- R196, R186: a POWER_ON reset with its notices. -/
def State.powerOn (s : State) (straps : Straps) (service : Bool) : State :=
  ((s.powerOnBlocks straps service).pushReset 1).pushAll (loadPlan s.store.image straps).notice

/-- POWER_ON_RESET (R196). -/
def execPowerOnReset (straps : Straps) (service : Bool) (s : State) : Host.Outcome State Fault Refusal :=
  .next (s.powerOn straps service)

/-! ### BROWNOUT -/

/-- R138, R66: a channel the isolation of a BROWNOUT leaves LOCKED, under its loaded record. -/
def Channel.afterBrownout (ch : Channel) (r : ChannelRec) : Channel :=
  if ch.state = .locked && !r.active then ch.deactivated else ch

/-- R25, R196: the plan loaded, the cause added, the store's write interrupted, the straps as sampled. -/
def State.brownoutSystem (s : State) (straps : Straps) : State :=
  let plan := (loadPlan s.store.image straps).plan
  { s with
    est := s.est.brownout s.plan.battery plan.battery
    mail := .empty
    plan := plan
    store := { s.store with writing := none }
    sys := { s.sys with straps := straps, causes := { s.sys.causes with brownout := true }, restartPending := false }
    idle := freshIdle plan
    overtaken := []
    aux := Vector.ofFn fun n => s.aux[n].afterReset
    link := .afterReset }

/-- R164, R40, R138: the isolation of a BROWNOUT on every block, without CHECK_RESULT notices; the level 7, and the unit's
V_c and I 0. R40 gives the note of R31 no value: no, as at POWER_ON (DESIGN CHOICE, notes/assumptions/1.md). -/
def State.brownoutIsolation (s : State) : State :=
  let s1 := s.isolateBlocks.isolateUnit .brownout
  let s2 := s1.mapChans fun c ch => ch.afterBrownout (s.crec c)
  { s2 with
    level := { s2.level with current := 7, deep := 7, byReserve := false }
    disc := { s2.disc with vc := 0, i := 0, isolateLen := 0 } }

/-- R196, R164, R186: a BROWNOUT reset: the RESET notice, any plan notice, then the ISOLATED notice. -/
def State.brownout (s : State) (straps : Straps) : State :=
  ((((s.brownoutSystem straps).brownoutIsolation).pushReset 2).pushAll (loadPlan s.store.image straps).notice).push
    .isolated none IsoReason.brownout.code 0

/-- BROWNOUT_RESET (R196). -/
def execBrownoutReset (straps : Straps) (s : State) : Host.Outcome State Fault Refusal := .next (s.brownout straps)

/-! ### RESTART -/

/-- R139, R66: a channel that keeps its state through a RESTART: essential and active by the reloaded plan. -/
def Plan.keeps (p : Plan) (c : Chan) : Bool := p.channels[c].rank = 0 && p.channels[c].active

/-- R139, R66: a channel after a RESTART, before it is brought into line with its reloaded record. -/
def Channel.afterRestart (ch : Channel) (r : ChannelRec) : Channel :=
  if r.rank = 0 then
    if r.active then ch
    else { ch.stopped .deactivated with retryCount := if ch.state = .locked then 0 else ch.retryCount }
  else
    match ch.state with
    | .locked => if r.active then ch else ch.deactivated
    | .off => ch
    | .waiting => ch.stopped .restart
    | .starting => ch.stopped .restart
    | .on => ch.stopped .restart
    | .throttled => ch.stopped .restart
    | .rundown => ch.stopped .restart
    | .tripped => ch.stopped .restart
    | .checking => ch.stopped .restart

/-- R136, R139: the channels that do not keep their state, whose check a RESTART aborts; an essential channel whose reloaded
record is inactive is one of them (DEDUCED, notes/assumptions/15.md). -/
def Plan.cuts (p : Plan) : List Chan := allChans.filter fun c => !p.keeps c

/-- R111: the list after a RESTART: the entries of kept channels, unheld, in order by the reloaded ranks; its version
increases when the list changed. -/
def Standby.afterRestart (l : Standby) (p : Plan) : Standby :=
  let es := sortEntries (fun c => p.channels[c].rank)
    ((l.entries.filter fun e => p.keeps e.channel).map fun e => { e with held := false })
  ⟨es, if es = l.entries then l.version else nextVersion l.version⟩

/-- R92: the Start Slot after a RESTART: kept channels alone hold it or wait for it. -/
def Slot.afterRestart (x : Slot) (p : Plan) : Slot := ⟨x.holder.filter p.keeps, x.waiting.filter p.keeps⟩

/-- R26, R40, R48, R92, R93, R111, R139, R153, R164, R182, R197: every block after a RESTART that reloads `plan`, before
the kept channels are brought into line. -/
def State.restartBlocks (s : State) (plan : Plan) : State :=
  { s with
    est := s.est.reprofile s.plan.battery plan.battery
    level := { s.level with pending := .none, count := 0 }
    sag := .initial
    chans := Vector.ofFn fun c => s.chans[c].afterRestart plan.channels[c]
    planner := ⟨none, none, false⟩
    slot := s.slot.afterRestart plan
    standby := s.standby.afterRestart plan
    idle := freshIdle plan
    overtaken := []
    disc := { s.disc with isolateCount := 0, chargeCount := 0 }
    link := .afterReset
    plan := plan
    sys := { s.sys with causes := { s.sys.causes with restart := true }, restartPending := false } }

/-- R66, R130: the channels of a list brought into line with their reloaded records: a kept throttled channel is
unthrottled when the reload clears throttle permission or makes its rank 0. Several ask for the Start Slot by ascending
channel number (DESIGN CHOICE, notes/assumptions/9.md). -/
def State.realign (s : State) (old : Plan) : List Chan → State
  | [] => s
  | c :: cs =>
    (if (s.chan c).state = .throttled && unthrottles old.channels[c] (s.crec c) then s.editUnthrottle c
     else s).realign old cs

/-- R197: a RESTART with its notices, after which the Planner re-evaluates (R92). -/
def State.restart (s : State) : State :=
  let load := loadPlan s.store.image s.sys.straps
  let s1 := (((s.restartBlocks load.plan).pushReset 3).pushAll load.notice).pushAll
    (s.abortNotices load.plan.cuts)
  (s1.realign s.plan allChans).settle settleRounds true

/-- RESTART_RESET (R197): the restart that follows the last byte of a RESTART reply; no event when none is due. -/
def execRestartReset (s : State) : Host.Outcome State Fault Refusal :=
  .next (if s.sys.restartPending && s.link.reply = .none then s.restart else s)

end Sys2Proof.Machine
end

