-- ==== Sys2Proof/Machine/Clock.lean ====
section
/-!
DEFINITION. The clock of the block: what one millisecond does when no command waits (DESIGN CHOICE,
notes/assumptions/3.md). Timers count
down and stay at 0 until their expiry is commanded; uptime counts whole seconds (R198); the idle counts fall once a second
in RUN (R144).
-/

namespace Sys2Proof.Machine

/-- One millisecond of a timer. -/
def Timer.tick (t : Timer) : Timer := t.map fun r => { r with left := r.left - 1 }

/-- One millisecond of an inrush window. -/
def Inrush.tick (w : Inrush) : Inrush :=
  match w with
  | .stopped => .stopped
  | .timed r => .timed { r with left := r.left - 1 }
  | .untilSample => .untilSample

/-- One millisecond of a channel's timers. -/
def Channel.tick (ch : Channel) : Channel :=
  { ch with
    inrush := ch.inrush.tick, offTimer := Timer.tick ch.offTimer, onTimer := Timer.tick ch.onTimer
    rundownTimer := Timer.tick ch.rundownTimer, retryTimer := Timer.tick ch.retryTimer
    goodRun := Timer.tick ch.goodRun, checkTimer := Timer.tick ch.checkTimer }

/-- The largest uptime (R198). -/
def uptimeMax : Nat := 4294967295

/-- One millisecond of uptime: at its largest value it stops and holds (R198). -/
def Startup.tick (x : Startup) : Startup :=
  if x.msec + 1 < 1000 then { x with msec := x.msec + 1 }
  else { x with msec := 0, uptime := min uptimeMax (x.uptime + 1) }

/-- The tick ends a whole second. -/
def State.secondEnds (s : State) : Bool := 1000 ≤ s.sys.msec + 1

/-- R144: a second of an idle timer in RUN. -/
def IdleTimer.second (t : IdleTimer) : IdleTimer := if t.state = .running then { t with count := t.count - 1 } else t

/-- One millisecond of the block. What arrived together with a request has been taken when time passes, so no expiry stays
overtaken (notes/assumptions/25.md). -/
def State.tick (s : State) : State :=
  { s with
    sag := { s.sag with tolerance := Timer.tick s.sag.tolerance, recovery := Timer.tick s.sag.recovery }
    chans := Vector.ofFn fun c => s.chans[c].tick
    planner :=
      { s.planner with excess := Timer.tick s.planner.excess, restoreQuiet := Timer.tick s.planner.restoreQuiet }
    idle := if s.secondEnds && s.disc.device = .run then Vector.ofFn fun n => s.idle[n].second else s.idle
    overtaken := []
    aux := Vector.ofFn fun n => { s.aux[n] with stability := Timer.tick s.aux[n].stability }
    disc := { s.disc with pulse := s.disc.pulse.map fun p => (p.1, p.2 - 1) }
    link := { s.link with gap := Timer.tick s.link.gap }
    sys := s.sys.tick }

end Sys2Proof.Machine
end

