-- ==== Sys2Proof/Machine/Dispatch.lean ====
section
/-!
DEFINITION. The dispatch of every command to its meaning, one arm per constructor of `Instr`.
-/

namespace Sys2Proof.Machine

/-- What command `i` does to everything but the queue. -/
def exec (i : Instr) (s : State) : Host.Outcome State Fault Refusal :=
  match i with
  | .batterySample vb cur => Sys2Proof.Machine.execBatterySample vb cur s
  | .restSync vb cur => Sys2Proof.Machine.execRestSync vb cur s
  | .fullAnchor vb cur => Sys2Proof.Machine.execFullAnchor vb cur s
  | .emptyAnchor vb cur => Sys2Proof.Machine.execEmptyAnchor vb cur s
  | .temperatureSample t valid => Sys2Proof.Machine.execTemperatureSample t valid s
  | .reserveUpdate => Sys2Proof.Machine.execReserveUpdate s
  | .deepeningDwellComplete => Sys2Proof.Machine.execDeepeningDwellComplete s
  | .easingDwellComplete => Sys2Proof.Machine.execEasingDwellComplete s
  | .sagComparatorSample => Sys2Proof.Machine.execSagComparatorSample s
  | .toleranceTimerExpiry => Sys2Proof.Machine.execToleranceTimerExpiry s
  | .recoveryTimerExpiry => Sys2Proof.Machine.execRecoveryTimerExpiry s
  | .channelSample c m => Sys2Proof.Machine.execChannelSample c m s
  | .shortReport c => Sys2Proof.Machine.execShortReport c s
  | .rundownTimeout c => Sys2Proof.Machine.execRundownTimeout c s
  | .inrushWindowEnd c => Sys2Proof.Machine.execInrushWindowEnd c s
  | .retryTimerExpiry c => Sys2Proof.Machine.execRetryTimerExpiry c s
  | .goodRunTimerExpiry c => Sys2Proof.Machine.execGoodRunTimerExpiry c s
  | .offTimerExpiry c => Sys2Proof.Machine.execOffTimerExpiry c s
  | .onTimerExpiry c => Sys2Proof.Machine.execOnTimerExpiry c s
  | .checkTimerExpiry c r => Sys2Proof.Machine.execCheckTimerExpiry c r s
  | .excessTimerExpiry => Sys2Proof.Machine.execExcessTimerExpiry s
  | .restoreQuietExpiry => Sys2Proof.Machine.execRestoreQuietExpiry s
  | .idleTimerExpiry n => Sys2Proof.Machine.execIdleTimerExpiry n s
  | .auxRawChange n level => Sys2Proof.Machine.execAuxRawChange n level s
  | .stabilityPeriodEnd n => Sys2Proof.Machine.execStabilityPeriodEnd n s
  | .disconnectReserveUpdate => Sys2Proof.Machine.execDisconnectReserveUpdate s
  | .isolateDwellComplete => Sys2Proof.Machine.execIsolateDwellComplete s
  | .reconnectChargeComplete => Sys2Proof.Machine.execReconnectChargeComplete s
  | .relayPulseEnd => Sys2Proof.Machine.execRelayPulseEnd s
  | .storeWriteComplete matched => Sys2Proof.Machine.execStoreWriteComplete matched s
  | .gapTimerExpiry => Sys2Proof.Machine.execGapTimerExpiry s
  | .frameRejected frame => Sys2Proof.Machine.execFrameRejected frame s
  | .replyStart => Sys2Proof.Machine.execReplyStart s
  | .replyComplete => Sys2Proof.Machine.execReplyComplete s
  | .unknownTypeRequest p ty body => Sys2Proof.Machine.execUnknownTypeRequest p ty body s
  | .status p body => Sys2Proof.Machine.execStatus p body s
  | .channel p body => Sys2Proof.Machine.execChannel p body s
  | .standbyPage p body => Sys2Proof.Machine.execStandbyPage p body s
  | .notices p body => Sys2Proof.Machine.execNotices p body s
  | .configReadChannel p index extra => Sys2Proof.Machine.execConfigReadChannel p index extra s
  | .configReadLevel p index extra => Sys2Proof.Machine.execConfigReadLevel p index extra s
  | .configReadBattery p index extra => Sys2Proof.Machine.execConfigReadBattery p index extra s
  | .configReadOcv p index extra => Sys2Proof.Machine.execConfigReadOcv p index extra s
  | .configReadTimer p index extra => Sys2Proof.Machine.execConfigReadTimer p index extra s
  | .configReadAux p index extra => Sys2Proof.Machine.execConfigReadAux p index extra s
  | .switchOn p index flags extra => Sys2Proof.Machine.execSwitchOn p index flags extra s
  | .switchOff p index flags extra => Sys2Proof.Machine.execSwitchOff p index flags extra s
  | .clearLockout p body => Sys2Proof.Machine.execClearLockout p body s
  | .check p body => Sys2Proof.Machine.execCheck p body s
  | .reconnect p body => Sys2Proof.Machine.execReconnect p body s
  | .clearCauses p body => Sys2Proof.Machine.execClearCauses p body s
  | .setChannel p body => Sys2Proof.Machine.execSetChannel p body s
  | .setLevel p body => Sys2Proof.Machine.execSetLevel p body s
  | .setBattery p body => Sys2Proof.Machine.execSetBattery p body s
  | .setOcv p body => Sys2Proof.Machine.execSetOcv p body s
  | .setTimer p body => Sys2Proof.Machine.execSetTimer p body s
  | .setAux p body => Sys2Proof.Machine.execSetAux p body s
  | .setCharge p body => Sys2Proof.Machine.execSetCharge p body s
  | .isolate p body => Sys2Proof.Machine.execIsolate p body s
  | .save p body => Sys2Proof.Machine.execSave p body s
  | .lockPlan p body => Sys2Proof.Machine.execLockPlan p body s
  | .restart p body => Sys2Proof.Machine.execRestart p body s
  | .restartReset => Sys2Proof.Machine.execRestartReset s
  | .powerOnReset straps service => Sys2Proof.Machine.execPowerOnReset straps service s
  | .brownoutReset straps => Sys2Proof.Machine.execBrownoutReset straps s
  | .byteReceived b framingError service => Sys2Proof.Machine.execByteReceived b framingError service s

end Sys2Proof.Machine
end

