-- ==== Sys2Proof/Safety.lean ====
section
/-!
DEFINITION. What holds of the part between two events: one predicate for each block, each named after the rules that give
it. A claim that needs a state no run leaves uses one of these as its premise.
-/

namespace Sys2Proof.Machine

/-! ### Plan, estimator, clock -/

/-- R27, R3, R14, R194, R190: the working plan meets every rule of a stored image under the straps, its clamped fields lie
in their ranges, and it was made for the straps. -/
abbrev State.PlanOk (s : State) : Prop :=
  validPlan s.plan = true ∧ clampPlan s.plan = s.plan ∧ s.plan.vsys = s.sys.straps.vsys ∧ s.plan.chem = s.sys.straps.chem

/-- R5 to R8, R10: Q between 0 and Q_nom, the remainder 0..999, Q_use and R by their formulas. -/
abbrev State.EstimatorOk (s : State) : Prop :=
  s.est.q ≤ s.plan.battery.qNom ∧ s.est.rem ≤ 999 ∧ s.est.qUse = usable s.plan.battery s.est.temp
    ∧ s.est.r = reserveOf s.est.q s.est.qUse

/-- R198: uptime is a number of 32 bits. -/
abbrev State.UptimeOk (s : State) : Prop := s.sys.uptime ≤ uptimeMax ∧ s.sys.msec < 1000

/-- R183: the ring holds at most thirty-two notices. -/
abbrev State.RingOk (s : State) : Prop := s.ring.notices.length ≤ 32

/-! ### Level, sag, idle timers -/

/-- R33, R37: no dwell runs outside RUN, and a count stands only in a pending dwell. -/
abbrev State.LevelOk (s : State) : Prop :=
  (s.level.pending = .none → s.level.count = 0) ∧ (s.disc.device ≠ .run → s.level.pending = .none)

/-- R41 to R47: the comparator output and the two timers by sag state; release pending in SAG_SHEDDING and RECOVERING, not
in CLEAR; CLEAR in ISOLATED, where no sample waits for the comparator. -/
abbrev State.SagOk (s : State) : Prop :=
  (s.sag.high = true ↔ s.sag.state = .clear ∨ s.sag.state = .recovering)
    ∧ (s.sag.tolerance.isSome = true ↔ s.sag.state = .sagging ∨ s.sag.state = .sagShedding)
    ∧ (s.sag.recovery.isSome = true ↔ s.sag.state = .recovering)
    ∧ (s.sag.state = .clear → s.sag.releasePending = false)
    ∧ (s.sag.state = .sagShedding ∨ s.sag.state = .recovering → s.sag.releasePending = true)
    ∧ (s.disc.device = .isolated → s.sag = SagMon.initial ∧ s.mail.sag = [])

/-- R144, R148, R151, R153: a timer is DISABLED exactly when its record is, an EXPIRED one has count 0, and no count is
above the full count. -/
abbrev State.IdleOk (s : State) : Prop :=
  ∀ n : TimerIx,
    (s.idle[n].state = .disabled ↔ s.plan.timers[n].enabled = false)
      ∧ (s.idle[n].state ≠ .running → s.idle[n].count = 0)
      ∧ s.idle[n].count ≤ s.plan.timers[n].fullCount

/-! ### Channels, slot, list -/

/-- R112, R113, R116, R117, R121, R123, R124, R128, R136: the items of a channel by its state. -/
abbrev Channel.Ok (ch : Channel) : Prop :=
  (ch.phase ≠ .none ↔ ch.state = .throttled)
    ∧ (ch.unthrottlePending = true → ch.phase = .rest ∧ ch.offTimer = none)
    ∧ (ch.intent ≠ .none ↔ ch.state = .rundown)
    ∧ (ch.offTimer.isSome = true → ch.phase = .rest)
    ∧ (ch.onTimer.isSome = true ↔ ch.phase = .run)
    ∧ (ch.rundownTimer.isSome = true ↔ ch.state = .rundown)
    ∧ (ch.retryTimer.isSome = true ↔ ch.state = .tripped)
    ∧ (ch.checkTimer.isSome = true ↔ ch.state = .checking)
    ∧ (ch.goodRun.isSome = true → ch.state = .on)
    ∧ (ch.inrush.isOpen = true → ch.state = .starting ∨ ch.phase = .run)
    ∧ (ch.state = .starting → ch.inrush.isOpen = true)
    ∧ ch.ocStreak < 5 ∧ (ch.closed = false → ch.ocStreak = 0)
    ∧ ch.doneStreak < 2 ∧ (ch.state ≠ .rundown → ch.doneStreak = 0)

/-- Every channel's items agree with its state. -/
abbrev State.ChannelsOk (s : State) : Prop := ∀ c : Chan, (s.chan c).Ok

/-- R86: the holder of the slot is the channel in an inrush window. R87: a channel waits for the slot exactly when it is
throttled in REST with its off timer stopped, once. R88: a free slot leaves nobody waiting but in a sag. -/
abbrev State.SlotOk (s : State) : Prop :=
  (∀ c : Chan, s.slot.holder = some c ↔ (s.chan c).inrush.isOpen = true)
    ∧ (∀ c : Chan, c ∈ s.slot.waiting ↔ (s.chan c).phase = .rest ∧ (s.chan c).offTimer = none)
    ∧ s.slot.waiting.Nodup
    ∧ (s.slot.holder = none → s.sag.state.servesSlot = true → s.slot.waiting = [])

/-- R95, R96, R99: a channel has an entry exactly while it is WAITING, one only; the list stands in the order of R96; only
entries of origin SAG are held, and only while release pending is yes. -/
abbrev State.StandbyOk (s : State) : Prop :=
  (∀ c : Chan, c ∈ s.standby.entries.map (·.channel) ↔ (s.chan c).state = .waiting)
    ∧ (s.standby.entries.map (·.channel)).Nodup
    ∧ s.standby.entries.Pairwise (fun a b => Entry.before s.rank a b = true)
    ∧ (∀ e ∈ s.standby.entries, e.held = true → e.origin = .sag ∧ s.sag.releasePending = true)
    ∧ s.standby.version < 256

/-! ### Device -/

/-- R154, R158: outside RUN no switch is closed and every channel is OFF or LOCKED, the list and the slot are empty, the
excess timer is stopped and no idle expiry is overtaken; the reason is NONE exactly outside ISOLATED; the last relay pulse started was OPEN exactly in
ISOLATED, and a pulse in flight is the last one started. -/
abbrev State.DeviceOk (s : State) : Prop :=
  (s.disc.device ≠ .run →
      (∀ c : Chan, (s.chan c).state = .off ∨ (s.chan c).state = .locked)
        ∧ s.standby.entries = [] ∧ s.slot = ⟨none, []⟩ ∧ s.planner.excess = none ∧ s.planner.overloadReported = false
        ∧ s.overtaken = [])
    ∧ (s.disc.reason = .none ↔ s.disc.device ≠ .isolated)
    ∧ (s.disc.lastPulse = .openRelay ↔ s.disc.device = .isolated)
    ∧ (∀ p ∈ s.disc.pulse, p.1 = s.disc.lastPulse)
    ∧ (s.disc.entryPending = true → s.disc.device = .start ∧ s.disc.pulse.isSome = true)

/-! ### Link -/

/-- R166, R168, R170: the receiver is in HOLD exactly while a reply is pending or being sent; the buffer holds bytes in
RECEIVING only, fewer than a whole frame, its length byte (the sixth) at most 56; the gap timer runs in RECEIVING and
SKIP. -/
abbrev State.LinkOk (s : State) : Prop :=
  (s.link.rx = .hold ↔ s.link.reply ≠ .none)
    ∧ (s.link.buffer ≠ [] ↔ s.link.rx = .receiving)
    ∧ (s.link.buffer ≠ [] → s.link.buffer.getD 0 0 = 0xC3)
    ∧ (6 ≤ s.link.buffer.length →
        (s.link.buffer.getD 5 0).toNat ≤ 56 ∧ s.link.buffer.length < 8 + (s.link.buffer.getD 5 0).toNat)
    ∧ (s.link.rx = .receiving ∨ s.link.rx = .skip → s.link.gap.isSome = true)

/-! ### All of it -/

/-- The blocks that one event of a channel ties together: channels, slot, list, sag and device. -/
structure State.Coherent (s : State) : Prop where
  sag : s.SagOk
  channels : s.ChannelsOk
  slot : s.SlotOk
  standby : s.StandbyOk
  device : s.DeviceOk

/-- What holds between any two events. -/
structure State.Ok (s : State) : Prop where
  plan : s.PlanOk
  estimator : s.EstimatorOk
  uptime : s.UptimeOk
  ring : s.RingOk
  level : s.LevelOk
  sag : s.SagOk
  idle : s.IdleOk
  channels : s.ChannelsOk
  slot : s.SlotOk
  standby : s.StandbyOk
  device : s.DeviceOk
  link : s.LinkOk

/-! ### What an event leaves as it was -/

/-- Nothing but the channels, the slot, the Planner's timers, the list and the ring has changed: what the Planner and the
Start Slot act on (04). -/
structure State.PlannerOnly (s t : State) : Prop where
  pending : t.pending = s.pending
  est : t.est = s.est
  mail : t.mail = s.mail
  level : t.level = s.level
  sag : t.sag = s.sag
  idle : t.idle = s.idle
  aux : t.aux = s.aux
  disc : t.disc = s.disc
  link : t.link = s.link
  plan : t.plan = s.plan
  store : t.store = s.store
  sys : t.sys = s.sys
  overtaken : t.overtaken = s.overtaken

/-- R72, R78, R81, R88: a channel that the Planner and the Start Slot leave alone: OFF, RUNDOWN, TRIPPED, LOCKED, CHECKING,
or essential and ON or STARTING. -/
def Channel.leftAlone (ch : Channel) (rank : Nat) : Bool :=
  match ch.state with
  | .off => true
  | .rundown => true
  | .tripped => true
  | .locked => true
  | .checking => true
  | .on => rank = 0
  | .starting => rank = 0
  | .waiting => false
  | .throttled => false

/-- The channel has no entry and does not wait for the slot. -/
abbrev State.Unlisted (s : State) (c : Chan) : Prop := s.entry? c = none ∧ s.waitsForSlot c = false

/-- Every channel but those of `cs` that the Planner leaves alone is as it was. -/
def State.OthersKept (s t : State) (cs : List Chan) : Prop :=
  ∀ d : Chan, d ∉ cs → s.Unlisted d → (s.chan d).leftAlone (s.rank d) = true → t.chan d = s.chan d

/-- The notices `ns` have been pushed first (R184), and any others after them. -/
def State.Pushed (s : State) (ns : List Notice) (t : State) : Prop :=
  ∃ more : List Notice, t.ring = (ns ++ more).foldl Ring.push s.ring

/-- A notice stamped with the uptime of `s` (R184). -/
def State.notice (s : State) (kind : NoticeKind) (subject : Option Nat) (a b : Nat) : Notice :=
  ⟨kind, s.sys.uptime, subject, a, b⟩

/-- A running timer with one millisecond less left; 0 stays 0. -/
def Run.fallen (r : Run) : Run := ⟨r.len, r.left - 1⟩

/-! ### What a request finds and leaves -/

/-- R166, R197: the link takes a request: its receiver is not in HOLD and no restart is due. -/
abbrev State.Listens (s : State) : Prop := s.link.rx ≠ .hold ∧ s.sys.restartPending = false

/-- R173: the link listens and the device has left START. -/
abbrev State.Serves (s : State) : Prop := s.Listens ∧ s.disc.device ≠ .start

/-- R173 to R175: an installer request that the lock gates is admitted. -/
abbrev State.Admits (s : State) (p : Peer) : Prop := s.Serves ∧ p.service = true ∧ s.plan.lock = false

/-- R168 to R172: the receiver in HOLD with its buffer empty, the gap timer running, and the reply to `p` pending: the
status, the summary byte and the fields. -/
def State.repliedWith (t : State) (summary : Byte) (p : Peer) (ty : Byte) (x : Status) (fields : List Byte) : State :=
  { t with link :=
      { rx := .hold, buffer := [], gap := Timer.ms 10
        reply := .pending (frameOf (panelAddress p.panel) (linkAddress t.sys.straps) p.tag (ty ||| 0x80)
          (u8 x.code ++ [summary] ++ fields)) } }

/-- The reply to `p` pending, its summary byte read from the state itself. -/
def State.replied (t : State) (p : Peer) (ty : Byte) (x : Status) (fields : List Byte) : State :=
  t.repliedWith t.summary p ty x fields

/-- R176, R191: the expected generation `g` of a plan edit passes: unconditional, or the current one. -/
abbrev State.Passes (s : State) (g : Nat) : Prop := g = 65535 ∨ (g = s.plan.generation ∧ g < 65535)

/-- R190: the generation after an accepted edit. -/
def State.increased (s : State) : Nat := if s.plan.generation = 65534 then 0 else s.plan.generation + 1

/-- R137, R139: what a channel that is cut without rundown keeps: the last sample, the retry count, the start time and the
last check result, ABORTED when a check was cut short; all else is as after POWER_ON, but for the reason. -/
def Channel.keptWhenCut (ch : Channel) (reason : Reason) : Channel :=
  { Channel.initial with
    reason := reason, m := ch.m, retryCount := ch.retryCount, startTime := ch.startTime
    lastCheck := if ch.state = .checking then .aborted else ch.lastCheck }

/-- R158: what the isolation for `reason` makes of `s`. -/
structure State.IsolatedFor (s : State) (reason : IsoReason) (t : State) : Prop where
  disc : t.disc =
    { device := .isolated, reason := reason, isolateCount := 0, isolateLen := s.disc.isolateLen, chargeCount := 0
      vc := s.disc.vc, i := s.disc.i, pulse := some (.openRelay, 50), lastPulse := .openRelay, entryPending := false }
  channels : ∀ c : Chan,
    t.chan c = if (s.chan c).state = .locked then s.chan c else (s.chan c).keptWhenCut .isolation
  standby : t.standby = ⟨[], if s.standby.entries = [] then s.standby.version else (s.standby.version + 1) % 256⟩
  slot : t.slot = ⟨none, []⟩
  planner : t.planner = ⟨none, none, false⟩
  sag : t.sag = ⟨true, .clear, none, none, false, false, 0⟩
  level : t.level = { s.level with pending := .none, count := 0 }
  ring : t.ring =
    (((allChans.filter fun c => (s.chan c).state = .checking).map fun c =>
        s.notice .checkResult (some c.val) 4 (Timer.elapsed (s.chan c).checkTimer))
      ++ [s.notice .isolated none reason.code s.disc.vc]).foldl Ring.push s.ring
  mail : t.mail = { s.mail with sag := [] }
  overtaken : t.overtaken = []
  kept : t.pending = s.pending ∧ t.est = s.est ∧ t.idle = s.idle ∧ t.aux = s.aux ∧ t.plan = s.plan
    ∧ t.store = s.store ∧ t.sys = s.sys

/-- R162: what the reconnection by trigger code `k` makes of `s`; `t.link` is not spoken of. -/
structure State.ReconnectedBy (s : State) (k : Nat) (t : State) : Prop where
  disc : t.disc =
    { s.disc with device := .run, reason := .none, isolateCount := 0, chargeCount := 0, pulse := some (.closeRelay, 50)
                  lastPulse := .closeRelay }
  level : t.level =
    if s.level.deep = s.level.current then s.level
    else { s.level with current := s.level.deep, pending := .none, count := 0 }
  quiet : s.level.deep ≠ s.level.current →
    t.planner.restoreQuiet = some ⟨s.plan.levels.settings.restoreDwell * 1000, s.plan.levels.settings.restoreDwell * 1000⟩
  idle : ∀ n : TimerIx,
    t.idle[n] = if s.plan.timers[n].enabled = true then ⟨.running, s.plan.timers[n].terminal * 60⟩ else s.idle[n]
  resumed : ∀ c : Chan, s.Unlisted c → (s.crec c).active = true → (s.chan c).state = .off →
    (s.rank c = 0 ∨ (s.crec c).resume = true) →
    ((t.chan c).state = .waiting ∧ t.entry? c = some ⟨c, .resume, false, false, s.sys.uptime⟩)
      ∨ ((t.chan c).state = .starting ∧ t.slot.holder = some c ∧ s.level.deep = s.level.current)
  others : ∀ c : Chan, s.Unlisted c → s.resumes c = false → (s.chan c).leftAlone (s.rank c) = true → t.chan c = s.chan c
  newest : t.ring.notices.getLast? = some (s.notice .reconnected none k s.disc.vc)
  kept : t.pending = s.pending ∧ t.est = s.est ∧ t.mail = s.mail ∧ t.sag = s.sag ∧ t.aux = s.aux ∧ t.plan = s.plan
    ∧ t.store = s.store ∧ t.sys = s.sys ∧ t.overtaken = s.overtaken

/-- R88: nobody who waits for the Start Slot can be served as things stand: it is held, nobody waits, or the sag forbids
it. -/
abbrev State.SlotQuiet (s : State) : Prop :=
  s.slot.holder ≠ none ∨ s.slot.waiting = [] ∨ s.sag.state.servesSlot = false

/-- R146, R147: idle timer `n` after an activity that qualifies for it when `q` holds: in RUN a timer that is not DISABLED
is RUNNING from its full count. -/
def State.idleAfter (s : State) (n : TimerIx) (q : Bool) : IdleTimer :=
  if s.disc.device = .run ∧ q = true ∧ s.idle[n].state ≠ .disabled then ⟨.running, s.plan.timers[n].terminal * 60⟩
  else s.idle[n]

/-- R146: the idle timers after a SWITCH request taken by channel `c`: one activity of the PANEL source. -/
def State.panelIdle (s : State) (c : Chan) : Vector IdleTimer 4 :=
  Vector.ofFn fun n => s.idleAfter n (s.plan.timers[n].hasPanel && s.plan.timers[n].isMember c)

/-- R107 row 1, R150: the overtaken expiries after a SWITCH ON of the WAITING channel `c`: with forcing, those of the timers
that it reloads at count 0 are added. -/
def State.overtakenBy (s : State) (c : Chan) (forced : Bool) : List (TimerIx × Chan) :=
  s.overtaken ++ if forced then
      (([0, 1, 2, 3] : List TimerIx).filter fun n =>
        s.idle[n].state = .running ∧ s.idle[n].count = 0 ∧ s.disc.device = .run ∧ s.plan.timers[n].hasPanel = true
          ∧ s.plan.timers[n].isMember c = true).map fun n => (n, c)
    else []

/-- R118, R120, R131: a channel after a trip, its last sample as it stands: TRIPPED with the retry delay running, or LOCKED
when the retries are used up. -/
def Channel.tripped (ch : Channel) (r : ChannelRec) (reason : Reason) : Channel :=
  { Channel.initial with
    state := if ch.retryCount + 1 ≤ r.retries then .tripped else .locked
    reason := reason, m := ch.m, retryCount := ch.retryCount + 1, startTime := ch.startTime, lastCheck := ch.lastCheck
    checkTimer := ch.checkTimer
    retryTimer := if ch.retryCount + 1 ≤ r.retries then some ⟨r.retryDelay * 1000, r.retryDelay * 1000⟩ else ch.retryTimer }

/-- R118, R120: the notices of a trip; value A of TRIP is 1, and 2 for a short. -/
def State.tripNotices (s : State) (c : Chan) (code : Nat) : List Notice :=
  s.notice .trip (some c.val) code ((s.chan c).retryCount + 1)
    :: (if (s.chan c).retryCount + 1 ≤ (s.crec c).retries then []
        else [s.notice .lockout (some c.val) ((s.chan c).retryCount + 1) (s.crec c).retries])

/-- R98, R84: channel `c` waits with an entry of `origin`, or the re-evaluation that followed has admitted it. -/
def State.waitsOrStarts (s t : State) (c : Chan) (origin : Origin) (held : Bool) : Prop :=
  ((t.chan c).state = .waiting ∧ t.entry? c = some ⟨c, origin, false, held, s.sys.uptime⟩)
    ∨ ((t.chan c).state = .starting ∧ t.slot.holder = some c)

/-- R84, R116: what the admission of entry `e` alone makes of `s`, `k` being ADMIT 1 or PASS_BY 2: the channel STARTING
with its window open, the slot held, the entry removed, the RESTORE notice. `t.planner` is not spoken of. -/
structure State.AdmittedAs (s : State) (e : Entry) (k : Nat) (t : State) : Prop where
  chan : t.chan e.channel =
    { s.chan e.channel with
      state := .starting, ocStreak := 0, startTime := s.sys.uptime
      inrush :=
        if (s.crec e.channel).inrush = 0 then .untilSample
        else .timed ⟨(s.crec e.channel).inrush * 100, (s.crec e.channel).inrush * 100⟩ }
  others : ∀ d : Chan, d ≠ e.channel → t.chan d = s.chan d
  slot : t.slot = ⟨some e.channel, []⟩
  standby : t.standby =
    ⟨s.standby.entries.filter (fun x => x.channel ≠ e.channel), (s.standby.version + 1) % 256⟩
  ring : t.ring = s.ring.push (s.notice .restore (some e.channel.val) k t.totalP)
  kept : s.PlannerOnly t

/-- R82, R83: an entry that may pass by as things stand: its demand is at or below the pass limit, and it fits under D less the
margin. -/
def State.mayPass (s : State) (e : Entry) : Bool :=
  (s.crec e.channel).demand ≤ s.plan.levels.settings.passLimit
    && s.totalP + (s.crec e.channel).demand + s.plan.levels.settings.margin ≤ s.ceiling

/-- R154, R100: what the entry to RUN from START makes of `s`: the counts 0, and every active OFF channel that is essential
or set to resume waits with a RESUME entry, or has been admitted. -/
structure State.EnteredRun (s t : State) : Prop where
  disc : t.disc =
    { s.disc with device := .run, reason := .none, isolateCount := 0, chargeCount := 0, entryPending := false }
  resumed : ∀ c : Chan, s.Unlisted c → (s.crec c).active = true → (s.chan c).state = .off →
    (s.rank c = 0 ∨ (s.crec c).resume = true) → s.waitsOrStarts t c .resume false
  others : ∀ c : Chan, s.Unlisted c → s.resumes c = false → (s.chan c).leftAlone (s.rank c) = true → t.chan c = s.chan c
  kept : State.PlannerOnly { s with disc := t.disc } t

/-- R66, R139: a channel that a RESTART does not keep, under its reloaded record. -/
def Channel.notKept (ch : Channel) (r : ChannelRec) : Channel :=
  if r.rank = 0 then
    { ch.keptWhenCut .deactivated with retryCount := if ch.state = .locked then 0 else ch.retryCount }
  else if ch.state = .locked then
    if r.active = true then ch else { ch with state := .off, reason := .deactivated, retryCount := 0 }
  else if ch.state = .off then ch
  else ch.keptWhenCut .restart

/-- R194: the notice of a plan load, stamped. -/
def State.loadNotices (s : State) (l : Load) : List Notice := l.notice.map fun x => s.notice x.1 x.2.1 x.2.2.1 x.2.2.2

/-- R190: the commands that may change the working plan. -/
def mayChangePlan (i : Instr) : Bool :=
  match i with
  | .setChannel _ _ => true
  | .setLevel _ _ => true
  | .setBattery _ _ => true
  | .setOcv _ _ => true
  | .setTimer _ _ => true
  | .setAux _ _ => true
  | .lockPlan _ _ => true
  | .restartReset => true
  | .powerOnReset _ _ => true
  | .brownoutReset _ => true
  | .byteReceived _ _ _ => true
  | _ => false

/-- R154, R158, R162, R164: the commands that may change the device state. -/
def mayChangeDevice (i : Instr) : Bool :=
  match i with
  | .disconnectReserveUpdate => true
  | .isolateDwellComplete => true
  | .reconnectChargeComplete => true
  | .relayPulseEnd => true
  | .stabilityPeriodEnd _ => true
  | .reconnect _ _ => true
  | .isolate _ _ => true
  | .powerOnReset _ _ => true
  | .brownoutReset _ => true
  | .byteReceived _ _ _ => true
  | _ => false

/-- The eleven installer requests with their type bytes (R177), each with the same sender and body. -/
def installerRequests (p : Peer) (body : List Byte) : List (Instr × Byte) :=
  [(.setChannel p body, 0x20), (.setLevel p body, 0x21), (.setBattery p body, 0x22), (.setOcv p body, 0x23),
    (.setTimer p body, 0x24), (.setAux p body, 0x25), (.setCharge p body, 0x28), (.isolate p body, 0x29),
    (.save p body, 0x2A), (.lockPlan p body, 0x2B), (.restart p body, 0x2C)]

/-- The eight user requests whose body a command carries whole, with their type bytes (R177). -/
def userRequests (p : Peer) (body : List Byte) : List (Instr × Byte) :=
  [(.status p body, 0x01), (.channel p body, 0x02), (.standbyPage p body, 0x03), (.notices p body, 0x04),
    (.clearLockout p body, 0x11), (.check p body, 0x12), (.reconnect p body, 0x13), (.clearCauses p body, 0x14)]

/-- The six CONFIG_READ commands on one index byte. -/
def configReads (p : Peer) (index : Byte) (extra : List Byte) : List Instr :=
  [.configReadChannel p index extra, .configReadLevel p index extra, .configReadBattery p index extra,
    .configReadOcv p index extra, .configReadTimer p index extra, .configReadAux p index extra]

/-- The two SWITCH commands on one channel byte and one set of flags. -/
def switches (p : Peer) (index : Byte) (flags : BitVec 7) (extra : List Byte) : List Instr :=
  [.switchOn p index flags extra, .switchOff p index flags extra]

/-- R177, R176: the minimum body of a type whose body a command carries whole. -/
def minimumBody (ty : Byte) : Nat :=
  if ty = 0x20 ∨ ty = 0x21 ∨ ty = 0x24 ∨ ty = 0x25 then 3
  else if ty = 0x22 ∨ ty = 0x23 ∨ ty = 0x28 then 2
  else if ty = 0x02 ∨ ty = 0x03 ∨ ty = 0x11 ∨ ty = 0x12 then 1
  else 0

/-- The six plan edits with their type bytes (R177). -/
def planEdits (p : Peer) (body : List Byte) : List (Instr × Byte) :=
  [(.setChannel p body, 0x20), (.setLevel p body, 0x21), (.setBattery p body, 0x22), (.setOcv p body, 0x23),
    (.setTimer p body, 0x24), (.setAux p body, 0x25)]

/-- Commands run one after another. -/
def runCommands (s : State) : List Instr → Host.Outcome State Fault Refusal
  | [] => .next s
  | i :: is =>
    match exec i s with
    | .next t => runCommands t is
    | .fault r => .fault r
    | .refused r => .refused r

end Sys2Proof.Machine
end

