-- ==== Sys2Proof/WellFormed.lean ====
section
/-!
DEFINITION. Which commands can come from outside: the ranges in which the front end delivers samples (00_scope.md, Units;
R1, R2, R114), the length of a frame's body (R165), and the shape of a complete frame (R166). `exec` answers on every
command, well formed or not.
-/

namespace Sys2Proof

/-- R1, Units: the front end clamps a battery sample to 0..40000 mV and −30000..30000 cA. -/
def batteryInRange (vb i : Int) : Bool := 0 ≤ vb && vb ≤ 40000 && -30000 ≤ i && i ≤ 30000

/-- R2: a reading marked valid lies in −40..+85 °C. -/
def temperatureInRange (t : Int) (valid : Bool) : Bool := !valid || (-40 ≤ t && t ≤ 85)

/-- Units: a channel sample lies in 0..2500 cA. -/
def channelSampleInRange (m : Nat) : Bool := m ≤ 2500

/-- R165: the longest body of a frame. -/
def maxBody : Nat := 56

/-- R165: a body of at most 56 bytes. -/
def bodyFits (body : List Byte) : Bool := body.length ≤ maxBody

/-- R177: the type bytes of the catalogue. -/
def catalogueCodes : List Byte :=
  [0x01, 0x02, 0x03, 0x04, 0x05, 0x10, 0x11, 0x12, 0x13, 0x14, 0x20, 0x21, 0x22, 0x23, 0x24, 0x25, 0x28, 0x29, 0x2A, 0x2B,
    0x2C]

/-- R173 step 2: a type byte outside the catalogue. -/
def typeUnknown (ty : Byte) : Bool := !catalogueCodes.contains ty

/-- R165, R166: a complete frame: its start byte, its body length byte, and exactly as many bytes as that says. -/
def frameShape (frame : List Byte) : Bool :=
  frame.getD 0 0 = 0xC3 && (frame.getD 5 0).toNat ≤ maxBody && frame.length = 8 + (frame.getD 5 0).toNat

/-- A command that can come from outside. -/
def Instr.wf (i : Instr) : Bool :=
  match i with
  | .batterySample vb i => batteryInRange vb i
  | .restSync vb i => batteryInRange vb i
  | .fullAnchor vb i => batteryInRange vb i
  | .emptyAnchor vb i => batteryInRange vb i
  | .temperatureSample t valid => temperatureInRange t valid
  | .channelSample _ m => channelSampleInRange m
  | .frameRejected frame => frameShape frame
  | .unknownTypeRequest _ ty body => typeUnknown ty && bodyFits body
  | .configReadChannel _ i extra => bodyFits (0 :: i :: extra)
  | .configReadLevel _ i extra => bodyFits (1 :: i :: extra)
  | .configReadBattery _ i extra => bodyFits (2 :: i :: extra)
  | .configReadOcv _ i extra => bodyFits (3 :: i :: extra)
  | .configReadTimer _ i extra => bodyFits (4 :: i :: extra)
  | .configReadAux _ i extra => bodyFits (5 :: i :: extra)
  | .switchOn _ i _ extra => bodyFits (i :: 1 :: extra)
  | .switchOff _ i _ extra => bodyFits (i :: 0 :: extra)
  | .status _ body => bodyFits body
  | .channel _ body => bodyFits body
  | .standbyPage _ body => bodyFits body
  | .notices _ body => bodyFits body
  | .clearLockout _ body => bodyFits body
  | .check _ body => bodyFits body
  | .reconnect _ body => bodyFits body
  | .clearCauses _ body => bodyFits body
  | .setChannel _ body => bodyFits body
  | .setLevel _ body => bodyFits body
  | .setBattery _ body => bodyFits body
  | .setOcv _ body => bodyFits body
  | .setTimer _ body => bodyFits body
  | .setAux _ body => bodyFits body
  | .setCharge _ body => bodyFits body
  | .isolate _ body => bodyFits body
  | .save _ body => bodyFits body
  | .lockPlan _ body => bodyFits body
  | .restart _ body => bodyFits body
  | .reserveUpdate => true
  | .deepeningDwellComplete => true
  | .easingDwellComplete => true
  | .sagComparatorSample => true
  | .toleranceTimerExpiry => true
  | .recoveryTimerExpiry => true
  | .shortReport _ => true
  | .rundownTimeout _ => true
  | .inrushWindowEnd _ => true
  | .retryTimerExpiry _ => true
  | .goodRunTimerExpiry _ => true
  | .offTimerExpiry _ => true
  | .onTimerExpiry _ => true
  | .checkTimerExpiry _ _ => true
  | .excessTimerExpiry => true
  | .restoreQuietExpiry => true
  | .idleTimerExpiry _ => true
  | .auxRawChange _ _ => true
  | .stabilityPeriodEnd _ => true
  | .disconnectReserveUpdate => true
  | .isolateDwellComplete => true
  | .reconnectChargeComplete => true
  | .relayPulseEnd => true
  | .storeWriteComplete _ => true
  | .gapTimerExpiry => true
  | .replyStart => true
  | .replyComplete => true
  | .restartReset => true
  | .powerOnReset _ _ => true
  | .brownoutReset _ => true
  | .byteReceived _ _ _ => true

end Sys2Proof
end

