-- ==== Sys2Proof/Certificates/Slice0/Obligations.lean ====
section
/-!
DEFINITION. The statements about the 4816. Each docstring names the rules a statement rests on. A request's answer is
written `t.replied p type status fields`: the receiver in HOLD and the reply pending (R168, R170), where `t` is the state
its own effect leaves. `s.setService p.service` is `s` with the SERVICE level that the request finds (R174). Where the
Start Slot and the Planner act on a request, `t` is what they leave, and the summary byte is that of the state before them
(R132; log entry 9).
-/

open Sys2Proof Sys2Proof.Machine

/-! ### The machine -/

/-- One step runs the command at the front of the queue on the state with the queue's rest. The queue is the model's own
(DESIGN CHOICE, notes/assumptions/10.md and 20.md): the manual has events and names no queue of them. -/
def Obligations.StepRunsTheFrontCommand : Prop :=
  ∀ (s : State) (c : Instr) (q : List Instr), s.pending = c :: q → step s = exec c (s.withPending q)

/-- The model's choice (DESIGN CHOICE, notes/assumptions/3.md and 17.md): with no command waiting one millisecond passes.
Uptime and the idle counts follow R198 and R144, every running timer has one millisecond less left, a stopped one stays
stopped, an idle expiry that a request overtook is so no longer (notes/assumptions/25.md), and nothing else changes. -/
def Obligations.EmptyQueueLetsAMillisecondPass : Prop :=
  ∀ s : State, s.UptimeOk → s.pending = [] →
    ∃ t, step s = .next t
      ∧ t = { s with
          sag := { s.sag with
            tolerance := s.sag.tolerance.map Run.fallen, recovery := s.sag.recovery.map Run.fallen }
          chans := t.chans
          planner := { s.planner with
            excess := s.planner.excess.map Run.fallen, restoreQuiet := s.planner.restoreQuiet.map Run.fallen }
          idle := t.idle
          overtaken := []
          aux := t.aux
          disc := { s.disc with pulse := s.disc.pulse.map fun p => (p.1, p.2 - 1) }
          link := { s.link with gap := s.link.gap.map Run.fallen }
          sys := { s.sys with
            uptime := if s.sys.msec = 999 then min 4294967295 (s.sys.uptime + 1) else s.sys.uptime
            msec := if s.sys.msec = 999 then 0 else s.sys.msec + 1 } }
      ∧ (∀ c : Chan, t.chan c =
          { s.chan c with
            inrush := match (s.chan c).inrush with | .timed r => .timed r.fallen | w => w
            offTimer := (s.chan c).offTimer.map Run.fallen, onTimer := (s.chan c).onTimer.map Run.fallen
            rundownTimer := (s.chan c).rundownTimer.map Run.fallen, retryTimer := (s.chan c).retryTimer.map Run.fallen
            goodRun := (s.chan c).goodRun.map Run.fallen, checkTimer := (s.chan c).checkTimer.map Run.fallen })
      ∧ (∀ n : TimerIx, t.idle[n].state = s.idle[n].state
          ∧ t.idle[n].count =
              if s.sys.msec = 999 ∧ s.disc.device = .run ∧ s.idle[n].state = .running then s.idle[n].count - 1
              else s.idle[n].count)
      ∧ ∀ n : AuxIx, t.aux[n] = { s.aux[n] with stability := s.aux[n].stability.map Run.fallen }

/-- No command reads or changes the queue of the commands that wait behind it. The queue is the model's own field (DESIGN
CHOICE, notes/assumptions/10.md and 20.md). -/
def Obligations.CommandsLeaveTheQueue : Prop :=
  ∀ (i : Instr) (s t : State) (q : List Instr), exec i s = .next t →
    t.pending = s.pending ∧ exec i (s.withPending q) = .next (t.withPending q)

/-- Every command answers a next state, in every state. The manual has no rule that stops the part; that a command whose event
cannot take place leaves the state as it is, is the model's reading (DEDUCED, notes/assumptions/2.md). -/
def Obligations.NoCommandStops : Prop := ∀ (i : Instr) (s : State), ∃ t, exec i s = .next t

/-- Every invariant below holds right after reset. -/
def Obligations.ResetIsOk : Prop := State.reset.Ok

/-! ### Invariants that every step keeps -/

/-- R190, R194, R3, R14, R27: the working plan stays valid under the straps, whatever is commanded. -/
def Obligations.WorkingPlanStaysValid : Prop := ∀ s t : State, s.PlanOk → step s = .next t → t.PlanOk

/-- R7, R8, R10, R11: Q stays in 0..Q_nom, the remainder in 0..999, and Q_use and R by their formulas. -/
def Obligations.EstimatorStaysInBounds : Prop :=
  ∀ s t : State, s.PlanOk → s.EstimatorOk → step s = .next t → t.EstimatorOk

/-- R183, R184: the ring never holds more than thirty-two notices. -/
def Obligations.RingStaysWithinThirtyTwo : Prop := ∀ s t : State, s.RingOk → step s = .next t → t.RingOk

/-- R166, R168, R170: HOLD exactly while a reply stands, a buffer in RECEIVING only, begun by the start byte, its length byte
at most 56, shorter than the whole frame. -/
def Obligations.LinkStaysCoherent : Prop := ∀ s t : State, s.LinkOk → step s = .next t → t.LinkOk

/-- R41 to R47: the comparator output, the two timers and release pending follow the sag state; in ISOLATED the sag state is
CLEAR and no battery sample waits for the comparator. -/
def Obligations.SagMonitorStaysCoherent : Prop := ∀ s t : State, s.SagOk → step s = .next t → t.SagOk

/-- R33, R37: no dwell is pending outside RUN, and no count stands without a dwell. -/
def Obligations.LevelDwellStaysCoherent : Prop := ∀ s t : State, s.LevelOk → step s = .next t → t.LevelOk

/-- R144, R148, R151, R153: DISABLED exactly when the record is, counts within the full count. -/
def Obligations.IdleTimersStayCoherent : Prop := ∀ s t : State, s.IdleOk → step s = .next t → t.IdleOk

/-- R112, R113, R116, R121, R124, R128, R136: every item of a channel follows its state. -/
def Obligations.ChannelItemsFollowTheState : Prop := ∀ s t : State, s.Coherent → step s = .next t → t.ChannelsOk

/-- R86, R87, R88: the slot's holder is the one channel in an inrush window, its waiting set the throttled channels whose
rest has ended, and nobody waits for a free slot but in a sag. -/
def Obligations.SlotFollowsTheChannels : Prop := ∀ s t : State, s.Coherent → step s = .next t → t.SlotOk

/-- R95, R96, R97, R99: one entry for each WAITING channel and no other, in the order of R96, held only by a sag. -/
def Obligations.StandbyListMatchesWaiting : Prop := ∀ s t : State, s.Coherent → step s = .next t → t.StandbyOk

/-- R154, R155, R158: outside RUN every channel is OFF or LOCKED, the list and the slot are empty, no idle expiry is overtaken; the reason, the last
relay pulse and the pulse in flight follow the device state. -/
def Obligations.OutsideRunEverythingIsOff : Prop := ∀ s t : State, s.Coherent → step s = .next t → t.DeviceOk

/-! ### Rules over all commands -/

/-- R190: the plan changes at a plan edit, LOCK_PLAN and the resets alone (or at the byte that completes such a request). -/
def Obligations.OnlyEditsAndResetsChangeThePlan : Prop :=
  ∀ (i : Instr) (s t : State), i.wf = true → exec i s = .next t → t.plan ≠ s.plan → mayChangePlan i = true

/-- R154, R158, R162, R164: the device state changes at the Disconnect Unit's own events and requests and at the resets
alone (or at the byte that completes such a request). -/
def Obligations.OnlyTheDisconnectUnitChangesTheDevice : Prop :=
  ∀ (i : Instr) (s t : State), i.wf = true → exec i s = .next t → t.disc.device ≠ s.disc.device →
    mayChangeDevice i = true

/-- R72, R76: a shed pass goes on until P is at or below D or no candidate remains; it touches only what the Planner acts
on, and every channel that is no candidate is as it was. -/
def Obligations.ShedPassEndsTheExcess : Prop :=
  ∀ s : State,
    ((s.shedPass passSteps).totalP ≤ (s.shedPass passSteps).ceiling ∨ (s.shedPass passSteps).shedCandidate = none)
      ∧ s.PlannerOnly (s.shedPass passSteps)
      ∧ ∀ c : Chan, s.isShedCandidate c = false → (s.shedPass passSteps).chan c = s.chan c

/-- R166, R167, R168: the bytes of a whole frame from a panel device, received in IDLE, do what the request command does. That
a request row is such a whole frame after a quiet line is the model's choice (DESIGN CHOICE, notes/assumptions/6.md). -/
def Obligations.FrameBytesMakeTheRequest : Prop :=
  ∀ (s : State) (p : Peer) (ty : Byte) (body : List Byte),
    s.link.rx = .idle → s.link.buffer = [] → s.sys.restartPending = false → body.length ≤ 56 →
    runCommands s ((frameOf (linkAddress s.sys.straps) (panelAddress p.panel) p.tag ty body).map
        fun b => .byteReceived b false p.service) = .next (s.arrive p ty body)

/-! ### The link -/

/-- R166, R170: the reply is sent, the line goes quiet, and the receiver is IDLE again; a gap in RECEIVING empties the
buffer; in HOLD a gap changes nothing. -/
def Obligations.ReplyIsSentAndTheLineRests : Prop :=
  (∀ (s : State) (f : List Byte), s.link.reply = .pending f →
      exec .replyStart s = .next { s with link := { s.link with reply := .sending f } })
    ∧ (∀ (s : State) (f : List Byte), s.link.reply = .sending f →
      exec .replyComplete s = .next { s with link := ⟨.skip, [], some ⟨10, 10⟩, .none⟩ })
    ∧ (∀ s : State, s.link.gap.isSome = true → s.link.rx = .skip ∨ s.link.rx = .receiving →
      exec .gapTimerExpiry s = .next { s with link := ⟨.idle, [], none, s.link.reply⟩ })
    ∧ (∀ s : State, s.link.gap.isSome = true → s.link.rx = .idle ∨ s.link.rx = .hold →
      exec .gapTimerExpiry s = .next { s with link := { s.link with gap := none } })

/-- R166, R168: what one byte does in each receiver state short of a whole frame, and what a frame that fails a test does, as
the command of the rejected frame and as the byte that completes it. Every byte restarts the gap timer; nothing but the link
and the SERVICE level seen changes. That the command is the whole frame after a quiet line is log entry 6 (DESIGN CHOICE). -/
def Obligations.BytesAndRejectedFramesMoveTheReceiver : Prop :=
  (∀ (s : State) (b : Byte) (err sv : Bool), s.link.rx = .idle →
      exec (.byteReceived b err sv) s =
        .next { s with
          sys := { s.sys with service := sv }
          link := if b = 0xC3 ∧ err = false then ⟨.receiving, [b], some ⟨10, 10⟩, s.link.reply⟩
            else ⟨.skip, [], some ⟨10, 10⟩, s.link.reply⟩ })
    ∧ (∀ (s : State) (b : Byte) (err sv : Bool), s.link.rx = .skip →
      exec (.byteReceived b err sv) s =
        .next { s with sys := { s.sys with service := sv }, link := ⟨.skip, [], some ⟨10, 10⟩, s.link.reply⟩ })
    ∧ (∀ (s : State) (b : Byte) (err sv : Bool), s.link.rx = .hold →
      exec (.byteReceived b err sv) s =
        .next { s with
          sys := { s.sys with service := sv }, link := ⟨.hold, s.link.buffer, some ⟨10, 10⟩, s.link.reply⟩ })
    ∧ (∀ (s : State) (b : Byte) (err sv : Bool), s.link.rx = .receiving → s.link.buffer.length < 5 →
      exec (.byteReceived b err sv) s =
        .next { s with
          sys := { s.sys with service := sv }
          link := if err then ⟨.skip, [], some ⟨10, 10⟩, s.link.reply⟩
            else ⟨.receiving, s.link.buffer ++ [b], some ⟨10, 10⟩, s.link.reply⟩ })
    ∧ (∀ (s : State) (b : Byte) (sv : Bool), s.link.rx = .receiving → s.link.buffer.length = 5 →
      exec (.byteReceived b false sv) s =
        .next { s with
          sys := { s.sys with service := sv }
          link := if 56 < b.toNat then ⟨.skip, [], some ⟨10, 10⟩, s.link.reply⟩
            else ⟨.receiving, s.link.buffer ++ [b], some ⟨10, 10⟩, s.link.reply⟩ })
    ∧ (∀ (s : State) (b : Byte) (sv : Bool), s.link.rx = .receiving → 6 ≤ s.link.buffer.length →
      s.link.buffer.length + 1 < 8 + (s.link.buffer.getD 5 0).toNat →
      exec (.byteReceived b false sv) s =
        .next { s with
          sys := { s.sys with service := sv }
          link := ⟨.receiving, s.link.buffer ++ [b], some ⟨10, 10⟩, s.link.reply⟩ })
    ∧ (∀ (s : State) (b : Byte) (sv : Bool), s.link.rx = .receiving →
      exec (.byteReceived b true sv) s =
        .next { s with sys := { s.sys with service := sv }, link := ⟨.skip, [], some ⟨10, 10⟩, s.link.reply⟩ })
    ∧ (∀ (s : State) (b : Byte) (sv : Bool) (f : Frame), s.link.rx = .receiving →
      parseFrame (s.link.buffer ++ [b]) = some f →
      (f.checkPasses = false ∨ f.dst ≠ linkAddress s.sys.straps ∨ f.src.toNat < 0x40 ∨ 0x47 < f.src.toNat) →
      exec (.byteReceived b false sv) s =
        .next { s with sys := { s.sys with service := sv }, link := ⟨.skip, [], some ⟨10, 10⟩, s.link.reply⟩ })
    ∧ (∀ (s : State) (frame : List Byte) (f : Frame), parseFrame frame = some f →
      (f.checkPasses = false ∨ f.dst ≠ linkAddress s.sys.straps ∨ f.src.toNat < 0x40 ∨ 0x47 < f.src.toNat) →
      exec (.frameRejected frame) s =
        .next { s with
          link := if s.link.rx = .hold then ⟨.hold, s.link.buffer, some ⟨10, 10⟩, s.link.reply⟩
            else ⟨.skip, [], some ⟨10, 10⟩, s.link.reply⟩ })

/-! ### Requests -/

/-- R187, R188, R108, R179, R49, R145, R142, R178: the requests that read are answered OK with their fields, and change
nothing but the link. The STATUS fields are the forty bytes of R178, those of CHANNEL sixteen. -/
def Obligations.ReadingRequestsAnswerAndChangeNothing : Prop :=
  ∀ (s : State) (p : Peer), s.Serves →
    (∃ fields : List Byte, fields.length = 40
        ∧ fields =
          [BitVec.ofNat 8 s.disc.device.code, BitVec.ofNat 8 s.disc.reason.code, BitVec.ofNat 8 s.level.current.val,
            BitVec.ofNat 8 s.level.pending.code] ++ u16 s.dwellRemaining
          ++ u16 s.est.r ++ u16 s.est.vb ++ u16 s.est.vc ++ i16 s.est.i
          ++ i8 s.est.temp ++ [if s.est.tempValid then 1 else 0] ++ u16 (s.est.qUse / 3600000)
          ++ [if s.est.synced then 1 else 0, BitVec.ofNat 8 s.sag.state.code]
          ++ u16 s.totalT ++ u16 s.totalP ++ u16 s.plan.levels.recs[s.level.current].ceiling
          ++ [match s.slot.holder with | some c => BitVec.ofNat 8 c.val | none => 0xFF,
            BitVec.ofNat 8 s.standby.entries.length, BitVec.ofNat 8 s.ring.notices.length,
            BitVec.ofNat 8 ((if s.sys.causes.powerOn then 1 else 0) + (if s.sys.causes.brownout then 2 else 0)
              + (if s.sys.causes.restart then 4 else 0))]
          ++ u16 s.plan.generation ++ [if s.plan.lock then 1 else 0, if p.service then 1 else 0]
          ++ [BitVec.ofNat 8 ((if s.aux[0].level = some true then 1 else 0) + (if s.aux[1].level = some true then 2 else 0)
              + (if s.aux[2].level = some true then 4 else 0) + (if s.aux[3].level = some true then 8 else 0)),
            if s.store.writing.isSome then 1 else 0] ++ u32 s.sys.uptime
        ∧ ∀ body : List Byte, body.length ≤ 56 → exec (.status p body) s =
            .next ((s.setService p.service).replied p 0x01 .ok fields))
      ∧ (∀ (c : Chan) (extra : List Byte), extra.length ≤ 55 → exec (.channel p (BitVec.ofNat 8 c.val :: extra)) s =
          .next ((s.setService p.service).replied p 0x02 .ok (s.channelBytes c)) ∧ (s.channelBytes c).length = 16)
      ∧ (∀ (start : Nat) (extra : List Byte), 1 ≤ start → start ≤ 16 → extra.length ≤ 55 →
          exec (.standbyPage p (BitVec.ofNat 8 start :: extra)) s =
            .next ((s.setService p.service).replied p 0x03 .ok
              (u8 s.standby.version ++ u8 s.standby.entries.length ++ u8 start
                ++ u8 ((s.standby.entries.drop (start - 1)).take 4).length
                ++ ((s.standby.entries.drop (start - 1)).take 4).flatMap s.entryBytes)))
      ∧ (∀ (c : Chan) (extra : List Byte), extra.length ≤ 54 → exec (.configReadChannel p (BitVec.ofNat 8 c.val) extra) s =
          .next ((s.setService p.service).replied p 0x05 .ok
            ([0, BitVec.ofNat 8 c.val] ++ u16 s.plan.generation ++ s.plan.channels[c].bytes)))
      ∧ (∀ (l : Level) (extra : List Byte), extra.length ≤ 54 → exec (.configReadLevel p (BitVec.ofNat 8 l.val) extra) s =
          .next ((s.setService p.service).replied p 0x05 .ok
            ([1, BitVec.ofNat 8 l.val] ++ u16 s.plan.generation ++ s.plan.levels.bytes l)))
      ∧ (∀ (index : Byte) (extra : List Byte), extra.length ≤ 54 → exec (.configReadBattery p index extra) s =
          .next ((s.setService p.service).replied p 0x05 .ok
            ([2, index] ++ u16 s.plan.generation ++ s.plan.battery.bytes)))
      ∧ (∀ (index : Byte) (extra : List Byte), extra.length ≤ 54 → exec (.configReadOcv p index extra) s =
          .next ((s.setService p.service).replied p 0x05 .ok ([3, index] ++ u16 s.plan.generation ++ ocvBytes s.plan.ocv)))
      ∧ (∀ (n : TimerIx) (extra : List Byte), extra.length ≤ 54 → exec (.configReadTimer p (BitVec.ofNat 8 n.val) extra) s =
          .next ((s.setService p.service).replied p 0x05 .ok
            ([4, BitVec.ofNat 8 n.val] ++ u16 s.plan.generation ++ s.plan.timers[n].bytes ++ u8 s.idle[n].state.code
              ++ u32 s.idle[n].count)))
      ∧ (∀ (n : AuxIx) (extra : List Byte), extra.length ≤ 54 → exec (.configReadAux p (BitVec.ofNat 8 n.val) extra) s =
          .next ((s.setService p.service).replied p 0x05 .ok
            ([5, BitVec.ofNat 8 n.val] ++ u16 s.plan.generation ++ s.plan.aux[n].bytes
              ++ u8 (yesNo (s.aux[n].level.getD false)))))

/-- R185: NOTICES returns and removes up to four notices from the head, reports the lost flag and clears it. In START it is
answered BUSY and the ring is not touched. -/
def Obligations.NoticesTakesFourFromTheHead : Prop :=
  ∀ (s : State) (p : Peer) (body : List Byte), s.Listens → body.length ≤ 56 →
    (s.disc.device ≠ .start → exec (.notices p body) s =
        .next (State.replied { s.setService p.service with ring := ⟨s.ring.notices.drop 4, false⟩ } p 0x04 .ok
          (u8 (yesNo s.ring.lost) ++ u8 (s.ring.notices.length - 4) ++ u8 (min 4 s.ring.notices.length)
            ++ (s.ring.notices.take 4).flatMap Notice.bytes)))
      ∧ (s.disc.device = .start → exec (.notices p body) s =
          .next ((s.setService p.service).replied p 0x04 .busy []))

/-- R173, R172, R174, R175, R176, R177, R108, R58: the refusals in their order, for every row: BUSY in START, whatever the
request; UNKNOWN_TYPE; a body shorter than the type's minimum INVALID; an INSTALLER request without SERVICE DENIED, from the
type's minimum on; PLAN_LOCKED under the lock (ISOLATE and RESTART are not gated); the link's field tests; and the owners'
tests of the start position and the indexes. A refused request changes nothing but the link; a refused plan edit carries
the generation, a refused SWITCH the position byte 0. A short CONFIG_READ or SWITCH and a section code above 5 are frames of
no row and arrive by bytes, which do what `State.arrive` does (FrameBytesMakeTheRequest). -/
def Obligations.RefusedRequestsChangeNothing : Prop :=
  ∀ (s : State) (p : Peer), s.Listens →
    (s.disc.device = .start →
        (∀ (ty : Byte) (body : List Byte), typeUnknown ty = true → body.length ≤ 56 →
          exec (.unknownTypeRequest p ty body) s = .next ((s.setService p.service).replied p ty .busy []))
        ∧ (∀ (body : List Byte), body.length ≤ 56 →
          (∀ x ∈ userRequests p body, exec x.1 s = .next ((s.setService p.service).replied p x.2 .busy []))
            ∧ ∀ x ∈ installerRequests p body, exec x.1 s = .next ((s.setService p.service).replied p x.2 .busy
                (if x.2.toNat ≤ 0x25 then u16 s.plan.generation else [])))
        ∧ (∀ (index : Byte) (extra : List Byte), extra.length ≤ 54 →
          (∀ i ∈ configReads p index extra, exec i s = .next ((s.setService p.service).replied p 0x05 .busy []))
            ∧ ∀ flags : BitVec 7, ∀ i ∈ switches p index flags extra,
                exec i s = .next ((s.setService p.service).replied p 0x10 .busy [0])))
      ∧ (s.disc.device ≠ .start → ∀ (ty : Byte) (body : List Byte), typeUnknown ty = true → body.length ≤ 56 →
          exec (.unknownTypeRequest p ty body) s = .next ((s.setService p.service).replied p ty .unknownType []))
      ∧ (s.disc.device ≠ .start → ∀ (body : List Byte),
          (∀ x ∈ userRequests p body, body.length < minimumBody x.2 →
              exec x.1 s = .next ((s.setService p.service).replied p x.2 .invalid []))
            ∧ (∀ x ∈ installerRequests p body, body.length < minimumBody x.2 →
              exec x.1 s = .next ((s.setService p.service).replied p x.2 .invalid
                (if x.2.toNat ≤ 0x25 then u16 s.plan.generation else [])))
            ∧ (body.length < 2 →
              s.arrive p 0x05 body = (s.setService p.service).replied p 0x05 .invalid []
                ∧ s.arrive p 0x10 body = (s.setService p.service).replied p 0x10 .invalid [0]))
      ∧ (s.disc.device ≠ .start → p.service = false → ∀ (body : List Byte), body.length ≤ 56 →
          ∀ x ∈ installerRequests p body, minimumBody x.2 ≤ body.length →
            exec x.1 s = .next ((s.setService false).replied p x.2 .denied
              (if x.2.toNat ≤ 0x25 then u16 s.plan.generation else [])))
      ∧ (s.disc.device ≠ .start → p.service = true → s.plan.lock = true → ∀ (body : List Byte), body.length ≤ 56 →
          ∀ x ∈ installerRequests p body, minimumBody x.2 ≤ body.length → x.2 ≠ 0x29 → x.2 ≠ 0x2C →
            exec x.1 s = .next ((s.setService true).replied p x.2 .planLocked
              (if x.2.toNat ≤ 0x25 then u16 s.plan.generation else [])))
      ∧ (s.disc.device ≠ .start → ∀ (index : Byte) (extra : List Byte), extra.length ≤ 54 →
          (15 < index.toNat →
              exec (.channel p (index :: extra)) s = .next ((s.setService p.service).replied p 0x02 .invalid [])
                ∧ exec (.clearLockout p (index :: extra)) s = .next ((s.setService p.service).replied p 0x11 .invalid [])
                ∧ exec (.check p (index :: extra)) s = .next ((s.setService p.service).replied p 0x12 .invalid [])
                ∧ exec (.configReadChannel p index extra) s =
                  .next ((s.setService p.service).replied p 0x05 .invalid []))
            ∧ (∀ flags : BitVec 7, 15 < index.toNat ∨ 1 < flags.toNat → ∀ i ∈ switches p index flags extra,
                exec i s = .next ((s.setService p.service).replied p 0x10 .invalid [0]))
            ∧ (7 < index.toNat → exec (.configReadLevel p index extra) s =
                .next ((s.setService p.service).replied p 0x05 .invalid []))
            ∧ (3 < index.toNat →
              exec (.configReadTimer p index extra) s = .next ((s.setService p.service).replied p 0x05 .invalid [])
                ∧ exec (.configReadAux p index extra) s = .next ((s.setService p.service).replied p 0x05 .invalid []))
            ∧ (∀ code : Byte, 5 < code.toNat →
                s.arrive p 0x05 (code :: index :: extra) = (s.setService p.service).replied p 0x05 .invalid [])
            ∧ (index = 0 ∨ 16 < index.toNat → exec (.standbyPage p (index :: extra)) s =
                .next ((s.setService p.service).replied p 0x03 .invalid [])))
      ∧ (s.Admits p → ∀ (g : Nat) (index : Byte) (rest : List Byte), s.Passes g → rest.length ≤ 53 →
          (15 < index.toNat → exec (.setChannel p (u16 g ++ [index] ++ rest)) s =
              .next ((s.setService true).replied p 0x20 .invalid (u16 s.plan.generation)))
            ∧ (7 < index.toNat → exec (.setLevel p (u16 g ++ [index] ++ rest)) s =
              .next ((s.setService true).replied p 0x21 .invalid (u16 s.plan.generation)))
            ∧ (3 < index.toNat →
              exec (.setTimer p (u16 g ++ [index] ++ rest)) s =
                  .next ((s.setService true).replied p 0x24 .invalid (u16 s.plan.generation))
                ∧ exec (.setAux p (u16 g ++ [index] ++ rest)) s =
                  .next ((s.setService true).replied p 0x25 .invalid (u16 s.plan.generation))))

/-- R191: a plan edit whose expected generation is neither 0xFFFF nor the current one is answered STALE with the current
generation, and changes nothing but the link, whatever its body. -/
def Obligations.StaleEditChangesNothing : Prop :=
  ∀ (s : State) (p : Peer) (g : Nat) (rest : List Byte), s.Admits p →
    g < 65535 → g ≠ s.plan.generation → 1 ≤ rest.length → rest.length ≤ 54 →
    ∀ x ∈ planEdits p (u16 g ++ rest),
      exec x.1 s = .next ((s.setService true).replied p x.2 .stale (u16 s.plan.generation))

/-- R132, R101, R107, R146: SWITCH ON by the channel's state. OFF: the channel waits with an entry of origin REQUEST, or the
re-evaluation has admitted it. WAITING: the entry is forced when that is asked and it is not forced yet. A switch that is
already in use changes nothing; RUNDOWN with intent OFF changes its intent; TRIPPED, LOCKED, CHECKING, an inactive channel
and ISOLATED are refused. Every form is an activity for the idle timers that count the channel, and a forced one is noted at
those whose expiry is due at that moment (R107, R150; log entry 25). The reply, its position and
its summary, is built before the Planner acts. -/
def Obligations.SwitchOnActsByTheState : Prop :=
  ∀ (s : State) (p : Peer) (c : Chan) (flags : BitVec 7) (extra : List Byte), s.Serves → flags.toNat ≤ 1 →
    extra.length ≤ 54 →
    ((s.crec c).active = true → s.disc.device = .run → (s.chan c).state = .off → s.Unlisted c →
        ∃ t, exec (.switchOn p (BitVec.ofNat 8 c.val) flags extra) s =
            .next (t.repliedWith s.summary p 0x10 .queued [BitVec.ofNat 8 ((s.insertEntry c .request (flags.toNat = 1)).position c)])
          ∧ State.PlannerOnly { s.setService p.service with idle := s.panelIdle c, link := t.link } t
          ∧ s.OthersKept t [c] ∧ (t.chan c).reason = (s.chan c).reason
          ∧ (((t.chan c).state = .waiting
                ∧ t.entry? c = some ⟨c, .request, flags.toNat = 1, false, s.sys.uptime⟩)
              ∨ ((t.chan c).state = .starting ∧ t.slot.holder = some c)))
      ∧ (∀ e : Entry, (s.crec c).active = true → s.disc.device = .run → (s.chan c).state = .waiting →
          s.entry? c = some e → e.forced = true ∨ flags.toNat = 0 → s.SlotQuiet →
          exec (.switchOn p (BitVec.ofNat 8 c.val) flags extra) s =
            .next (State.replied
              { s.setService p.service with idle := s.panelIdle c, overtaken := s.overtakenBy c (flags.toNat = 1) }
              p 0x10 .queued [BitVec.ofNat 8 (s.position c)]))
      ∧ (∀ e : Entry, (s.crec c).active = true → s.disc.device = .run → (s.chan c).state = .waiting →
          s.entry? c = some e → e.forced = false → flags.toNat = 1 →
          ∃ t, exec (.switchOn p (BitVec.ofNat 8 c.val) flags extra) s =
              .next (t.repliedWith s.summary p 0x10 .queued [BitVec.ofNat 8 ((s.forceEntry c).position c)])
            ∧ State.PlannerOnly
              { s.setService p.service with idle := s.panelIdle c, link := t.link, overtaken := s.overtakenBy c true } t
            ∧ s.OthersKept t [c]
            ∧ (((t.chan c).state = .waiting ∧ t.entry? c = some { e with forced := true })
              ∨ ((t.chan c).state = .starting ∧ t.slot.holder = some c)))
      ∧ ((s.crec c).active = true → s.disc.device = .run →
          (s.chan c).state = .starting ∨ (s.chan c).state = .on ∨ (s.chan c).state = .throttled
            ∨ ((s.chan c).state = .rundown ∧ (s.chan c).intent ≠ .off) →
          exec (.switchOn p (BitVec.ofNat 8 c.val) flags extra) s =
            .next (State.replied { s.setService p.service with idle := s.panelIdle c } p 0x10 .ok [0]))
      ∧ ((s.crec c).active = true → s.disc.device = .run →
          (s.chan c).state = .rundown ∧ (s.chan c).intent = .off →
          exec (.switchOn p (BitVec.ofNat 8 c.val) flags extra) s =
            .next (State.replied
              { s.setService p.service with
                idle := s.panelIdle c, chans := s.chans.set c { s.chan c with intent := .waitRequest } } p 0x10 .ok [0]))
      ∧ ((s.crec c).active = false ∨ s.disc.device = .isolated ∨ (s.chan c).state = .tripped
            ∨ (s.chan c).state = .locked ∨ (s.chan c).state = .checking →
          exec (.switchOn p (BitVec.ofNat 8 c.val) flags extra) s =
            .next (State.replied { s.setService p.service with idle := s.panelIdle c } p 0x10 .notAllowed [0]))

/-- R133, R146: SWITCH OFF by the channel's state, always OK: a rundown where one is configured, else the channel OFF with
reason PANEL; in RUNDOWN the intent OFF; in OFF, LOCKED and CHECKING nothing but the activity. That the summary byte is read
before the Planner acts is log entry 9 (DEDUCED). -/
def Obligations.SwitchOffActsByTheState : Prop :=
  ∀ (s : State) (p : Peer) (c : Chan) (flags : BitVec 7) (extra : List Byte), s.Serves → flags.toNat ≤ 1 →
    extra.length ≤ 54 →
    ((s.chan c).state = .on → (s.crec c).rundownTimeout ≠ 0 → s.Unlisted c →
        ∃ t, exec (.switchOff p (BitVec.ofNat 8 c.val) flags extra) s = .next (t.repliedWith s.summary p 0x10 .ok [0])
          ∧ State.PlannerOnly { s.setService p.service with idle := s.panelIdle c, link := t.link } t ∧ s.OthersKept t [c]
          ∧ t.chan c = { s.chan c with state := .rundown, reason := .panel, intent := .off, doneStreak := 0, goodRun := none
                                       rundownTimer := some ⟨(s.crec c).rundownTimeout * 1000,
                                         (s.crec c).rundownTimeout * 1000⟩ })
      ∧ (((s.chan c).state = .on ∧ (s.crec c).rundownTimeout = 0) ∨ (s.chan c).state = .starting
            ∨ (s.chan c).state = .throttled ∨ (s.chan c).state = .waiting →
          ((s.chan c).state ≠ .waiting → s.entry? c = none) →
          ∃ t, exec (.switchOff p (BitVec.ofNat 8 c.val) flags extra) s = .next (t.repliedWith s.summary p 0x10 .ok [0])
            ∧ State.PlannerOnly { s.setService p.service with idle := s.panelIdle c, link := t.link } t ∧ s.OthersKept t [c]
            ∧ (t.chan c).state = .off ∧ (t.chan c).reason = .panel ∧ t.out c = false ∧ t.slot.holder ≠ some c
            ∧ t.Unlisted c
            ∧ (t.chan c).retryCount = (s.chan c).retryCount ∧ (t.chan c).lastCheck = (s.chan c).lastCheck)
      ∧ ((s.chan c).state = .rundown → s.Unlisted c →
          ∃ t, exec (.switchOff p (BitVec.ofNat 8 c.val) flags extra) s = .next (t.repliedWith s.summary p 0x10 .ok [0])
            ∧ State.PlannerOnly { s.setService p.service with idle := s.panelIdle c, link := t.link } t ∧ s.OthersKept t [c]
            ∧ t.chan c = { s.chan c with intent := .off, reason := .panel })
      ∧ ((s.chan c).state = .tripped → s.Unlisted c →
          ∃ t, exec (.switchOff p (BitVec.ofNat 8 c.val) flags extra) s = .next (t.repliedWith s.summary p 0x10 .ok [0])
            ∧ State.PlannerOnly { s.setService p.service with idle := s.panelIdle c, link := t.link } t ∧ s.OthersKept t [c]
            ∧ t.chan c = { s.chan c with state := .off, reason := .panel, retryTimer := none })
      ∧ ((s.chan c).state = .off ∨ (s.chan c).state = .locked ∨ (s.chan c).state = .checking → s.SlotQuiet →
          exec (.switchOff p (BitVec.ofNat 8 c.val) flags extra) s =
            .next (State.replied { s.setService p.service with idle := s.panelIdle c } p 0x10 .ok [0]))

/-- R134, R135: CLEAR_LOCKOUT of a LOCKED channel and CHECK of an active OFF channel in RUN, and their refusals. Nothing
else changes. -/
def Obligations.ClearLockoutAndCheckActOnOneChannel : Prop :=
  ∀ (s : State) (p : Peer) (c : Chan) (extra : List Byte), s.Serves → extra.length ≤ 55 →
    ((s.chan c).state = .locked → exec (.clearLockout p (BitVec.ofNat 8 c.val :: extra)) s =
        .next (((s.setService p.service).setChan c
          { s.chan c with state := .off, retryCount := 0, reason := .panel }).replied p 0x11 .ok []))
      ∧ ((s.chan c).state ≠ .locked → exec (.clearLockout p (BitVec.ofNat 8 c.val :: extra)) s =
          .next ((s.setService p.service).replied p 0x11 .notAllowed []))
      ∧ ((s.crec c).active = true ∧ (s.chan c).state = .off ∧ s.disc.device = .run →
          exec (.check p (BitVec.ofNat 8 c.val :: extra)) s =
            .next (((s.setService p.service).setChan c
              { s.chan c with state := .checking, checkTimer := some ⟨500, 500⟩ }).replied p 0x12 .ok []))
      ∧ (¬((s.crec c).active = true ∧ (s.chan c).state = .off ∧ s.disc.device = .run) →
          exec (.check p (BitVec.ofNat 8 c.val :: extra)) s =
            .next ((s.setService p.service).replied p 0x12 .notAllowed []))

/-- R161, R160, R162: RECONNECT by the device state, the pulse and the battery condition. That an edited V_cut counts in it at
once, as R160 says, and not from the next reserve update, is the model's choice (DESIGN CHOICE, log entry 26). -/
def Obligations.ReconnectActsByTheDevice : Prop :=
  ∀ (s : State) (p : Peer) (body : List Byte), s.Listens → body.length ≤ 56 →
    (s.disc.device = .start ∨ s.disc.pulse.isSome = true →
        exec (.reconnect p body) s = .next ((s.setService p.service).replied p 0x13 .busy []))
      ∧ (s.disc.device = .run → s.disc.pulse = none →
          exec (.reconnect p body) s = .next ((s.setService p.service).replied p 0x13 .ok []))
      ∧ (s.disc.device = .isolated → s.disc.pulse = none →
          s.disc.vc < s.plan.battery.vCut + s.plan.battery.reconnectMargin → s.disc.i ≤ 0 →
          exec (.reconnect p body) s = .next ((s.setService p.service).replied p 0x13 .tooLow []))
      ∧ (s.disc.device = .isolated → s.disc.pulse = none →
          s.plan.battery.vCut + s.plan.battery.reconnectMargin ≤ s.disc.vc ∨ 0 < s.disc.i →
          ∃ t, exec (.reconnect p body) s = .next (t.replied p 0x13 .ok [])
            ∧ (s.setService p.service).ReconnectedBy 3 t)

/-- R157, R158: ISOLATE by the device state: BUSY in START, an isolation for STORAGE from RUN, the reason STORAGE in
ISOLATED; the plan lock does not stop it. What `State.IsolatedFor` says of the order of aborted checks' notices (log entry 9)
and of the kept last samples and start times and the dropped comparator samples (log entry 13) is the model's reading. -/
def Obligations.IsolateRequestActsByTheDevice : Prop :=
  ∀ (s : State) (p : Peer) (body : List Byte), s.Listens → p.service = true → body.length ≤ 56 →
    (s.disc.device = .start → exec (.isolate p body) s = .next ((s.setService true).replied p 0x29 .busy []))
      ∧ (s.disc.device = .run → s.disc.pulse = none →
        ∃ t, exec (.isolate p body) s = .next (t.replied p 0x29 .ok []) ∧ (s.setService true).IsolatedFor .storage t)
      ∧ (s.disc.device = .run → s.disc.pulse.isSome = true →
          exec (.isolate p body) s = .next ((s.setService true).replied p 0x29 .busy []))
      ∧ (s.disc.device = .isolated → exec (.isolate p body) s =
          .next (State.replied { s.setService true with disc := { s.disc with reason := .storage, chargeCount := 0 } }
            p 0x29 .ok []))

/-- R58, R59, R61, R63, R102, R130, R190: SET_CHANNEL on the fields `rest` after the channel's number: a valid record replaces
the old one and increases the generation; a channel that the Planner leaves alone keeps its live state. A changed rank moves
a WAITING channel's entry to its place; an edit that clears throttle permission or sets rank 0 unthrottles a THROTTLED one
without a RESTORE notice. Clearing the active field takes an OFF or LOCKED channel to OFF, DEACTIVATED, and is NOT_ALLOWED in
every other state; an invalid record or an index above 15 changes nothing. The summary byte is read before the Planner
re-evaluates (DEDUCED, log entry 9), and a changed rank always counts as a change of the list (R102). -/
def Obligations.SetChannelReplacesTheRecord : Prop :=
  ∀ (s : State) (p : Peer) (g : Nat) (c : Chan) (rest : List Byte), s.Admits p → s.Passes g → rest.length ≤ 53 →
    (∀ raw : RawChannel, channelFromBody (s.crec c) rest = some raw → raw.valid = true →
        deactivates (s.crec c) raw.fields = false →
        ∃ t, exec (.setChannel p (u16 g ++ [BitVec.ofNat 8 c.val] ++ rest)) s =
            .next (t.repliedWith s.summary p 0x20 .ok (u16 s.increased))
          ∧ t.plan = { s.plan with channels := s.plan.channels.set c raw.fields, generation := s.increased }
          ∧ State.PlannerOnly { s.setService true with plan := t.plan, link := t.link } t ∧ s.OthersKept t [c]
          ∧ (s.Unlisted c → (s.chan c).leftAlone (s.rank c) = true → (s.chan c).leftAlone raw.fields.rank = true →
              t.chan c = s.chan c)
          ∧ (s.planner.restoreQuiet.isSome = true → s.plan.levels.settings.excessDwell ≠ 0 →
              (∀ e : Entry, (s.chan c).state = .waiting → s.entry? c = some e → s.waitsForSlot c = false →
                  t.chan c = s.chan c ∧ t.entry? c = some e
                    ∧ t.standby =
                      if raw.fields.rank = s.rank c then s.standby
                      else
                        ⟨placeEntry t.rank e (s.standby.entries.filter fun x => x.channel ≠ c),
                          (s.standby.version + 1) % 256⟩)
                ∧ ((s.chan c).state = .throttled →
                    ((s.crec c).throttle = true ∧ raw.fields.throttle = false)
                      ∨ (s.rank c ≠ 0 ∧ raw.fields.rank = 0) →
                    ((s.chan c).phase = .run → (s.chan c).inrush.isOpen = false → s.waitsForSlot c = false →
                        t.ring = s.ring ∧ t.chan c =
                          { s.chan c with
                            state := .on, phase := .none, unthrottlePending := false, onTimer := none
                            goodRun := some ⟨60000, 60000⟩ })
                      ∧ ((s.chan c).phase = .run → (s.chan c).inrush.isOpen = true → s.slot.holder = some c →
                        t.ring = s.ring ∧ t.slot = s.slot
                          ∧ t.chan c = { s.chan c with state := .starting, phase := .none, onTimer := none })
                      ∧ ((s.chan c).phase = .rest → s.slot = ⟨none, []⟩ →
                          s.sag.state = .clear ∨ s.sag.state = .recovering →
                          t.ring = s.ring ∧ t.slot = ⟨some c, []⟩
                            ∧ t.chan c =
                              { s.chan c with
                                state := .starting, phase := .none, unthrottlePending := false, offTimer := none
                                ocStreak := 0
                                inrush :=
                                  if raw.fields.inrush = 0 then .untilSample
                                  else .timed ⟨raw.fields.inrush * 100, raw.fields.inrush * 100⟩ })
                      ∧ ((s.chan c).phase = .rest →
                          s.slot.holder ≠ none ∨ s.sag.state = .sagging ∨ s.sag.state = .sagShedding →
                          t.ring = s.ring
                            ∧ t.slot =
                              ⟨s.slot.holder,
                                if c ∈ s.slot.waiting then s.slot.waiting else s.slot.waiting ++ [c]⟩
                            ∧ t.chan c = { s.chan c with unthrottlePending := true, offTimer := none }))))
      ∧ (∀ raw : RawChannel, channelFromBody (s.crec c) rest = some raw → raw.valid = true →
          deactivates (s.crec c) raw.fields = true → (s.chan c).state = .off ∨ (s.chan c).state = .locked →
          s.Unlisted c →
          ∃ t, exec (.setChannel p (u16 g ++ [BitVec.ofNat 8 c.val] ++ rest)) s =
              .next (t.repliedWith s.summary p 0x20 .ok (u16 s.increased))
            ∧ t.plan = { s.plan with channels := s.plan.channels.set c raw.fields, generation := s.increased }
            ∧ State.PlannerOnly { s.setService true with plan := t.plan, link := t.link } t ∧ s.OthersKept t [c]
            ∧ t.chan c = { s.chan c with state := .off, reason := .deactivated, retryCount := 0 })
      ∧ (∀ raw : RawChannel, channelFromBody (s.crec c) rest = some raw → raw.valid = true →
          deactivates (s.crec c) raw.fields = true → (s.chan c).state ≠ .off → (s.chan c).state ≠ .locked →
          exec (.setChannel p (u16 g ++ [BitVec.ofNat 8 c.val] ++ rest)) s =
            .next ((s.setService true).replied p 0x20 .notAllowed (u16 s.plan.generation)))
      ∧ ((channelFromBody (s.crec c) rest = none
            ∨ ∃ raw, channelFromBody (s.crec c) rest = some raw ∧ raw.valid = false) →
          exec (.setChannel p (u16 g ++ [BitVec.ofNat 8 c.val] ++ rest)) s =
            .next ((s.setService true).replied p 0x20 .invalid (u16 s.plan.generation)))
      ∧ (∀ index : Byte, 15 < index.toNat →
          exec (.setChannel p (u16 g ++ [index] ++ rest)) s =
            .next ((s.setService true).replied p 0x20 .invalid (u16 s.plan.generation)))

/-- R28, R29, R190: SET_LEVEL on the fields `rest` after the level's number: a table that meets R27 replaces the old one,
increases the generation and cancels a pending dwell; any other changes nothing. That the summary byte is read before the
Planner acts is log entry 9 (DEDUCED). -/
def Obligations.SetLevelReplacesTheTable : Prop :=
  ∀ (s : State) (p : Peer) (g : Nat) (l : Level) (rest : List Byte), s.Admits p → s.Passes g → rest.length ≤ 53 →
    (∀ tbl : LevelTable, levelsFromBody s.plan.levels l rest = some tbl → validLevels s.sys.straps.vsys tbl = true →
        ∃ t, exec (.setLevel p (u16 g ++ [BitVec.ofNat 8 l.val] ++ rest)) s =
            .next (t.repliedWith s.summary p 0x21 .ok (u16 s.increased))
          ∧ t.plan = { s.plan with levels := tbl, generation := s.increased }
          ∧ t.level = { s.level with pending := .none, count := 0 }
          ∧ State.PlannerOnly { s.setService true with plan := t.plan, level := t.level, link := t.link } t
          ∧ s.OthersKept t [])
      ∧ ((levelsFromBody s.plan.levels l rest = none
            ∨ ∃ tbl, levelsFromBody s.plan.levels l rest = some tbl ∧ validLevels s.sys.straps.vsys tbl = false) →
          exec (.setLevel p (u16 g ++ [BitVec.ofNat 8 l.val] ++ rest)) s =
            .next ((s.setService true).replied p 0x21 .invalid (u16 s.plan.generation)))

/-- R3, R4, R22, R14, R190: SET_BATTERY and SET_OCV: a valid profile or table replaces the old one and increases the
generation. A changed C_nom rescales Q and clears the remainder, and it or a changed k recomputes Q_use and R; each of the
three timers starts from 0 when a field of its own changed; every other item of the estimator stands. An invalid one changes
nothing. -/
def Obligations.SetBatteryAndSetOcvReplaceTheirTables : Prop :=
  ∀ (s : State) (p : Peer) (g : Nat) (rest : List Byte), s.Admits p → s.Passes g → rest.length ≤ 54 →
    (∀ b : Battery, batteryFromBody s.plan.battery rest = some b → validBattery s.sys.straps.vsys b = true →
        ∃ t e, exec (.setBattery p (u16 g ++ rest)) s = .next (t.replied p 0x22 .ok (u16 s.increased))
          ∧ t = { s.setService true with plan := { s.plan with battery := b, generation := s.increased }, est := e }
          ∧ e.q = (if b.cNom ≠ s.plan.battery.cNom then b.qNom * s.est.q / s.plan.battery.qNom else s.est.q)
          ∧ e.rem = (if b.cNom ≠ s.plan.battery.cNom then 0 else s.est.rem)
          ∧ (b.cNom ≠ s.plan.battery.cNom ∨ b.k ≠ s.plan.battery.k →
              e.qUse = b.qNom * derate b.k s.est.temp / 1000 ∧ e.r = min 1000 (e.q * 1000 / e.qUse))
          ∧ (b.cNom = s.plan.battery.cNom → b.k = s.plan.battery.k → e.qUse = s.est.qUse ∧ e.r = s.est.r)
          ∧ e.tailTimer =
            (if b.vFull = s.plan.battery.vFull ∧ b.tailCurrent = s.plan.battery.tailCurrent
                ∧ b.tailTime = s.plan.battery.tailTime then s.est.tailTimer else 0)
          ∧ e.emptyTimer = (if b.vEmpty = s.plan.battery.vEmpty then s.est.emptyTimer else 0)
          ∧ e.restTimer =
            (if b.restCurrent = s.plan.battery.restCurrent ∧ b.restTime = s.plan.battery.restTime then s.est.restTimer
              else 0)
          ∧ (e.synced, e.vc, e.vb, e.i, e.temp, e.tempValid, e.restMade, e.fullArm, e.emptyArm, e.startSyncDue)
              = (s.est.synced, s.est.vc, s.est.vb, s.est.i, s.est.temp, s.est.tempValid, s.est.restMade, s.est.fullArm,
                  s.est.emptyArm, s.est.startSyncDue))
      ∧ ((batteryFromBody s.plan.battery rest = none
            ∨ ∃ b, batteryFromBody s.plan.battery rest = some b ∧ validBattery s.sys.straps.vsys b = false) →
          exec (.setBattery p (u16 g ++ rest)) s =
            .next ((s.setService true).replied p 0x22 .invalid (u16 s.plan.generation)))
      ∧ (∀ tbl : Vector OcvPoint 8, ocvFromBody s.plan.ocv rest = some tbl → validOcv s.sys.straps.vsys tbl = true →
          exec (.setOcv p (u16 g ++ rest)) s =
            .next (State.replied { s.setService true with plan := { s.plan with ocv := tbl, generation := s.increased } }
              p 0x23 .ok (u16 s.increased)))
      ∧ ((ocvFromBody s.plan.ocv rest = none
            ∨ ∃ tbl, ocvFromBody s.plan.ocv rest = some tbl ∧ validOcv s.sys.straps.vsys tbl = false) →
          exec (.setOcv p (u16 g ++ rest)) s =
            .next ((s.setService true).replied p 0x23 .invalid (u16 s.plan.generation)))

/-- R142, R143, R151, R190: SET_TIMER and SET_AUX: a valid record replaces the old one and increases the generation; the
timer edited is armed when enabled and DISABLED otherwise, and its overtaken expiry does not happen (R150). An invalid record changes nothing. -/
def Obligations.SetTimerAndSetAuxReplaceTheirRecords : Prop :=
  ∀ (s : State) (p : Peer) (g : Nat) (n : Fin 4) (rest : List Byte), s.Admits p → s.Passes g → rest.length ≤ 53 →
    (∀ raw : RawTimer, timerFromBody s.plan.timers[n] rest = some raw → raw.valid = true →
        exec (.setTimer p (u16 g ++ [BitVec.ofNat 8 n.val] ++ rest)) s =
          .next (State.replied
            { s.setService true with
              plan := { s.plan with timers := s.plan.timers.set n raw.toRec, generation := s.increased }
              overtaken := s.overtaken.filter fun x => x.1 ≠ n
              idle := s.idle.set n (if raw.enabled ≠ 0 then ⟨.running, raw.terminal * 60⟩ else ⟨.disabled, 0⟩) }
            p 0x24 .ok (u16 s.increased)))
      ∧ ((timerFromBody s.plan.timers[n] rest = none
            ∨ ∃ raw, timerFromBody s.plan.timers[n] rest = some raw ∧ raw.valid = false) →
          exec (.setTimer p (u16 g ++ [BitVec.ofNat 8 n.val] ++ rest)) s =
            .next ((s.setService true).replied p 0x24 .invalid (u16 s.plan.generation)))
      ∧ (∀ r : AuxRec, auxFromBody s.plan.aux[n] rest = some r →
          exec (.setAux p (u16 g ++ [BitVec.ofNat 8 n.val] ++ rest)) s =
            .next (State.replied
              { s.setService true with plan := { s.plan with aux := s.plan.aux.set n r, generation := s.increased } }
              p 0x25 .ok (u16 s.increased)))
      ∧ (auxFromBody s.plan.aux[n] rest = none →
          exec (.setAux p (u16 g ++ [BitVec.ofNat 8 n.val] ++ rest)) s =
            .next ((s.setService true).replied p 0x25 .invalid (u16 s.plan.generation)))

/-- R20, R15, R198: SET_CHARGE sets the count to the requested reserve, clamped at 1000, and pushes SYNC, MANUAL;
CLEAR_CAUSES empties the reset-cause set. Nothing else changes. -/
def Obligations.SetChargeAndClearCauses : Prop :=
  (∀ (s : State) (p : Peer) (r : Nat) (extra : List Byte), s.Admits p → r < 65536 → extra.length ≤ 54 →
      exec (.setCharge p (u16 r ++ extra)) s =
        .next (State.replied
          { s.setService true with
            est := { s.est with
              q := s.est.qUse * min 1000 r / 1000, rem := 0, synced := true
              r := min 1000 (s.est.qUse * min 1000 r / 1000 * 1000 / s.est.qUse) }
            ring := s.ring.push
              (s.notice .sync none 4 (min 1000 (s.est.qUse * min 1000 r / 1000 * 1000 / s.est.qUse))) }
          p 0x28 .ok (u16 (min 1000 (s.est.qUse * min 1000 r / 1000 * 1000 / s.est.qUse)))))
    ∧ (∀ (s : State) (p : Peer) (body : List Byte), s.Serves → body.length ≤ 56 →
      exec (.clearCauses p body) s =
        .next (State.replied
          { s with sys := { s.sys with service := p.service, causes := ⟨false, false, false⟩ } } p 0x14 .ok []))

/-- R192, R193: SAVE and LOCK_PLAN start the store write with its snapshot, and are BUSY while one is in flight; the
completion makes the image the snapshot, or leaves it invalid, with its notice. That the image is held as one whose check
does not match while the write is in flight is the model's choice (DESIGN CHOICE, log entry 11): R192 says only that it is
invalid. -/
def Obligations.SaveLockAndTheStoreWrite : Prop :=
  (∀ (s : State) (p : Peer) (body : List Byte), s.Admits p → body.length ≤ 56 → s.store.writing = none →
      exec (.save p body) s =
          .next (State.replied { s.setService true with store := ⟨.badCheck, some s.plan⟩ } p 0x2A .ok [])
        ∧ exec (.lockPlan p body) s =
          .next (State.replied
            { s.setService true with
              plan := { s.plan with lock := true }, store := ⟨.badCheck, some { s.plan with lock := true }⟩ }
            p 0x2B .ok []))
    ∧ (∀ (s : State) (p : Peer) (body : List Byte), s.Admits p → body.length ≤ 56 → s.store.writing.isSome = true →
      exec (.save p body) s = .next ((s.setService true).replied p 0x2A .busy [])
        ∧ exec (.lockPlan p body) s = .next ((s.setService true).replied p 0x2B .busy []))
    ∧ (∀ (s : State) (x : Plan), s.store.writing = some x →
      exec (.storeWriteComplete true) s =
          .next { s with
            store := ⟨.plan x, none⟩
            ring := s.ring.push (s.notice .saved none x.generation (if x.lock then 1 else 0)) }
        ∧ exec (.storeWriteComplete false) s =
          .next { s with
            store := ⟨.badCheck, none⟩
            ring := s.ring.push (s.notice .saveFailed none x.generation (if x.lock then 1 else 0)) })

/-! ### Resets -/

/-- R197, R175, R66, R139, R92, R26, R40, R153, R164, R182, R186: RESTART is answered OK and stands due, or BUSY while a store
write is in flight; the plan lock does not gate it. At the restart that follows the reply the plan is reloaded, every channel
but the essential ones is cut, uptime, the straps, the level, the sync state and the device state are kept, and the notices
are RESET, any plan notice, and the aborted checks. The model's own readings in it: the kept mail (DESIGN CHOICE, log
entry 13), the place and the order of the aborted checks' notices (DEDUCED, log entry 9), and the retry count and the check of
an essential channel whose reloaded record is inactive (DEDUCED, log entry 15). -/
def Obligations.RestartFollowsItsReply : Prop :=
  (∀ (s : State) (p : Peer) (body : List Byte), s.Serves → p.service = true → body.length ≤ 56 →
      (s.store.writing = none → exec (.restart p body) s =
          .next (State.replied { s with sys := { s.sys with service := true, restartPending := true } } p 0x2C .ok []))
        ∧ (s.store.writing.isSome = true → exec (.restart p body) s =
            .next ((s.setService true).replied p 0x2C .busy [])))
    ∧ (∀ s : State, s.sys.restartPending = true → s.link.reply = .none →
      ∃ (t : State) (load : Load), load = loadPlan s.store.image s.sys.straps ∧ exec .restartReset s = .next t
        ∧ t.plan = load.plan ∧ t.store = s.store ∧ t.pending = s.pending ∧ t.aux = s.aux ∧ t.mail = s.mail ∧ t.overtaken = []
        ∧ t.est = s.est.reprofile s.plan.battery load.plan.battery
        ∧ t.level = { s.level with pending := .none, count := 0 }
        ∧ t.sag = ⟨true, .clear, none, none, false, false, 0⟩
        ∧ (∀ n : TimerIx, t.idle[n] =
            if load.plan.timers[n].enabled = true then ⟨.running, load.plan.timers[n].terminal * 60⟩ else ⟨.disabled, 0⟩)
        ∧ t.disc = { s.disc with isolateCount := 0, chargeCount := 0 }
        ∧ t.link = ⟨.skip, [], some ⟨10, 10⟩, .none⟩
        ∧ t.sys = { s.sys with causes := { s.sys.causes with restart := true }, restartPending := false }
        ∧ s.Pushed ((s.notice .reset none 3 t.sys.causes.code :: s.loadNotices load)
            ++ ((allChans.filter fun c => !load.plan.keeps c && (s.chan c).state = .checking).map fun c =>
              s.notice .checkResult (some c.val) 4 (Timer.elapsed (s.chan c).checkTimer))) t
        ∧ (∀ c : Chan, ¬(load.plan.channels[c].rank = 0 ∧ load.plan.channels[c].active = true) →
            t.chan c = (s.chan c).notKept load.plan.channels[c] ∧ t.Unlisted c ∧ t.slot.holder ≠ some c)
        ∧ (∀ c : Chan, load.plan.channels[c].rank = 0 → load.plan.channels[c].active = true → s.Unlisted c →
            (s.chan c).leftAlone 0 = true → t.chan c = s.chan c))

/-- R196, R24, R40, R48, R91, R111, R138, R153, R164, R182, R186, R193: every block after a POWER_ON reset, whatever it held.
The state after reset is what a POWER_ON reset of a unit wired as it is leaves. The model's own choices in it: the dropped mail
(DESIGN CHOICE, log entry 13), the zeros of the isolate dwell length, the milliseconds of a second and the sag sheds, the note
of R31, and the wiring of State.reset (DESIGN CHOICE, log entry 1). -/
def Obligations.PowerOnResetsEveryBlock : Prop :=
  (∀ (s : State) (straps : Straps) (service : Bool),
      ∃ (t : State) (load : Load), load = loadPlan s.store.image straps ∧ exec (.powerOnReset straps service) s = .next t
        ∧ t.pending = s.pending ∧ t.overtaken = []
        ∧ t.plan = { load.plan with lock := load.plan.lock && !service }
        ∧ t.store = ⟨s.store.image, none⟩
        ∧ t.est =
          { q := 0, rem := 0, qUse := load.plan.battery.cNom * 3600000, r := 0, vc := 0, vb := 0, i := 0, temp := 20
            tempValid := false, synced := false, restTimer := 0, restMade := false, fullArm := false, tailTimer := 0
            emptyArm := false, emptyTimer := 0, startSyncDue := true }
        ∧ t.mail = ⟨[], [], []⟩
        ∧ t.level = ⟨0, .none, 0, 0, false, false⟩
        ∧ t.sag = ⟨true, .clear, none, none, false, false, 0⟩
        ∧ (∀ c : Chan, t.chan c = .initial)
        ∧ t.planner = ⟨none, none, false⟩ ∧ t.slot = ⟨none, []⟩ ∧ t.standby = ⟨[], 0⟩
        ∧ (∀ n : TimerIx, t.idle[n] =
            if load.plan.timers[n].enabled = true then ⟨.running, load.plan.timers[n].terminal * 60⟩ else ⟨.disabled, 0⟩)
        ∧ (∀ n : AuxIx, t.aux[n] = ⟨s.aux[n].raw, none, some ⟨50, 50⟩⟩)
        ∧ t.disc = ⟨.start, .none, 0, 0, 0, 0, 0, some (.closeRelay, 50), .closeRelay, false⟩
        ∧ t.link = ⟨.skip, [], some ⟨10, 10⟩, .none⟩
        ∧ t.ring = ⟨⟨.reset, 0, none, 1, 1⟩ :: load.notice.map (fun x => ⟨x.1, 0, x.2.1, x.2.2.1, x.2.2.2⟩), false⟩
        ∧ t.sys = ⟨straps, service, ⟨true, false, false⟩, 0, 0, false⟩)
    ∧ exec (.powerOnReset Config.resetStraps Config.resetService) State.reset = .next State.reset

/-- R196, R164, R25, R40, R66, R138, R153, R182, R186: a BROWNOUT reset isolates the part: level 7, every channel that is not
LOCKED cut, uptime, the charge count and the retry counts kept, the notices RESET, any plan notice, ISOLATED. The model's own
choices in it: the dropped mail, the isolate dwell length 0 and the kept last samples and start times (log entry 13), and the
note of R31 (log entry 1). -/
def Obligations.BrownoutIsolatesThePart : Prop :=
  ∀ (s : State) (straps : Straps),
    ∃ (t : State) (load : Load), load = loadPlan s.store.image straps ∧ exec (.brownoutReset straps) s = .next t
      ∧ t.pending = s.pending ∧ t.plan = load.plan ∧ t.store = ⟨s.store.image, none⟩ ∧ t.overtaken = []
      ∧ t.est =
        { s.est.reprofile s.plan.battery load.plan.battery with
          vc := 0, vb := 0, i := 0, restTimer := 0, restMade := false, tailTimer := 0, emptyTimer := 0 }
      ∧ t.mail = ⟨[], [], []⟩
      ∧ t.level = { s.level with current := 7, pending := .none, count := 0, deep := 7, byReserve := false }
      ∧ t.sag = ⟨true, .clear, none, none, false, false, 0⟩
      ∧ (∀ c : Chan, t.chan c =
          if (s.chan c).state = .locked then
            if load.plan.channels[c].active = true then s.chan c
            else { s.chan c with state := .off, reason := .deactivated, retryCount := 0 }
          else (s.chan c).keptWhenCut .isolation)
      ∧ t.planner = ⟨none, none, false⟩ ∧ t.slot = ⟨none, []⟩
      ∧ t.standby = ⟨[], if s.standby.entries = [] then s.standby.version else (s.standby.version + 1) % 256⟩
      ∧ (∀ n : TimerIx, t.idle[n] =
          if load.plan.timers[n].enabled = true then ⟨.running, load.plan.timers[n].terminal * 60⟩ else ⟨.disabled, 0⟩)
      ∧ (∀ n : AuxIx, t.aux[n] = ⟨s.aux[n].raw, none, some ⟨50, 50⟩⟩)
      ∧ t.disc = ⟨.isolated, .brownout, 0, 0, 0, 0, 0, some (.openRelay, 50), .openRelay, false⟩
      ∧ t.link = ⟨.skip, [], some ⟨10, 10⟩, .none⟩
      ∧ t.sys = { s.sys with
          straps := straps, causes := { s.sys.causes with brownout := true }, restartPending := false }
      ∧ t.ring = ((s.notice .reset none 2 t.sys.causes.code :: s.loadNotices load)
          ++ [s.notice .isolated none 4 0]).foldl Ring.push s.ring

/-! ### The Reserve Estimator -/

/-- R1, R5, R6, R10, R12, R16, R23: a battery sample at which no sync of stages E to G is made. The first one after POWER_ON
sets Q from the OCV table; every other one counts its charge. V_c, R, the arms and the three timers follow; the reserve
update is published, and outside ISOLATED the raw voltage (R41, R47); nothing else changes. That the published values wait in
queues of the model is log entry 4 (DESIGN CHOICE), and that the start sync makes a SYNCED estimator UNSYNCED is log entry 24
(DESIGN CHOICE). -/
def Obligations.BatterySamplesCountTheCharge : Prop :=
  ∀ (s : State) (vb i : Int), 0 ≤ vb → vb ≤ 40000 → -30000 ≤ i → i ≤ 30000 →
    (s.est.restMade = true ∨ s.est.restTimer + 1 < s.plan.battery.restTime * 600) →
    s.est.tailTimer + 1 < s.plan.battery.tailTime * 10 → s.est.emptyTimer + 1 < 100 →
    ∃ t, exec (.batterySample vb i) s = .next t
      ∧ t = { s with
          est := t.est
          mail := ⟨s.mail.level ++ [⟨t.est.r, t.est.vc, vb.toNat, i⟩], s.mail.disconnect ++ [⟨t.est.r, t.est.vc, vb.toNat, i⟩],
            if s.disc.device = .isolated then s.mail.sag else s.mail.sag ++ [vb.toNat]⟩ }
      ∧ t.est.vb = vb.toNat ∧ t.est.i = i
      ∧ t.est.vc = (max 0 (min 40000 (vb - (i * (s.plan.battery.rInt : Int)).tdiv 100))).toNat
      ∧ (s.est.startSyncDue = false →
          t.est.q = (if i ≤ 0 then s.est.q - (-i).toNat
            else min (s.plan.battery.cNom * 3600000) (s.est.q + (s.est.rem + i.toNat * s.plan.battery.eta) / 1000))
          ∧ t.est.rem = (if i ≤ 0 then s.est.rem else (s.est.rem + i.toNat * s.plan.battery.eta) % 1000)
          ∧ t.est.synced = s.est.synced)
      ∧ (s.est.startSyncDue = true →
          t.est.q = s.est.qUse * ocvLookup s.plan.ocv t.est.vc / 1000 ∧ t.est.rem = 0 ∧ t.est.synced = false)
      ∧ t.est.startSyncDue = false
      ∧ t.est.r = min 1000 (t.est.q * 1000 / s.est.qUse)
      ∧ t.est.qUse = s.est.qUse ∧ t.est.temp = s.est.temp ∧ t.est.tempValid = s.est.tempValid
      ∧ t.est.fullArm = (s.est.fullArm || t.est.r < 950)
      ∧ t.est.emptyArm = (s.est.emptyArm || s.plan.battery.vEmpty + 300 < t.est.vc)
      ∧ t.est.restTimer =
        (if i.natAbs ≤ s.plan.battery.restCurrent then min (s.est.restTimer + 1) (s.plan.battery.restTime * 600) else 0)
      ∧ t.est.restMade = (s.est.restMade && i.natAbs ≤ s.plan.battery.restCurrent)
      ∧ t.est.tailTimer =
        (if t.est.fullArm = true ∧ 0 < i ∧ i ≤ (s.plan.battery.tailCurrent : Int) ∧ s.plan.battery.vFull ≤ vb.toNat then
          s.est.tailTimer + 1 else 0)
      ∧ t.est.emptyTimer =
        (if t.est.emptyArm = true ∧ t.est.vc ≤ s.plan.battery.vEmpty then s.est.emptyTimer + 1 else 0)

/-- R17, R15: the sample that completes the rest timer makes the rest sync: Q from the OCV table when R differs from it by
more than the resync threshold, Q as counted otherwise; SYNCED, and the SYNC notice. That the command of the sync and the
plain sample do the same is the model's choice (DESIGN CHOICE, log entry 5). -/
def Obligations.RestSyncFollowsTheOcvTable : Prop :=
  ∀ (s : State) (vb i : Int), 0 ≤ vb → vb ≤ 40000 → -30000 ≤ i → i ≤ 30000 → s.est.startSyncDue = false →
    i.natAbs ≤ s.plan.battery.restCurrent → s.est.restMade = false → s.plan.battery.restTime * 600 ≤ s.est.restTimer + 1 →
    s.est.tailTimer + 1 < s.plan.battery.tailTime * 10 → s.est.emptyTimer + 1 < 100 →
    ∃ t, exec (.restSync vb i) s = .next t ∧ exec (.batterySample vb i) s = .next t
      ∧ t = { s with
          est := t.est
          mail := ⟨s.mail.level ++ [⟨t.est.r, t.est.vc, vb.toNat, i⟩], s.mail.disconnect ++ [⟨t.est.r, t.est.vc, vb.toNat, i⟩],
            if s.disc.device = .isolated then s.mail.sag else s.mail.sag ++ [vb.toNat]⟩
          ring := s.ring.push (s.notice .sync none 1 t.est.r) }
      ∧ t.est.vc = (max 0 (min 40000 (vb - (i * (s.plan.battery.rInt : Int)).tdiv 100))).toNat
      ∧ (let counted := s.est.count s.plan.battery i
         let r := min 1000 (counted.q * 1000 / s.est.qUse)
         let ro := ocvLookup s.plan.ocv t.est.vc
         t.est.q = (if s.plan.battery.resync < max ro r - min ro r then s.est.qUse * ro / 1000 else counted.q)
          ∧ t.est.rem = (if s.plan.battery.resync < max ro r - min ro r then 0 else counted.rem))
      ∧ t.est.r = min 1000 (t.est.q * 1000 / s.est.qUse) ∧ t.est.qUse = s.est.qUse
      ∧ t.est.synced = true ∧ t.est.restMade = true ∧ t.est.restTimer = s.plan.battery.restTime * 600

/-- R18, R19, R15: the sample at which the full anchor fires sets Q to Q_nom; the one at which the empty anchor fires lowers
R to the anchor reserve where it is above it. Each disarms its anchor, stands SYNCED and pushes its SYNC notice. That
FULL_ANCHOR and EMPTY_ANCHOR are the battery sample at which they fire is the model's choice (DESIGN CHOICE, log entry 5); R
after an empty anchor is R10's formula, which may lie one below the anchor reserve (DESIGN CHOICE, log entry 22). -/
def Obligations.AnchorsSetTheCount : Prop :=
  ∀ (s : State) (vb i : Int), 0 ≤ vb → vb ≤ 40000 → -30000 ≤ i → i ≤ 30000 → s.est.startSyncDue = false →
    (s.est.restMade = true ∨ s.est.restTimer + 1 < s.plan.battery.restTime * 600) →
    (s.est.fullArm = true → 0 < i → i ≤ (s.plan.battery.tailCurrent : Int) → s.plan.battery.vFull ≤ vb.toNat →
        s.plan.battery.tailTime * 10 ≤ s.est.tailTimer + 1 → s.est.emptyTimer + 1 < 100 →
        ∃ t, exec (.fullAnchor vb i) s = .next t ∧ exec (.batterySample vb i) s = .next t
          ∧ t = { s with
              est := t.est
              mail := ⟨s.mail.level ++ [⟨t.est.r, t.est.vc, vb.toNat, i⟩],
                s.mail.disconnect ++ [⟨t.est.r, t.est.vc, vb.toNat, i⟩], if s.disc.device = .isolated then s.mail.sag else s.mail.sag ++ [vb.toNat]⟩
              ring := s.ring.push (s.notice .sync none 2 t.est.r) }
          ∧ t.est.q = s.plan.battery.cNom * 3600000 ∧ t.est.rem = 0 ∧ t.est.fullArm = false ∧ t.est.tailTimer = 0
          ∧ t.est.synced = true ∧ t.est.qUse = s.est.qUse ∧ t.est.r = min 1000 (t.est.q * 1000 / s.est.qUse))
      ∧ (s.est.emptyArm = true → compensated s.plan.battery vb.toNat i ≤ s.plan.battery.vEmpty →
        99 ≤ s.est.emptyTimer → s.est.tailTimer + 1 < s.plan.battery.tailTime * 10 →
        ∃ t, exec (.emptyAnchor vb i) s = .next t ∧ exec (.batterySample vb i) s = .next t
          ∧ t = { s with
              est := t.est
              mail := ⟨s.mail.level ++ [⟨t.est.r, t.est.vc, vb.toNat, i⟩],
                s.mail.disconnect ++ [⟨t.est.r, t.est.vc, vb.toNat, i⟩], if s.disc.device = .isolated then s.mail.sag else s.mail.sag ++ [vb.toNat]⟩
              ring := s.ring.push (s.notice .sync none 3 t.est.r) }
          ∧ (let counted := s.est.count s.plan.battery i
             let r := min 1000 (counted.q * 1000 / s.est.qUse)
             t.est.q = (if s.plan.battery.rAnchor < r then s.est.qUse * s.plan.battery.rAnchor / 1000 else counted.q)
              ∧ t.est.rem = (if s.plan.battery.rAnchor < r then 0 else counted.rem))
          ∧ t.est.emptyArm = false ∧ t.est.emptyTimer = 0
          ∧ t.est.synced = true ∧ t.est.qUse = s.est.qUse ∧ t.est.r = min 1000 (t.est.q * 1000 / s.est.qUse))

/-- R2, R8, R10: a valid reading replaces the temperature in use, and Q_use and R follow at once; an invalid one is only
noted. -/
def Obligations.TemperatureSetsUsableCapacity : Prop :=
  ∀ (s : State) (temp : Int) (valid : Bool),
    (valid = true → -40 ≤ temp → temp ≤ 85 →
        ∃ t, exec (.temperatureSample temp valid) s = .next t
          ∧ t = { s with est := { s.est with temp := temp, tempValid := true, qUse := t.est.qUse, r := t.est.r } }
          ∧ t.est.qUse = s.plan.battery.cNom * 3600000
              * (if 20 ≤ temp then 1000 else (max 500 (1000 - (s.plan.battery.k : Int) * (20 - temp))).toNat) / 1000
          ∧ t.est.r = min 1000 (s.est.q * 1000 / t.est.qUse))
      ∧ (valid = false ∨ temp < -40 ∨ 85 < temp →
          exec (.temperatureSample temp valid) s = .next { s with est := { s.est with tempValid := false } })

/-- R13: the lookup of a valid OCV table: the first reserve up to the first voltage, the last from the last voltage on, and
between two points linear, rounded down, in exactly one segment with a positive divisor. It lies in 0..1000 and never falls
as the voltage rises. -/
def Obligations.OcvLookupInterpolates : Prop :=
  ∀ (v : SystemVoltage) (t : Vector OcvPoint 8), validOcv v t = true →
    (∀ x : Nat, x ≤ t[0].v → ocvLookup t x = t[0].r)
      ∧ (∀ x : Nat, t[7].v ≤ x → ocvLookup t x = t[7].r)
      ∧ (∀ (n : Fin 7) (x : Nat), t[n.castSucc].v ≤ x → x < t[n.succ].v →
          ocvLookup t x =
            t[n.castSucc].r + (x - t[n.castSucc].v) * (t[n.succ].r - t[n.castSucc].r) / (t[n.succ].v - t[n.castSucc].v))
      ∧ (∀ x : Nat, t[0].v < x → x < t[7].v → ∃ n : Fin 7, (t[n.castSucc].v ≤ x ∧ x < t[n.succ].v)
          ∧ ∀ k : Fin 7, t[k.castSucc].v ≤ x → x < t[k.succ].v → k = n)
      ∧ (∀ x y : Nat, x ≤ y → ocvLookup t x ≤ ocvLookup t y ∧ ocvLookup t y ≤ 1000)

/-! ### The Level Controller -/

/-- R31, R32, R33, R37: every reserve update stores the demanded depth, the deepest level whose condition holds, with the
note whether the reserve demanded it. One that completes no dwell starts, counts or cancels a dwell in RUN, and changes
nothing else. -/
def Obligations.ReserveUpdatesDriveTheDwell : Prop :=
  ∀ (s : State) (u : ReserveUpdate) (rest : List ReserveUpdate), s.mail.level = u :: rest →
    ∃ (deep : Level) (byReserve : Bool),
      (∀ l : Level, l ≠ 0 → u.r ≤ s.plan.levels.recs[l].enter
          ∨ (s.plan.levels.recs[l].floor ≠ 0 ∧ u.vc ≤ s.plan.levels.recs[l].floor) → l ≤ deep)
      ∧ (deep ≠ 0 → u.r ≤ s.plan.levels.recs[deep].enter
          ∨ (s.plan.levels.recs[deep].floor ≠ 0 ∧ u.vc ≤ s.plan.levels.recs[deep].floor))
      ∧ (byReserve = true ↔ deep ≠ 0 ∧ u.r ≤ s.plan.levels.recs[deep].enter)
      ∧ (∃ t, exec .reserveUpdate s = .next t ∧ t.level.deep = deep ∧ t.level.byReserve = byReserve)
      ∧ (s.level.firstTaken = true → s.disc.device = .run → s.level.current < deep → s.level.pending = .deepen →
          s.level.count + 1 < s.plan.levels.settings.enterDwell * 10 →
          exec .reserveUpdate s = .next { s with
            mail := { s.mail with level := rest }
            level := { s.level with deep := deep, byReserve := byReserve, count := s.level.count + 1 } })
      ∧ (s.level.firstTaken = true → s.disc.device = .run → s.level.current < deep → s.level.pending ≠ .deepen →
          0 < s.plan.levels.settings.enterDwell →
          exec .reserveUpdate s = .next { s with
            mail := { s.mail with level := rest }
            level := { s.level with deep := deep, byReserve := byReserve, pending := .deepen, count := 0 } })
      ∧ (s.level.firstTaken = true → s.disc.device = .run → deep ≤ s.level.current → s.level.current ≠ 0 →
          s.plan.levels.eases u s.level.current = true → s.level.pending = .ease →
          s.level.count + 1 < s.plan.levels.settings.leaveDwell * 10 →
          exec .reserveUpdate s = .next { s with
            mail := { s.mail with level := rest }
            level := { s.level with deep := deep, byReserve := byReserve, count := s.level.count + 1 } })
      ∧ (s.level.firstTaken = true → s.disc.device = .run → deep ≤ s.level.current → s.level.current ≠ 0 →
          s.plan.levels.eases u s.level.current = true → s.level.pending ≠ .ease →
          0 < s.plan.levels.settings.leaveDwell →
          exec .reserveUpdate s = .next { s with
            mail := { s.mail with level := rest }
            level := { s.level with deep := deep, byReserve := byReserve, pending := .ease, count := 0 } })
      ∧ (s.level.firstTaken = true → s.disc.device = .run → deep ≤ s.level.current →
          s.level.current = 0 ∨ s.plan.levels.eases u s.level.current = false →
          exec .reserveUpdate s = .next { s with
            mail := { s.mail with level := rest }
            level := { s.level with deep := deep, byReserve := byReserve, pending := .none, count := 0 } })
      ∧ (s.level.firstTaken = true → s.disc.device ≠ .run →
          exec .reserveUpdate s = .next { s with
            mail := { s.mail with level := rest }, level := { s.level with deep := deep, byReserve := byReserve } })

/-- R34, R35, R36, R71: the update that completes a dwell changes the level: to the demanded depth, or one shallower. The
LEVEL_CHANGE notice comes first, the restore-quiet timer is fresh, and the Planner acts. With an enter dwell of 0 the update
that starts the deepening completes it. That the command of the completion and the plain update do the same is the model's
choice (DESIGN CHOICE, log entry 5). -/
def Obligations.CompletedDwellsChangeTheLevel : Prop :=
  ∀ (s : State) (u : ReserveUpdate) (rest : List ReserveUpdate), s.mail.level = u :: rest → s.level.firstTaken = true →
    s.disc.device = .run →
    (s.level.current < s.plan.levels.deepOf u →
        s.plan.levels.settings.enterDwell * 10 ≤ (if s.level.pending = .deepen then s.level.count + 1 else 0) →
        ∃ t, exec .deepeningDwellComplete s = .next t ∧ exec .reserveUpdate s = .next t
          ∧ t.level =
            { s.level with
              current := s.plan.levels.deepOf u, pending := .none, count := 0, deep := s.plan.levels.deepOf u
              byReserve := s.plan.levels.deepByReserve u }
          ∧ s.Pushed [s.notice .levelChange (some (s.plan.levels.deepOf u).val) s.level.current.val
              (if s.plan.levels.deepByReserve u = true then 1 else 2)] t
          ∧ t.planner.restoreQuiet = some ⟨s.plan.levels.settings.restoreDwell * 1000,
              s.plan.levels.settings.restoreDwell * 1000⟩
          ∧ State.PlannerOnly { s with mail := { s.mail with level := rest }, level := t.level } t ∧ s.OthersKept t [])
      ∧ (s.plan.levels.deepOf u ≤ s.level.current → s.level.current ≠ 0 →
        s.plan.levels.eases u s.level.current = true → s.level.pending = .ease →
        s.plan.levels.settings.leaveDwell * 10 ≤ s.level.count + 1 →
        ∃ t, exec .easingDwellComplete s = .next t ∧ exec .reserveUpdate s = .next t
          ∧ t.level =
            { s.level with
              current := t.level.current, pending := .none, count := 0, deep := s.plan.levels.deepOf u
              byReserve := s.plan.levels.deepByReserve u }
          ∧ t.level.current.val + 1 = s.level.current.val
          ∧ s.Pushed [s.notice .levelChange (some (s.level.current.val - 1)) s.level.current.val 3] t
          ∧ t.planner.restoreQuiet = some ⟨s.plan.levels.settings.restoreDwell * 1000,
              s.plan.levels.settings.restoreDwell * 1000⟩
          ∧ State.PlannerOnly { s with mail := { s.mail with level := rest }, level := t.level } t ∧ s.OthersKept t [])

/-- R38, R36: the first update after POWER_ON sets the level to the demanded depth directly, whatever the dwells; in START
only the restore-quiet timer is told. Taken in ISOLATED, after a BROWNOUT, it leaves the level as the isolation set it. Taken
in RUN after that BROWNOUT and a reconnection it sets the level directly, which is the model's choice between R38 and R39
(DESIGN CHOICE, log entry 23). -/
def Obligations.FirstUpdateSetsTheLevel : Prop :=
  ∀ (s : State) (u : ReserveUpdate) (rest : List ReserveUpdate), s.mail.level = u :: rest → s.level.firstTaken = false →
    (s.disc.device = .start → s.plan.levels.deepOf u ≠ s.level.current →
        exec .reserveUpdate s = .next { s with
          mail := { s.mail with level := rest }
          level :=
            { current := s.plan.levels.deepOf u, pending := .none, count := 0, deep := s.plan.levels.deepOf u
              byReserve := s.plan.levels.deepByReserve u, firstTaken := true }
          planner :=
            { s.planner with
              restoreQuiet := some ⟨s.plan.levels.settings.restoreDwell * 1000,
                s.plan.levels.settings.restoreDwell * 1000⟩ }
          ring := s.ring.push (s.notice .levelChange (some (s.plan.levels.deepOf u).val) s.level.current.val
            (if s.plan.levels.deepByReserve u = true then 1 else 2)) })
      ∧ (s.disc.device = .run → s.plan.levels.deepOf u ≠ s.level.current →
          ∃ t, exec .reserveUpdate s = .next t
            ∧ t.level =
              { current := s.plan.levels.deepOf u, pending := .none, count := 0, deep := s.plan.levels.deepOf u
                byReserve := s.plan.levels.deepByReserve u, firstTaken := true }
            ∧ s.Pushed [s.notice .levelChange (some (s.plan.levels.deepOf u).val) s.level.current.val
              (if s.plan.levels.deepByReserve u = true then 1 else 2)] t
            ∧ State.PlannerOnly { s with mail := { s.mail with level := rest }, level := t.level } t ∧ s.OthersKept t [])
      ∧ ((s.disc.device ≠ .isolated ∧ s.plan.levels.deepOf u = s.level.current) ∨ s.disc.device = .isolated →
          exec .reserveUpdate s = .next { s with
            mail := { s.mail with level := rest }
            level :=
              { s.level with
                deep := s.plan.levels.deepOf u, byReserve := s.plan.levels.deepByReserve u, firstTaken := true } })

/-! ### The Sag Monitor -/

/-- R41, R42, R45, R47: the comparator's sample: a falling event starts the tolerance timer, a rising event the recovery
dwell or CLEAR, with SAG_CLEAR out of SAG_SHEDDING; a voltage between the thresholds, and any in ISOLATED, is taken without
effect. -/
def Obligations.SagComparatorRaisesItsEvents : Prop :=
  ∀ (s : State) (vb : Nat) (rest : List Nat), s.mail.sag = vb :: rest →
    (s.disc.device ≠ .isolated → s.sag.high = true → vb < s.plan.battery.vSag → s.sag.state = .clear →
        exec .sagComparatorSample s = .next { s with
          mail := { s.mail with sag := rest }
          sag :=
            { s.sag with
              high := false, state := .sagging
              tolerance := some ⟨s.plan.battery.sagTolerance, s.plan.battery.sagTolerance⟩ } })
      ∧ (s.disc.device ≠ .isolated → s.sag.high = true → vb < s.plan.battery.vSag → s.sag.state = .recovering →
          exec .sagComparatorSample s = .next { s with
            mail := { s.mail with sag := rest }
            sag :=
              { s.sag with
                high := false, state := .sagging, recovery := none
                tolerance := some ⟨s.plan.battery.sagTolerance, s.plan.battery.sagTolerance⟩ } })
      ∧ (s.disc.device = .isolated ∨ (s.sag.high = true ∧ s.plan.battery.vSag ≤ vb)
            ∨ (s.sag.high = false ∧ vb ≤ s.plan.battery.vSag + s.plan.battery.hs) →
          exec .sagComparatorSample s = .next { s with mail := { s.mail with sag := rest } })
      ∧ (s.disc.device ≠ .isolated → s.sag.high = false → s.plan.battery.vSag + s.plan.battery.hs < vb →
          s.sag.state = .sagging ∨ s.sag.state = .sagShedding →
          ∃ t, exec .sagComparatorSample s = .next t
            ∧ t.sag =
              (if s.sag.state = .sagging ∧ s.sag.releasePending = false then
                { s.sag with high := true, state := .clear, tolerance := none }
              else
                { s.sag with
                  high := true, state := .recovering, tolerance := none
                  recovery := some ⟨s.plan.battery.sagRecovery * 1000, s.plan.battery.sagRecovery * 1000⟩ })
            ∧ (s.sag.state = .sagShedding → s.Pushed [s.notice .sagClear none s.sag.sheds vb] t)
            ∧ State.PlannerOnly { s with mail := { s.mail with sag := rest }, sag := t.sag } t ∧ s.OthersKept t [])

/-- R43, R44, R46, R78, R79, R103: an expiry of the tolerance timer asks for one sag shed and starts the timer again: the
sag candidate runs down or waits with a held entry, and with no candidate the lack of relief is reported once, without a
re-evaluation (DEDUCED from R79, log entry 16). The recovery dwell ends in CLEAR with every entry released. -/
def Obligations.SagTimersShedAndRelease : Prop :=
  (∀ (s : State) (c : Chan), s.sag.tolerance.isSome = true → s.disc.device = .run → s.sagCandidate = some c →
      s.Unlisted c → s.sag.state = .sagging ∨ (s.sag.state = .sagShedding ∧ s.sag.releasePending = true) →
      ∃ t, exec .toleranceTimerExpiry s = .next t
        ∧ t.sag =
          { s.sag with
            state := .sagShedding, releasePending := true
            tolerance := some ⟨s.plan.battery.sagTolerance, s.plan.battery.sagTolerance⟩
            noReliefReported := s.sag.state = .sagShedding ∧ s.sag.noReliefReported = true
            sheds := if s.sag.state = .sagging then 1 else s.sag.sheds + 1 }
        ∧ (s.sag.state = .sagging → s.Pushed [s.notice .sagStart none s.est.vb s.plan.battery.vSag] t)
        ∧ (t.chan c).reason = .sag
        ∧ (if (s.chan c).state = .on ∧ (s.crec c).rundownTimeout ≠ 0 then
            (t.chan c).state = .rundown ∧ (t.chan c).intent = .waitSag
          else
            (t.chan c).state = .waiting ∧ t.entry? c = some ⟨c, .sag, false, true, s.sys.uptime⟩ ∧ t.out c = false)
        ∧ t.planner.restoreQuiet = some ⟨s.plan.levels.settings.restoreDwell * 1000,
            s.plan.levels.settings.restoreDwell * 1000⟩
        ∧ State.PlannerOnly { s with sag := t.sag } t ∧ s.OthersKept t [c])
    ∧ (∀ s : State, s.sag.tolerance.isSome = true → s.disc.device ≠ .run ∨ s.sagCandidate = none →
        s.sag.state = .sagging →
        exec .toleranceTimerExpiry s = .next { s with
          sag :=
            { s.sag with
              state := .sagShedding, releasePending := true, noReliefReported := true, sheds := 0
              tolerance := some ⟨s.plan.battery.sagTolerance, s.plan.battery.sagTolerance⟩ }
          ring := (s.ring.push (s.notice .sagStart none s.est.vb s.plan.battery.vSag)).push
            (s.notice .sagNoRelief none s.est.vb 0) })
    ∧ (∀ s : State, s.sag.tolerance.isSome = true → s.disc.device ≠ .run ∨ s.sagCandidate = none →
        s.sag.state = .sagShedding →
        exec .toleranceTimerExpiry s = .next { s with
          sag :=
            { s.sag with
              noReliefReported := true, tolerance := some ⟨s.plan.battery.sagTolerance, s.plan.battery.sagTolerance⟩ }
          ring :=
            if s.sag.noReliefReported = true then s.ring
            else s.ring.push (s.notice .sagNoRelief none s.est.vb s.sag.sheds) })
    ∧ (∀ s : State, s.sag.recovery.isSome = true → s.sag.state = .recovering →
        ∃ t, exec .recoveryTimerExpiry s = .next t
          ∧ t.sag = { s.sag with state := .clear, recovery := none, releasePending := false }
          ∧ (∀ e ∈ t.standby.entries, e.held = false)
          ∧ State.PlannerOnly { s with sag := t.sag } t ∧ s.OthersKept t [])

/-! ### Channels and the Planner -/

/-- R72, R73, R78, R82, R88: the shed candidate and the sag candidate are the first of their channels in the shed order (the
lower rank, then the later start time, then the higher number), and the throttled channel to unthrottle is the last of the
throttled channels in it. Of the channels that wait for the slot the one of the highest rank is served, the first to join
among equals. Each is some channel whenever a channel qualifies. -/
def Obligations.CandidatesFollowTheShedOrder : Prop :=
  ∀ (s : State) (c : Chan),
    (s.shedCandidate = some c →
        s.isShedCandidate c = true ∧ ∀ d : Chan, s.isShedCandidate d = true → d ≠ c →
          s.rank c < s.rank d ∨ (s.rank c = s.rank d ∧ ((s.chan d).startTime < (s.chan c).startTime
            ∨ ((s.chan d).startTime = (s.chan c).startTime ∧ d < c))))
      ∧ (s.sagCandidate = some c →
        s.isSagCandidate c = true ∧ ∀ d : Chan, s.isSagCandidate d = true → d ≠ c →
          s.rank c < s.rank d ∨ (s.rank c = s.rank d ∧ ((s.chan d).startTime < (s.chan c).startTime
            ∨ ((s.chan d).startTime = (s.chan c).startTime ∧ d < c))))
      ∧ (s.bestThrottled = some c →
        (s.chan c).state = .throttled ∧ ∀ d : Chan, (s.chan d).state = .throttled → d ≠ c →
          s.rank d < s.rank c ∨ (s.rank c = s.rank d ∧ ((s.chan c).startTime < (s.chan d).startTime
            ∨ ((s.chan d).startTime = (s.chan c).startTime ∧ c < d))))
      ∧ (s.nextServed = some c →
        ∃ l m : List Chan, s.slot.waiting = l ++ c :: m ∧ (∀ d ∈ l, s.rank d < s.rank c) ∧ ∀ d ∈ m, s.rank d ≤ s.rank c)
      ∧ (s.isShedCandidate c = true → s.shedCandidate.isSome = true)
      ∧ (s.isSagCandidate c = true → s.sagCandidate.isSome = true)
      ∧ ((s.chan c).state = .throttled → s.bestThrottled.isSome = true)
      ∧ (c ∈ s.slot.waiting → s.nextServed.isSome = true)

/-- R114, R117, R118, R119, R120, R146: a channel sample is recorded in every state and is an activity above the threshold;
behind an open switch it does no more; at a closed one the fifth in a row above the limit trips, to TRIPPED or, with the
retries used up, to LOCKED. A short report trips a closed switch at once and does nothing behind an open one. That TRIP and
LOCKOUT stand before the notices of the re-evaluation is the model's choice (DESIGN CHOICE, log entry 9). -/
def Obligations.ChannelSamplesRecordAndTrip : Prop :=
  ∀ (s : State) (c : Chan) (m : Nat), m ≤ 2500 →
    (∃ t, exec (.channelSample c m) s = .next t ∧ (t.chan c).m = m
        ∧ (∀ n : TimerIx, t.idle[n] = s.idleAfter n ((s.crec c).activityThreshold ≠ 0 ∧ (s.crec c).activityThreshold < m
            ∧ s.plan.timers[n].hasCurrent = true ∧ s.plan.timers[n].isMember c = true))
        ∧ State.PlannerOnly { s with idle := t.idle } t ∧ s.OthersKept t [c])
      ∧ ((s.chan c).closed = false → s.SlotQuiet →
          ∃ t, exec (.channelSample c m) s = .next t
            ∧ t = { s with chans := s.chans.set c { s.chan c with m := m }, idle := t.idle })
      ∧ ((s.chan c).state = .on ∨ (s.chan c).state = .starting → (s.chan c).inrush ≠ .untilSample → s.Unlisted c →
          s.rank c = 0 ∨ s.plan.levels.settings.excessDwell ≠ 0 →
          (if (s.chan c).inrush.isOpen = true then m ≤ (s.crec c).surgeLimit else m ≤ (s.crec c).tripLimit)
            ∨ (s.chan c).ocStreak + 1 < 5 →
          ∃ t, exec (.channelSample c m) s = .next t
            ∧ t.chan c = { s.chan c with
                m := m
                ocStreak :=
                  if (if (s.chan c).inrush.isOpen = true then (s.crec c).surgeLimit else (s.crec c).tripLimit) < m then
                    (s.chan c).ocStreak + 1 else 0 })
      ∧ ((s.chan c).closed = true → s.Unlisted c → 4 ≤ (s.chan c).ocStreak →
          (if (s.chan c).inrush.isOpen = true then (s.crec c).surgeLimit else (s.crec c).tripLimit) < m →
          ∃ t, exec (.channelSample c m) s = .next t
            ∧ t.chan c = Channel.tripped { s.chan c with m := m } (s.crec c) .trip
            ∧ t.slot.holder ≠ some c ∧ s.Pushed (s.tripNotices c 1) t)
      ∧ ((s.chan c).closed = true → s.Unlisted c →
          ∃ t, exec (.shortReport c) s = .next t
            ∧ t.chan c = (s.chan c).tripped (s.crec c) .short
            ∧ t.slot.holder ≠ some c ∧ s.Pushed (s.tripNotices c 2) t ∧ s.PlannerOnly t ∧ s.OthersKept t [c])
      ∧ ((s.chan c).closed = false → exec (.shortReport c) s = .next s)

/-- R116, R54, R123, R124, R98: a rundown ends by its timeout, with the notice, or by its second sample in a row below the done
current, and the channel goes by its intent: OFF, or WAITING with an entry of the intent's origin; a sample at or above the
done current starts the count afresh. An inrush window that runs by time ends at its expiry, one of inrush time 0 at its
sample: the slot is released and a STARTING channel is ON with its good-run timer running. -/
def Obligations.RundownsAndWindowsEnd : Prop :=
  ∀ (s : State) (c : Chan), s.Unlisted c →
    (∀ (len left : Nat), (s.chan c).state = .rundown → (s.chan c).rundownTimer = some ⟨len, left⟩ →
        ∃ t, exec (.rundownTimeout c) s = .next t
          ∧ s.Pushed [s.notice .rundownTimeout (some c.val) (s.chan c).m (len / 1000)] t
          ∧ ((s.chan c).intent.origin? = none → t.chan c =
              { s.chan c with state := .off, intent := .none, doneStreak := 0, ocStreak := 0, rundownTimer := none })
          ∧ (∀ o : Origin, (s.chan c).intent.origin? = some o →
              s.waitsOrStarts t c o (o = .sag ∧ s.sag.releasePending = true) ∧ (t.chan c).reason = (s.chan c).reason)
          ∧ s.PlannerOnly t ∧ s.OthersKept t [c])
      ∧ (∀ m : Nat, (s.chan c).state = .rundown → (s.chan c).inrush ≠ .untilSample →
          m ≤ 2500 → m ≤ (s.crec c).tripLimit → m ≤ (s.crec c).surgeLimit →
          ∃ t, exec (.channelSample c m) s = .next t
            ∧ ((s.crec c).doneCurrent ≤ m → t.chan c = { s.chan c with m := m, ocStreak := 0, doneStreak := 0 })
            ∧ (m < (s.crec c).doneCurrent → (s.chan c).doneStreak = 0 →
                t.chan c = { s.chan c with m := m, ocStreak := 0, doneStreak := 1 })
            ∧ (m < (s.crec c).doneCurrent → (s.chan c).doneStreak ≠ 0 →
                ((s.chan c).intent.origin? = none → t.chan c =
                    { s.chan c with
                      m := m, state := .off, intent := .none, doneStreak := 0, ocStreak := 0, rundownTimer := none })
                  ∧ ∀ o : Origin, (s.chan c).intent.origin? = some o →
                    s.waitsOrStarts t c o (o = .sag ∧ s.sag.releasePending = true)
                      ∧ (t.chan c).reason = (s.chan c).reason))
      ∧ (∀ r : Run, s.ChannelsOk → (s.chan c).inrush = .timed r →
          ∃ t, exec (.inrushWindowEnd c) s = .next t
            ∧ (t.chan c).inrush = .stopped ∧ t.slot.holder ≠ some c
            ∧ ((s.chan c).state = .starting → s.rank c = 0 ∨ s.plan.levels.settings.excessDwell ≠ 0 →
                t.chan c =
                  { s.chan c with
                    state := .on, phase := .none, unthrottlePending := false, onTimer := none, inrush := .stopped
                    goodRun := some ⟨60000, 60000⟩ })
            ∧ s.PlannerOnly t ∧ s.OthersKept t [c])
      ∧ (∀ m : Nat, s.ChannelsOk → (s.chan c).inrush = .untilSample → m ≤ 2500 →
          m ≤ (s.crec c).surgeLimit ∨ (s.chan c).ocStreak + 1 < 5 →
          ∃ t, exec (.channelSample c m) s = .next t
            ∧ (t.chan c).inrush = .stopped ∧ t.slot.holder ≠ some c
            ∧ ((s.chan c).state = .starting → s.rank c = 0 ∨ s.plan.levels.settings.excessDwell ≠ 0 →
                t.chan c =
                  { s.chan c with
                    m := m, ocStreak := if (s.crec c).surgeLimit < m then (s.chan c).ocStreak + 1 else 0
                    state := .on, phase := .none, unthrottlePending := false, onTimer := none, inrush := .stopped
                    goodRun := some ⟨60000, 60000⟩ })
            ∧ State.PlannerOnly { s with idle := t.idle } t ∧ s.OthersKept t [c])

/-- R121, R136: the retry timer's end puts a TRIPPED channel in the list, its reason and retry count kept; the good-run
timer's end clears the retry count; the check ends with the circuit's classification, the notice, and OFF with the reason as
it was. -/
def Obligations.RetriesGoodRunsAndChecksEnd : Prop :=
  ∀ (s : State) (c : Chan),
    ((s.chan c).state = .tripped → (s.chan c).retryTimer.isSome = true → s.Unlisted c →
        ∃ t, exec (.retryTimerExpiry c) s = .next t
          ∧ s.waitsOrStarts t c .retry false
          ∧ (t.chan c).reason = (s.chan c).reason ∧ (t.chan c).retryCount = (s.chan c).retryCount
          ∧ (t.chan c).retryTimer = none ∧ s.PlannerOnly t ∧ s.OthersKept t [c])
      ∧ ((s.chan c).state = .on → (s.chan c).goodRun.isSome = true →
          exec (.goodRunTimerExpiry c) s =
            .next { s with chans := s.chans.set c { s.chan c with retryCount := 0, goodRun := none } })
      ∧ (∀ r : CheckClass, (s.chan c).state = .checking → (s.chan c).checkTimer.isSome = true →
          exec (.checkTimerExpiry c r) s = .next { s with
            chans := s.chans.set c { s.chan c with state := .off, checkTimer := none, lastCheck := checkResultOf r }
            ring := s.ring.push (s.notice .checkResult (some c.val)
              (match r with | .present => 1 | .openLoad => 2 | .shorted => 3) 500) })

/-- R87, R88, R128: a REST phase that ends asks for the Start Slot: its RUN phase begins at once on a free slot, else the
channel joins the end of the waiting set with its switch open. A RUN phase that ends opens the switch and starts the off
timer, and frees the slot when its window was still running. -/
def Obligations.ThrottlePhasesTurn : Prop :=
  ∀ (s : State) (c : Chan), (s.chan c).state = .throttled →
    ((s.chan c).phase = .rest → (s.chan c).offTimer.isSome = true → (s.chan c).unthrottlePending = false →
        s.slot = ⟨none, []⟩ → s.sag.state = .clear ∨ s.sag.state = .recovering →
        exec (.offTimerExpiry c) s = .next { s with
          chans := s.chans.set c
            { s.chan c with
              phase := .run, offTimer := none, ocStreak := 0
              onTimer := some ⟨(s.crec c).onTime * 1000, (s.crec c).onTime * 1000⟩
              inrush :=
                if (s.crec c).inrush = 0 then .untilSample
                else .timed ⟨(s.crec c).inrush * 100, (s.crec c).inrush * 100⟩ }
          slot := ⟨some c, []⟩ })
      ∧ ((s.chan c).phase = .rest → (s.chan c).offTimer.isSome = true → s.slot.waiting.contains c = false →
          s.slot.holder ≠ none ∨ s.sag.state = .sagging ∨ s.sag.state = .sagShedding →
          exec (.offTimerExpiry c) s = .next { s with
            chans := s.chans.set c { s.chan c with offTimer := none }
            slot := ⟨s.slot.holder, s.slot.waiting ++ [c]⟩ })
      ∧ ((s.chan c).phase = .run → (s.chan c).onTimer.isSome = true → s.slot.holder ≠ some c → s.SlotQuiet →
          exec (.onTimerExpiry c) s = .next { s with
            chans := s.chans.set c
              { s.chan c with
                phase := .rest, ocStreak := 0, inrush := .stopped, onTimer := none
                offTimer := some ⟨(s.crec c).offTime * 1000, (s.crec c).offTime * 1000⟩ } })
      ∧ ((s.chan c).phase = .run → (s.chan c).onTimer.isSome = true → s.slot.holder = some c →
          s.slot.waiting.contains c = false → s.planner.restoreQuiet.isSome = true →
          s.plan.levels.settings.excessDwell ≠ 0 →
          ∃ t, exec (.onTimerExpiry c) s = .next t
            ∧ t.chan c =
              { s.chan c with
                phase := .rest, ocStreak := 0, inrush := .stopped, onTimer := none
                offTimer := some ⟨(s.crec c).offTime * 1000, (s.crec c).offTime * 1000⟩ }
            ∧ t.slot.holder =
              (if s.sag.state = .clear ∨ s.sag.state = .recovering then s.nextServed else none)
            ∧ s.PlannerOnly t ∧ s.OthersKept t [c])

/-- R70, R72, R74, R75, R76, R89: the excess timer's end: with P at or below D no shed; above it sheds until P is at or below D
or no candidate remains, and an excess that no shed can end is reported once. A pass that sheds the last channel waiting for a
free slot is followed by a re-evaluation, which starts the excess timer where P is still above D. -/
def Obligations.ExcessTimerSheds : Prop :=
  ∀ s : State, s.planner.excess.isSome = true → s.disc.device = .run →
    (s.totalP ≤ s.ceiling → s.planner.restoreQuiet.isSome = true →
        exec .excessTimerExpiry s = .next { s with planner := ⟨none, s.planner.restoreQuiet, false⟩ })
      ∧ (∀ c : Chan, s.ceiling < s.totalP → s.shedCandidate = some c → s.slot.holder = none →
          ∃ t, exec .excessTimerExpiry s = .next t
            ∧ (t.totalP ≤ t.ceiling ∨ t.shedCandidate = none)
            ∧ ((t.chan c).state = .throttled ∨ (t.chan c).state = .rundown ∨ (t.chan c).state = .waiting)
            ∧ ((s.chan c).state = .throttled → (t.chan c).state = .waiting)
            ∧ t.planner.excess =
              (if s.slot.waiting ≠ [] ∧ t.slot.waiting = [] ∧ t.ceiling < t.totalP
                  ∧ s.plan.levels.settings.excessDwell ≠ 0 then
                some ⟨s.plan.levels.settings.excessDwell * 1000, s.plan.levels.settings.excessDwell * 1000⟩
              else none)
            ∧ t.planner.restoreQuiet = some ⟨s.plan.levels.settings.restoreDwell * 1000,
                s.plan.levels.settings.restoreDwell * 1000⟩
            ∧ s.PlannerOnly t ∧ s.OthersKept t [])
      ∧ (s.ceiling < s.totalP → s.shedCandidate = none →
          exec .excessTimerExpiry s = .next { s with
            planner := ⟨none, s.planner.restoreQuiet, true⟩
            ring :=
              if s.planner.overloadReported = true then s.ring
              else s.ring.push (s.notice .overload none s.totalP s.ceiling) })

/-- R80 to R84, R129: the restore-quiet timer's end, with the slot free and nobody waiting for it, P at or below D and the sag
CLEAR. The first choice is the first unheld entry when it is forced or of a higher rank than every throttled channel, else the
best throttled channel. An entry that fits is admitted; a throttled channel that fits is unthrottled: from REST it takes the
slot and starts, from RUN it is ON at once. Behind a first choice that does not fit the first entry at or below the pass limit
that fits passes by; without one nothing changes but the timer. -/
def Obligations.RestoreQuietAdmits : Prop :=
  ∀ s : State, s.planner.restoreQuiet.isSome = true → s.disc.device = .run → s.slot = ⟨none, []⟩ →
    s.totalP ≤ s.ceiling → s.sag.state = .clear →
    (∀ (e : Entry) (more : List Entry), s.standby.entries.filter (fun x => !x.held) = e :: more →
        (∀ c : Chan, (s.chan c).state = .throttled → e.forced = true ∨ s.rank c < s.rank e.channel) →
        (s.totalP + (s.crec e.channel).demand + s.plan.levels.settings.margin ≤ s.ceiling →
            ∃ t, exec .restoreQuietExpiry s = .next t ∧ s.AdmittedAs e 1 t ∧ t.planner = ⟨none, none, false⟩)
          ∧ (∀ f : Entry, s.ceiling < s.totalP + (s.crec e.channel).demand + s.plan.levels.settings.margin →
              more.find? s.mayPass = some f →
              ∃ t, exec .restoreQuietExpiry s = .next t ∧ s.AdmittedAs f 2 t ∧ t.planner = ⟨none, none, false⟩)
          ∧ (s.ceiling < s.totalP + (s.crec e.channel).demand + s.plan.levels.settings.margin →
              (∀ f ∈ more, s.mayPass f = false) →
              exec .restoreQuietExpiry s = .next { s with planner := ⟨none, none, false⟩ }))
      ∧ ((∀ e ∈ s.standby.entries, e.held = true) → (∀ c : Chan, (s.chan c).state ≠ .throttled) →
          exec .restoreQuietExpiry s = .next { s with planner := ⟨none, none, false⟩ })
      ∧ (∀ c : Chan, s.bestThrottled = some c →
          (∀ (e : Entry) (more : List Entry), s.standby.entries.filter (fun x => !x.held) = e :: more →
              e.forced = false ∧ s.rank e.channel ≤ s.rank c) →
          (s.totalP + ((s.crec c).demand - s.accounted c) + s.plan.levels.settings.margin ≤ s.ceiling →
            (s.chan c).phase ≠ .run →
              ∃ t, exec .restoreQuietExpiry s = .next t
                ∧ t.chan c =
                  { s.chan c with
                    state := .starting, phase := .none, unthrottlePending := false, offTimer := none, ocStreak := 0
                    inrush :=
                      if (s.crec c).inrush = 0 then .untilSample
                      else .timed ⟨(s.crec c).inrush * 100, (s.crec c).inrush * 100⟩ }
                ∧ (∀ d : Chan, d ≠ c → t.chan d = s.chan d)
                ∧ t.slot = ⟨some c, []⟩ ∧ t.standby = s.standby ∧ t.planner = ⟨none, none, false⟩
                ∧ t.ring = s.ring.push (s.notice .restore (some c.val) 3 t.totalP) ∧ s.PlannerOnly t)
            ∧ (s.totalP + ((s.crec c).demand - s.accounted c) + s.plan.levels.settings.margin ≤ s.ceiling →
              (s.chan c).phase = .run → s.entry? c = none →
              ∃ t, exec .restoreQuietExpiry s = .next t
                ∧ t.chan c =
                  { s.chan c with
                    state := .on, phase := .none, unthrottlePending := false, onTimer := none
                    goodRun := some ⟨60000, 60000⟩ }
                ∧ s.Pushed [s.notice .restore (some c.val) 3 (s.totalP - s.accounted c + (s.chan c).m)] t
                ∧ t.planner = ⟨none, none, false⟩ ∧ s.PlannerOnly t ∧ s.OthersKept t [c])
            ∧ (∀ f : Entry, s.ceiling < s.totalP + ((s.crec c).demand - s.accounted c) + s.plan.levels.settings.margin →
              (s.standby.entries.filter (fun x => !x.held)).find? s.mayPass = some f →
              ∃ t, exec .restoreQuietExpiry s = .next t ∧ s.AdmittedAs f 2 t ∧ t.planner = ⟨none, none, false⟩)
            ∧ (s.ceiling < s.totalP + ((s.crec c).demand - s.accounted c) + s.plan.levels.settings.margin →
              (∀ f ∈ s.standby.entries, f.held = false → s.mayPass f = false) →
              exec .restoreQuietExpiry s = .next { s with planner := ⟨none, none, false⟩ }))

/-! ### Idle timers and auxiliary inputs -/

/-- R148, R131, R107, R150: an idle timer that reaches 0 is EXPIRED, pushes IDLE_OFF with the number of its members that are in use, and
turns each of them off: a rundown where one is configured, else OFF with reason IDLE. Every other timer and every channel
that is no member, or not in use, is as it was. A count above 0, which an activity or an edit has reloaded, is no expiry
(R150), but takes the entry of a channel whose forced SWITCH ON was taken ahead of the expiry at the same moment: OFF with
reason IDLE, the timer and the other members as they are (R107; what R107 and R150 leave open there is log entry 25, DESIGN
CHOICE). That the command leaves the state where the timer is not due is log entry 2 (DEDUCED), and that the IDLE_OFF notice
stands before those of the re-evaluation is log entry 9 (DESIGN CHOICE). -/
def Obligations.IdleTimerTurnsItsMembersOff : Prop :=
  ∀ (s : State) (n : TimerIx),
    (s.idle[n].state = .running → s.idle[n].count = 0 → s.disc.device = .run →
      ∃ t, exec (.idleTimerExpiry n) s = .next t
        ∧ t.idle[n] = ⟨.expired, 0⟩ ∧ (∀ k : TimerIx, k ≠ n → t.idle[k] = s.idle[k])
        ∧ s.Pushed [s.notice .idleOff (some n.val)
            (allChans.filter fun c => s.plan.timers[n].isMember c && ((s.chan c).state = .on || (s.chan c).state = .starting
              || (s.chan c).state = .throttled || (s.chan c).state = .waiting)).length s.plan.timers[n].terminal] t
        ∧ (∀ c : Chan, s.plan.timers[n].isMember c = true → ((s.chan c).state = .waiting ∨ s.entry? c = none) →
            ((s.chan c).state = .on → (s.crec c).rundownTimeout ≠ 0 → s.Unlisted c →
                t.chan c =
                  { s.chan c with
                    state := .rundown, reason := .idle, intent := .off, doneStreak := 0, goodRun := none
                    rundownTimer := some ⟨(s.crec c).rundownTimeout * 1000, (s.crec c).rundownTimeout * 1000⟩ })
              ∧ (((s.chan c).state = .on ∧ (s.crec c).rundownTimeout = 0) ∨ (s.chan c).state = .starting
                    ∨ (s.chan c).state = .throttled ∨ (s.chan c).state = .waiting →
                  (t.chan c).state = .off ∧ (t.chan c).reason = .idle ∧ t.out c = false ∧ t.Unlisted c
                    ∧ t.slot.holder ≠ some c))
        ∧ (∀ c : Chan, s.plan.timers[n].isMember c = false
              ∨ ((s.chan c).state ≠ .on ∧ (s.chan c).state ≠ .starting) →
            s.Unlisted c → (s.chan c).leftAlone (s.rank c) = true → t.chan c = s.chan c)
        ∧ t.overtaken = s.overtaken.filter (fun x => x.1 ≠ n)
        ∧ State.PlannerOnly { s with idle := t.idle, overtaken := t.overtaken } t)
      ∧ (s.idle[n].state ≠ .running ∨ s.idle[n].count ≠ 0 ∨ s.disc.device ≠ .run →
          (∀ c : Chan, (n, c) ∉ s.overtaken) ∨ s.disc.device ≠ .run →
          exec (.idleTimerExpiry n) s = .next s)
      ∧ (∀ k : Chan, (n, k) ∈ s.overtaken → s.disc.device = .run →
          s.idle[n].state ≠ .running ∨ s.idle[n].count ≠ 0 →
          ∃ t, exec (.idleTimerExpiry n) s = .next t
            ∧ t.overtaken = s.overtaken.filter (fun x => x.1 ≠ n)
            ∧ (∀ c : Chan, (n, c) ∈ s.overtaken →
                (∃ e : Entry, (s.chan c).state = .waiting ∧ s.entry? c = some e ∧ e.forced = true)
                  ∨ ((s.chan c).state = .starting ∧ s.entry? c = none) →
                (t.chan c).state = .off ∧ (t.chan c).reason = .idle ∧ t.out c = false ∧ t.Unlisted c
                  ∧ t.slot.holder ≠ some c)
            ∧ (∀ c : Chan, (n, c) ∉ s.overtaken ∨ (s.chan c).state ≠ .starting →
              s.Unlisted c → (s.chan c).leftAlone (s.rank c) = true → t.chan c = s.chan c)
            ∧ State.PlannerOnly { s with overtaken := t.overtaken } t)

/-- R140, R141, R146, R160, R162: a raw change starts, restarts or abandons the stability period; the period's end acquires
the level without a transition, or makes the transition: an activity for the timers that count the input, and for a WAKE
input in ISOLATED a reconnection or the RECONNECT_REFUSED notice. That a period end with no period running, and a raw change
to the level that stands, leave the state is log entry 2 (DEDUCED), and that an edited V_cut counts at once in the condition
of a WAKE is log entry 26 (DESIGN CHOICE). -/
def Obligations.AuxInputsDebounce : Prop :=
  ∀ (s : State) (n : AuxIx),
    (∀ level : Bool, level ≠ s.aux[n].raw →
        exec (.auxRawChange n level) s = .next { s with
          aux := s.aux.set n ⟨level, s.aux[n].level, if s.aux[n].level = some level then none else some ⟨50, 50⟩⟩ })
      ∧ exec (.auxRawChange n s.aux[n].raw) s = .next s
      ∧ (s.aux[n].stability = none → exec (.stabilityPeriodEnd n) s = .next s)
      ∧ (s.aux[n].stability.isSome = true → s.aux[n].level = none →
          exec (.stabilityPeriodEnd n) s = .next { s with
            aux := s.aux.set n ⟨s.aux[n].raw, some s.aux[n].raw, none⟩ })
      ∧ (s.aux[n].stability.isSome = true → s.aux[n].level = some (!s.aux[n].raw) →
          (s.plan.aux[n].role = .none ∨ (s.plan.aux[n].edge = .rise ∧ s.aux[n].raw = false)
            ∨ (s.plan.aux[n].edge = .fall ∧ s.aux[n].raw = true)) →
          exec (.stabilityPeriodEnd n) s = .next { s with
            aux := s.aux.set n ⟨s.aux[n].raw, some s.aux[n].raw, none⟩ })
      ∧ (s.aux[n].stability.isSome = true → s.aux[n].level = some (!s.aux[n].raw) →
          (s.plan.aux[n].edge = .both ∨ (s.plan.aux[n].edge = .rise ∧ s.aux[n].raw = true)
            ∨ (s.plan.aux[n].edge = .fall ∧ s.aux[n].raw = false)) →
          (s.plan.aux[n].role = .activity
              ∨ (s.plan.aux[n].role = .wake ∧ (s.disc.device ≠ .isolated ∨ s.disc.pulse.isSome = true)) →
            ∃ t, exec (.stabilityPeriodEnd n) s = .next t
              ∧ t = { s with aux := s.aux.set n ⟨s.aux[n].raw, some s.aux[n].raw, none⟩, idle := t.idle }
              ∧ ∀ k : TimerIx, t.idle[k] = s.idleAfter k (s.plan.timers[k].hasAux n))
          ∧ (s.plan.aux[n].role = .wake → s.disc.device = .isolated → s.disc.pulse = none →
              s.disc.vc < s.plan.battery.vCut + s.plan.battery.reconnectMargin → s.disc.i ≤ 0 →
              exec (.stabilityPeriodEnd n) s = .next { s with
                aux := s.aux.set n ⟨s.aux[n].raw, some s.aux[n].raw, none⟩
                ring := s.ring.push (s.notice .reconnectRefused none s.disc.vc
                  (s.plan.battery.vCut + s.plan.battery.reconnectMargin)) })
          ∧ (s.plan.aux[n].role = .wake → s.disc.device = .isolated → s.disc.pulse = none →
              s.plan.battery.vCut + s.plan.battery.reconnectMargin ≤ s.disc.vc ∨ 0 < s.disc.i →
              ∃ t, exec (.stabilityPeriodEnd n) s = .next t
                ∧ State.ReconnectedBy { s with aux := s.aux.set n ⟨s.aux[n].raw, some s.aux[n].raw, none⟩ } 2 t
                ∧ t.link = s.link))

/-! ### The Disconnect Unit -/

/-- R154, R155, R156, R158, R159, R162: the unit takes a reserve update. In START it is the entry to RUN, at once or at the
end of the CLOSE pulse; in RUN it counts toward isolation, isolates, or clears the count; in ISOLATED it counts toward
reconnection, reconnects, or clears the count. The model's own in it: the queue of published updates (DESIGN CHOICE, log
entry 4), that the commands of the two completions do what the plain update does (DESIGN CHOICE, log entry 5), and in
`State.IsolatedFor` the order of aborted checks' notices (log entry 9), the kept last samples and start times and the dropped
comparator samples (log entry 13). -/
def Obligations.DisconnectUpdatesIsolateAndReconnect : Prop :=
  (∀ (s : State) (u : ReserveUpdate) (rest : List ReserveUpdate), s.mail.disconnect = u :: rest →
      ∃ taken : State,
        taken = { s with mail := { s.mail with disconnect := rest }, disc := { s.disc with vc := u.vc, i := u.i } }
        ∧ (s.disc.device = .start → s.disc.pulse.isSome = true → exec .disconnectReserveUpdate s =
            .next { taken with disc := { taken.disc with entryPending := true } })
        ∧ (s.disc.device = .start → s.disc.pulse = none →
            ∃ t, exec .disconnectReserveUpdate s = .next t ∧ taken.EnteredRun t)
        ∧ (s.disc.device = .run → ¬(s.level.current = 7 ∧ (u.vc ≤ s.plan.battery.vCut ∨ u.r = 0)) →
            exec .disconnectReserveUpdate s = .next { taken with disc := { taken.disc with isolateCount := 0 } })
        ∧ (∀ len : Nat, s.disc.device = .run → s.level.current = 7 → u.vc ≤ s.plan.battery.vCut ∨ u.r = 0 →
            len = (if s.disc.isolateCount = 0 then s.plan.battery.isolateDwell else s.disc.isolateLen) →
            (s.disc.isolateCount + 1 < len * 10 → exec .disconnectReserveUpdate s =
                .next { taken with disc :=
                  { taken.disc with isolateCount := s.disc.isolateCount + 1, isolateLen := len } })
            ∧ (len * 10 ≤ s.disc.isolateCount + 1 →
                ∃ t, exec .isolateDwellComplete s = .next t ∧ exec .disconnectReserveUpdate s = .next t
                  ∧ taken.IsolatedFor (if u.vc ≤ s.plan.battery.vCut then .lowVoltage else .empty) t
                  ∧ t.link = s.link))
        ∧ (s.disc.device = .isolated → s.disc.reason = .storage ∨ u.i < (s.plan.battery.reconnectCharge : Int) →
            exec .disconnectReserveUpdate s = .next { taken with disc := { taken.disc with chargeCount := 0 } })
        ∧ (s.disc.device = .isolated → s.disc.reason ≠ .storage → (s.plan.battery.reconnectCharge : Int) ≤ u.i →
            (s.disc.chargeCount + 1 < 600 → exec .disconnectReserveUpdate s =
                .next { taken with disc := { taken.disc with chargeCount := s.disc.chargeCount + 1 } })
            ∧ (600 ≤ s.disc.chargeCount + 1 →
                ∃ t, exec .reconnectChargeComplete s = .next t ∧ exec .disconnectReserveUpdate s = .next t
                  ∧ taken.ReconnectedBy 1 t ∧ t.link = s.link)))
    ∧ (∀ s : State, s.disc.pulse.isSome = true →
        (¬(s.disc.device = .start ∧ s.disc.entryPending = true) →
            exec .relayPulseEnd s = .next { s with disc := { s.disc with pulse := none } })
        ∧ (s.disc.device = .start → s.disc.entryPending = true →
            ∃ t, exec .relayPulseEnd s = .next t
              ∧ State.EnteredRun { s with disc := { s.disc with pulse := none } } t))
end

