-- ==== Sys2Proof/Laws/Estimator.lean ====
section
/-!
SUPPORT. The bounds of the estimator's formulas (R5 to R13): the derate, Q_use, R, V_c and one counting.
-/

namespace Sys2Proof.Machine

/-- R8: the derate is at most 1000. -/
theorem derate_le (k : Nat) (t : Int) : derate k t ≤ 1000 := by
  unfold derate
  split
  · exact le_refl _
  · rename_i h
    have : 0 ≤ (k : Int) * (20 - t) := mul_nonneg (Int.natCast_nonneg k) (by omega)
    omega

/-- R8: the derate is at least 500. -/
theorem le_derate (k : Nat) (t : Int) : 500 ≤ derate k t := by
  unfold derate
  split <;> omega

/-- R7: Q_use never exceeds Q_nom. -/
theorem usable_le (b : Battery) (t : Int) : usable b t ≤ b.qNom := by
  unfold usable
  have h := derate_le b.k t
  calc b.qNom * derate b.k t / 1000 ≤ b.qNom * 1000 / 1000 := Nat.div_le_div_right (Nat.mul_le_mul_left _ h)
    _ = b.qNom := Nat.mul_div_cancel _ (by norm_num)

/-- R11: R lies in 0..1000. -/
theorem reserveOf_le (q u : Nat) : reserveOf q u ≤ 1000 := Nat.min_le_left _ _

/-- R12: V_c lies in 0..40000. -/
theorem compensated_le (b : Battery) (vb : Nat) (i : Int) : compensated b vb i ≤ 40000 := by
  unfold compensated clampInt
  omega

/-- R5: a discharging or zero sample. -/
theorem Estimator.count_of_nonpos (e : Estimator) (b : Battery) (i : Int) (h : i ≤ 0) :
    e.count b i = { e with q := e.q - (-i).toNat } := by
  unfold Estimator.count
  rw [if_pos h]

/-- R6: a charging sample. -/
theorem Estimator.count_of_pos (e : Estimator) (b : Battery) (i : Int) (h : 0 < i) :
    e.count b i =
      { e with q := min b.qNom (e.q + (e.rem + i.toNat * b.eta) / 1000), rem := (e.rem + i.toNat * b.eta) % 1000 } := by
  unfold Estimator.count
  rw [if_neg (by omega)]

/-- R7: counting keeps Q in 0..Q_nom. -/
theorem Estimator.count_q_le (e : Estimator) (b : Battery) (i : Int) (h : e.q ≤ b.qNom) : (e.count b i).q ≤ b.qNom := by
  unfold Estimator.count
  split
  · exact Nat.le_trans (Nat.sub_le _ _) h
  · exact Nat.min_le_left _ _

/-- R6: counting keeps the remainder in 0..999. -/
theorem Estimator.count_rem_le (e : Estimator) (b : Battery) (i : Int) (h : e.rem ≤ 999) : (e.count b i).rem ≤ 999 := by
  unfold Estimator.count
  split
  · exact h
  · have := Nat.mod_lt (e.rem + i.toNat * b.eta) (show 0 < 1000 by norm_num)
    dsimp only
    omega

/-- R7, R16: a sync to a reserve of 0..1000 leaves Q at or below Q_use. -/
theorem Estimator.syncTo_q_le (e : Estimator) (r : Nat) (h : r ≤ 1000) : (e.syncTo r).q ≤ e.qUse := by
  unfold Estimator.syncTo
  calc e.qUse * r / 1000 ≤ e.qUse * 1000 / 1000 := Nat.div_le_div_right (Nat.mul_le_mul_left _ h)
    _ = e.qUse := Nat.mul_div_cancel _ (by norm_num)

end Sys2Proof.Machine
end

