-- ==== Sys2Proof/Laws/State.lean ====
section
/-!
SUPPORT. What each update of one part of the state leaves as it was, one lemma per field per update, and what it makes of
that part.
-/

namespace Sys2Proof.Machine

variable (s : State)

/-! ### withPending -/
@[simp] theorem State.withPending_est (q : List Instr) : (s.withPending q).est = s.est := rfl
@[simp] theorem State.withPending_mail (q : List Instr) : (s.withPending q).mail = s.mail := rfl
@[simp] theorem State.withPending_level (q : List Instr) : (s.withPending q).level = s.level := rfl
@[simp] theorem State.withPending_sag (q : List Instr) : (s.withPending q).sag = s.sag := rfl
@[simp] theorem State.withPending_chans (q : List Instr) : (s.withPending q).chans = s.chans := rfl
@[simp] theorem State.withPending_planner (q : List Instr) : (s.withPending q).planner = s.planner := rfl
@[simp] theorem State.withPending_slot (q : List Instr) : (s.withPending q).slot = s.slot := rfl
@[simp] theorem State.withPending_standby (q : List Instr) : (s.withPending q).standby = s.standby := rfl
@[simp] theorem State.withPending_idle (q : List Instr) : (s.withPending q).idle = s.idle := rfl
@[simp] theorem State.withPending_aux (q : List Instr) : (s.withPending q).aux = s.aux := rfl
@[simp] theorem State.withPending_disc (q : List Instr) : (s.withPending q).disc = s.disc := rfl
@[simp] theorem State.withPending_link (q : List Instr) : (s.withPending q).link = s.link := rfl
@[simp] theorem State.withPending_ring (q : List Instr) : (s.withPending q).ring = s.ring := rfl
@[simp] theorem State.withPending_plan (q : List Instr) : (s.withPending q).plan = s.plan := rfl
@[simp] theorem State.withPending_store (q : List Instr) : (s.withPending q).store = s.store := rfl
@[simp] theorem State.withPending_sys (q : List Instr) : (s.withPending q).sys = s.sys := rfl
@[simp] theorem State.withPending_overtaken (q : List Instr) : (s.withPending q).overtaken = s.overtaken := rfl

/-! ### setChan -/
@[simp] theorem State.setChan_pending (c : Chan) (ch : Channel) : (s.setChan c ch).pending = s.pending := rfl
@[simp] theorem State.setChan_est (c : Chan) (ch : Channel) : (s.setChan c ch).est = s.est := rfl
@[simp] theorem State.setChan_mail (c : Chan) (ch : Channel) : (s.setChan c ch).mail = s.mail := rfl
@[simp] theorem State.setChan_level (c : Chan) (ch : Channel) : (s.setChan c ch).level = s.level := rfl
@[simp] theorem State.setChan_sag (c : Chan) (ch : Channel) : (s.setChan c ch).sag = s.sag := rfl
@[simp] theorem State.setChan_planner (c : Chan) (ch : Channel) : (s.setChan c ch).planner = s.planner := rfl
@[simp] theorem State.setChan_slot (c : Chan) (ch : Channel) : (s.setChan c ch).slot = s.slot := rfl
@[simp] theorem State.setChan_standby (c : Chan) (ch : Channel) : (s.setChan c ch).standby = s.standby := rfl
@[simp] theorem State.setChan_idle (c : Chan) (ch : Channel) : (s.setChan c ch).idle = s.idle := rfl
@[simp] theorem State.setChan_aux (c : Chan) (ch : Channel) : (s.setChan c ch).aux = s.aux := rfl
@[simp] theorem State.setChan_disc (c : Chan) (ch : Channel) : (s.setChan c ch).disc = s.disc := rfl
@[simp] theorem State.setChan_link (c : Chan) (ch : Channel) : (s.setChan c ch).link = s.link := rfl
@[simp] theorem State.setChan_ring (c : Chan) (ch : Channel) : (s.setChan c ch).ring = s.ring := rfl
@[simp] theorem State.setChan_plan (c : Chan) (ch : Channel) : (s.setChan c ch).plan = s.plan := rfl
@[simp] theorem State.setChan_store (c : Chan) (ch : Channel) : (s.setChan c ch).store = s.store := rfl
@[simp] theorem State.setChan_sys (c : Chan) (ch : Channel) : (s.setChan c ch).sys = s.sys := rfl
@[simp] theorem State.setChan_overtaken (c : Chan) (ch : Channel) : (s.setChan c ch).overtaken = s.overtaken := rfl

/-! ### mapChans -/
@[simp] theorem State.mapChans_pending (f : Chan → Channel → Channel) : (s.mapChans f).pending = s.pending := by simp only [State.mapChans]
@[simp] theorem State.mapChans_est (f : Chan → Channel → Channel) : (s.mapChans f).est = s.est := by simp only [State.mapChans]
@[simp] theorem State.mapChans_mail (f : Chan → Channel → Channel) : (s.mapChans f).mail = s.mail := by simp only [State.mapChans]
@[simp] theorem State.mapChans_level (f : Chan → Channel → Channel) : (s.mapChans f).level = s.level := by simp only [State.mapChans]
@[simp] theorem State.mapChans_sag (f : Chan → Channel → Channel) : (s.mapChans f).sag = s.sag := by simp only [State.mapChans]
@[simp] theorem State.mapChans_planner (f : Chan → Channel → Channel) : (s.mapChans f).planner = s.planner := by simp only [State.mapChans]
@[simp] theorem State.mapChans_slot (f : Chan → Channel → Channel) : (s.mapChans f).slot = s.slot := by simp only [State.mapChans]
@[simp] theorem State.mapChans_standby (f : Chan → Channel → Channel) : (s.mapChans f).standby = s.standby := by simp only [State.mapChans]
@[simp] theorem State.mapChans_idle (f : Chan → Channel → Channel) : (s.mapChans f).idle = s.idle := by simp only [State.mapChans]
@[simp] theorem State.mapChans_aux (f : Chan → Channel → Channel) : (s.mapChans f).aux = s.aux := by simp only [State.mapChans]
@[simp] theorem State.mapChans_disc (f : Chan → Channel → Channel) : (s.mapChans f).disc = s.disc := by simp only [State.mapChans]
@[simp] theorem State.mapChans_link (f : Chan → Channel → Channel) : (s.mapChans f).link = s.link := by simp only [State.mapChans]
@[simp] theorem State.mapChans_ring (f : Chan → Channel → Channel) : (s.mapChans f).ring = s.ring := by simp only [State.mapChans]
@[simp] theorem State.mapChans_plan (f : Chan → Channel → Channel) : (s.mapChans f).plan = s.plan := by simp only [State.mapChans]
@[simp] theorem State.mapChans_store (f : Chan → Channel → Channel) : (s.mapChans f).store = s.store := by simp only [State.mapChans]
@[simp] theorem State.mapChans_sys (f : Chan → Channel → Channel) : (s.mapChans f).sys = s.sys := by simp only [State.mapChans]
@[simp] theorem State.mapChans_overtaken (f : Chan → Channel → Channel) : (s.mapChans f).overtaken = s.overtaken := by simp only [State.mapChans]

/-! ### setIdle -/
@[simp] theorem State.setIdle_pending (n : TimerIx) (t : IdleTimer) : (s.setIdle n t).pending = s.pending := rfl
@[simp] theorem State.setIdle_est (n : TimerIx) (t : IdleTimer) : (s.setIdle n t).est = s.est := rfl
@[simp] theorem State.setIdle_mail (n : TimerIx) (t : IdleTimer) : (s.setIdle n t).mail = s.mail := rfl
@[simp] theorem State.setIdle_level (n : TimerIx) (t : IdleTimer) : (s.setIdle n t).level = s.level := rfl
@[simp] theorem State.setIdle_sag (n : TimerIx) (t : IdleTimer) : (s.setIdle n t).sag = s.sag := rfl
@[simp] theorem State.setIdle_chans (n : TimerIx) (t : IdleTimer) : (s.setIdle n t).chans = s.chans := rfl
@[simp] theorem State.setIdle_planner (n : TimerIx) (t : IdleTimer) : (s.setIdle n t).planner = s.planner := rfl
@[simp] theorem State.setIdle_slot (n : TimerIx) (t : IdleTimer) : (s.setIdle n t).slot = s.slot := rfl
@[simp] theorem State.setIdle_standby (n : TimerIx) (t : IdleTimer) : (s.setIdle n t).standby = s.standby := rfl
@[simp] theorem State.setIdle_aux (n : TimerIx) (t : IdleTimer) : (s.setIdle n t).aux = s.aux := rfl
@[simp] theorem State.setIdle_disc (n : TimerIx) (t : IdleTimer) : (s.setIdle n t).disc = s.disc := rfl
@[simp] theorem State.setIdle_link (n : TimerIx) (t : IdleTimer) : (s.setIdle n t).link = s.link := rfl
@[simp] theorem State.setIdle_ring (n : TimerIx) (t : IdleTimer) : (s.setIdle n t).ring = s.ring := rfl
@[simp] theorem State.setIdle_plan (n : TimerIx) (t : IdleTimer) : (s.setIdle n t).plan = s.plan := rfl
@[simp] theorem State.setIdle_store (n : TimerIx) (t : IdleTimer) : (s.setIdle n t).store = s.store := rfl
@[simp] theorem State.setIdle_sys (n : TimerIx) (t : IdleTimer) : (s.setIdle n t).sys = s.sys := rfl
@[simp] theorem State.setIdle_overtaken (n : TimerIx) (t : IdleTimer) : (s.setIdle n t).overtaken = s.overtaken := rfl

/-! ### setOvertaken, dropOvertaken -/
@[simp] theorem State.setOvertaken_pending (l : List (TimerIx × Chan)) : (s.setOvertaken l).pending = s.pending := rfl
@[simp] theorem State.setOvertaken_est (l : List (TimerIx × Chan)) : (s.setOvertaken l).est = s.est := rfl
@[simp] theorem State.setOvertaken_mail (l : List (TimerIx × Chan)) : (s.setOvertaken l).mail = s.mail := rfl
@[simp] theorem State.setOvertaken_level (l : List (TimerIx × Chan)) : (s.setOvertaken l).level = s.level := rfl
@[simp] theorem State.setOvertaken_sag (l : List (TimerIx × Chan)) : (s.setOvertaken l).sag = s.sag := rfl
@[simp] theorem State.setOvertaken_chans (l : List (TimerIx × Chan)) : (s.setOvertaken l).chans = s.chans := rfl
@[simp] theorem State.setOvertaken_planner (l : List (TimerIx × Chan)) : (s.setOvertaken l).planner = s.planner := rfl
@[simp] theorem State.setOvertaken_slot (l : List (TimerIx × Chan)) : (s.setOvertaken l).slot = s.slot := rfl
@[simp] theorem State.setOvertaken_standby (l : List (TimerIx × Chan)) : (s.setOvertaken l).standby = s.standby := rfl
@[simp] theorem State.setOvertaken_idle (l : List (TimerIx × Chan)) : (s.setOvertaken l).idle = s.idle := rfl
@[simp] theorem State.setOvertaken_aux (l : List (TimerIx × Chan)) : (s.setOvertaken l).aux = s.aux := rfl
@[simp] theorem State.setOvertaken_disc (l : List (TimerIx × Chan)) : (s.setOvertaken l).disc = s.disc := rfl
@[simp] theorem State.setOvertaken_link (l : List (TimerIx × Chan)) : (s.setOvertaken l).link = s.link := rfl
@[simp] theorem State.setOvertaken_ring (l : List (TimerIx × Chan)) : (s.setOvertaken l).ring = s.ring := rfl
@[simp] theorem State.setOvertaken_plan (l : List (TimerIx × Chan)) : (s.setOvertaken l).plan = s.plan := rfl
@[simp] theorem State.setOvertaken_store (l : List (TimerIx × Chan)) : (s.setOvertaken l).store = s.store := rfl
@[simp] theorem State.setOvertaken_sys (l : List (TimerIx × Chan)) : (s.setOvertaken l).sys = s.sys := rfl
@[simp] theorem State.setOvertaken_overtaken (l : List (TimerIx × Chan)) : (s.setOvertaken l).overtaken = l := rfl
@[simp] theorem State.dropOvertaken_pending (n : TimerIx) : (s.dropOvertaken n).pending = s.pending := rfl
@[simp] theorem State.dropOvertaken_est (n : TimerIx) : (s.dropOvertaken n).est = s.est := rfl
@[simp] theorem State.dropOvertaken_mail (n : TimerIx) : (s.dropOvertaken n).mail = s.mail := rfl
@[simp] theorem State.dropOvertaken_level (n : TimerIx) : (s.dropOvertaken n).level = s.level := rfl
@[simp] theorem State.dropOvertaken_sag (n : TimerIx) : (s.dropOvertaken n).sag = s.sag := rfl
@[simp] theorem State.dropOvertaken_chans (n : TimerIx) : (s.dropOvertaken n).chans = s.chans := rfl
@[simp] theorem State.dropOvertaken_planner (n : TimerIx) : (s.dropOvertaken n).planner = s.planner := rfl
@[simp] theorem State.dropOvertaken_slot (n : TimerIx) : (s.dropOvertaken n).slot = s.slot := rfl
@[simp] theorem State.dropOvertaken_standby (n : TimerIx) : (s.dropOvertaken n).standby = s.standby := rfl
@[simp] theorem State.dropOvertaken_idle (n : TimerIx) : (s.dropOvertaken n).idle = s.idle := rfl
@[simp] theorem State.dropOvertaken_aux (n : TimerIx) : (s.dropOvertaken n).aux = s.aux := rfl
@[simp] theorem State.dropOvertaken_disc (n : TimerIx) : (s.dropOvertaken n).disc = s.disc := rfl
@[simp] theorem State.dropOvertaken_link (n : TimerIx) : (s.dropOvertaken n).link = s.link := rfl
@[simp] theorem State.dropOvertaken_ring (n : TimerIx) : (s.dropOvertaken n).ring = s.ring := rfl
@[simp] theorem State.dropOvertaken_plan (n : TimerIx) : (s.dropOvertaken n).plan = s.plan := rfl
@[simp] theorem State.dropOvertaken_store (n : TimerIx) : (s.dropOvertaken n).store = s.store := rfl
@[simp] theorem State.dropOvertaken_sys (n : TimerIx) : (s.dropOvertaken n).sys = s.sys := rfl
@[simp] theorem State.dropOvertaken_overtaken (n : TimerIx) :
    (s.dropOvertaken n).overtaken = s.overtaken.filter fun x => x.1 ≠ n := rfl

/-! ### setAuxIn -/
@[simp] theorem State.setAuxIn_pending (n : AuxIx) (a : AuxInput) : (s.setAuxIn n a).pending = s.pending := rfl
@[simp] theorem State.setAuxIn_est (n : AuxIx) (a : AuxInput) : (s.setAuxIn n a).est = s.est := rfl
@[simp] theorem State.setAuxIn_mail (n : AuxIx) (a : AuxInput) : (s.setAuxIn n a).mail = s.mail := rfl
@[simp] theorem State.setAuxIn_level (n : AuxIx) (a : AuxInput) : (s.setAuxIn n a).level = s.level := rfl
@[simp] theorem State.setAuxIn_sag (n : AuxIx) (a : AuxInput) : (s.setAuxIn n a).sag = s.sag := rfl
@[simp] theorem State.setAuxIn_chans (n : AuxIx) (a : AuxInput) : (s.setAuxIn n a).chans = s.chans := rfl
@[simp] theorem State.setAuxIn_planner (n : AuxIx) (a : AuxInput) : (s.setAuxIn n a).planner = s.planner := rfl
@[simp] theorem State.setAuxIn_slot (n : AuxIx) (a : AuxInput) : (s.setAuxIn n a).slot = s.slot := rfl
@[simp] theorem State.setAuxIn_standby (n : AuxIx) (a : AuxInput) : (s.setAuxIn n a).standby = s.standby := rfl
@[simp] theorem State.setAuxIn_idle (n : AuxIx) (a : AuxInput) : (s.setAuxIn n a).idle = s.idle := rfl
@[simp] theorem State.setAuxIn_disc (n : AuxIx) (a : AuxInput) : (s.setAuxIn n a).disc = s.disc := rfl
@[simp] theorem State.setAuxIn_link (n : AuxIx) (a : AuxInput) : (s.setAuxIn n a).link = s.link := rfl
@[simp] theorem State.setAuxIn_ring (n : AuxIx) (a : AuxInput) : (s.setAuxIn n a).ring = s.ring := rfl
@[simp] theorem State.setAuxIn_plan (n : AuxIx) (a : AuxInput) : (s.setAuxIn n a).plan = s.plan := rfl
@[simp] theorem State.setAuxIn_store (n : AuxIx) (a : AuxInput) : (s.setAuxIn n a).store = s.store := rfl
@[simp] theorem State.setAuxIn_sys (n : AuxIx) (a : AuxInput) : (s.setAuxIn n a).sys = s.sys := rfl
@[simp] theorem State.setAuxIn_overtaken (n : AuxIx) (a : AuxInput) : (s.setAuxIn n a).overtaken = s.overtaken := rfl

/-! ### setHolder -/
@[simp] theorem State.setHolder_pending (h : Option Chan) : (s.setHolder h).pending = s.pending := rfl
@[simp] theorem State.setHolder_est (h : Option Chan) : (s.setHolder h).est = s.est := rfl
@[simp] theorem State.setHolder_mail (h : Option Chan) : (s.setHolder h).mail = s.mail := rfl
@[simp] theorem State.setHolder_level (h : Option Chan) : (s.setHolder h).level = s.level := rfl
@[simp] theorem State.setHolder_sag (h : Option Chan) : (s.setHolder h).sag = s.sag := rfl
@[simp] theorem State.setHolder_chans (h : Option Chan) : (s.setHolder h).chans = s.chans := rfl
@[simp] theorem State.setHolder_planner (h : Option Chan) : (s.setHolder h).planner = s.planner := rfl
@[simp] theorem State.setHolder_standby (h : Option Chan) : (s.setHolder h).standby = s.standby := rfl
@[simp] theorem State.setHolder_idle (h : Option Chan) : (s.setHolder h).idle = s.idle := rfl
@[simp] theorem State.setHolder_aux (h : Option Chan) : (s.setHolder h).aux = s.aux := rfl
@[simp] theorem State.setHolder_disc (h : Option Chan) : (s.setHolder h).disc = s.disc := rfl
@[simp] theorem State.setHolder_link (h : Option Chan) : (s.setHolder h).link = s.link := rfl
@[simp] theorem State.setHolder_ring (h : Option Chan) : (s.setHolder h).ring = s.ring := rfl
@[simp] theorem State.setHolder_plan (h : Option Chan) : (s.setHolder h).plan = s.plan := rfl
@[simp] theorem State.setHolder_store (h : Option Chan) : (s.setHolder h).store = s.store := rfl
@[simp] theorem State.setHolder_sys (h : Option Chan) : (s.setHolder h).sys = s.sys := rfl
@[simp] theorem State.setHolder_overtaken (h : Option Chan) : (s.setHolder h).overtaken = s.overtaken := rfl

/-! ### leaveWaiting -/
@[simp] theorem State.leaveWaiting_pending (c : Chan) : (s.leaveWaiting c).pending = s.pending := rfl
@[simp] theorem State.leaveWaiting_est (c : Chan) : (s.leaveWaiting c).est = s.est := rfl
@[simp] theorem State.leaveWaiting_mail (c : Chan) : (s.leaveWaiting c).mail = s.mail := rfl
@[simp] theorem State.leaveWaiting_level (c : Chan) : (s.leaveWaiting c).level = s.level := rfl
@[simp] theorem State.leaveWaiting_sag (c : Chan) : (s.leaveWaiting c).sag = s.sag := rfl
@[simp] theorem State.leaveWaiting_chans (c : Chan) : (s.leaveWaiting c).chans = s.chans := rfl
@[simp] theorem State.leaveWaiting_planner (c : Chan) : (s.leaveWaiting c).planner = s.planner := rfl
@[simp] theorem State.leaveWaiting_standby (c : Chan) : (s.leaveWaiting c).standby = s.standby := rfl
@[simp] theorem State.leaveWaiting_idle (c : Chan) : (s.leaveWaiting c).idle = s.idle := rfl
@[simp] theorem State.leaveWaiting_aux (c : Chan) : (s.leaveWaiting c).aux = s.aux := rfl
@[simp] theorem State.leaveWaiting_disc (c : Chan) : (s.leaveWaiting c).disc = s.disc := rfl
@[simp] theorem State.leaveWaiting_link (c : Chan) : (s.leaveWaiting c).link = s.link := rfl
@[simp] theorem State.leaveWaiting_ring (c : Chan) : (s.leaveWaiting c).ring = s.ring := rfl
@[simp] theorem State.leaveWaiting_plan (c : Chan) : (s.leaveWaiting c).plan = s.plan := rfl
@[simp] theorem State.leaveWaiting_store (c : Chan) : (s.leaveWaiting c).store = s.store := rfl
@[simp] theorem State.leaveWaiting_sys (c : Chan) : (s.leaveWaiting c).sys = s.sys := rfl
@[simp] theorem State.leaveWaiting_overtaken (c : Chan) : (s.leaveWaiting c).overtaken = s.overtaken := rfl

/-! ### push -/
@[simp] theorem State.push_pending (k : NoticeKind) (j : Option Nat) (a b : Nat) : (s.push k j a b).pending = s.pending := rfl
@[simp] theorem State.push_est (k : NoticeKind) (j : Option Nat) (a b : Nat) : (s.push k j a b).est = s.est := rfl
@[simp] theorem State.push_mail (k : NoticeKind) (j : Option Nat) (a b : Nat) : (s.push k j a b).mail = s.mail := rfl
@[simp] theorem State.push_level (k : NoticeKind) (j : Option Nat) (a b : Nat) : (s.push k j a b).level = s.level := rfl
@[simp] theorem State.push_sag (k : NoticeKind) (j : Option Nat) (a b : Nat) : (s.push k j a b).sag = s.sag := rfl
@[simp] theorem State.push_chans (k : NoticeKind) (j : Option Nat) (a b : Nat) : (s.push k j a b).chans = s.chans := rfl
@[simp] theorem State.push_planner (k : NoticeKind) (j : Option Nat) (a b : Nat) : (s.push k j a b).planner = s.planner := rfl
@[simp] theorem State.push_slot (k : NoticeKind) (j : Option Nat) (a b : Nat) : (s.push k j a b).slot = s.slot := rfl
@[simp] theorem State.push_standby (k : NoticeKind) (j : Option Nat) (a b : Nat) : (s.push k j a b).standby = s.standby := rfl
@[simp] theorem State.push_idle (k : NoticeKind) (j : Option Nat) (a b : Nat) : (s.push k j a b).idle = s.idle := rfl
@[simp] theorem State.push_aux (k : NoticeKind) (j : Option Nat) (a b : Nat) : (s.push k j a b).aux = s.aux := rfl
@[simp] theorem State.push_disc (k : NoticeKind) (j : Option Nat) (a b : Nat) : (s.push k j a b).disc = s.disc := rfl
@[simp] theorem State.push_link (k : NoticeKind) (j : Option Nat) (a b : Nat) : (s.push k j a b).link = s.link := rfl
@[simp] theorem State.push_plan (k : NoticeKind) (j : Option Nat) (a b : Nat) : (s.push k j a b).plan = s.plan := rfl
@[simp] theorem State.push_store (k : NoticeKind) (j : Option Nat) (a b : Nat) : (s.push k j a b).store = s.store := rfl
@[simp] theorem State.push_sys (k : NoticeKind) (j : Option Nat) (a b : Nat) : (s.push k j a b).sys = s.sys := rfl
@[simp] theorem State.push_overtaken (k : NoticeKind) (j : Option Nat) (a b : Nat) : (s.push k j a b).overtaken = s.overtaken := rfl

/-! ### setEntries -/
@[simp] theorem State.setEntries_pending (es : List Entry) : (s.setEntries es).pending = s.pending := rfl
@[simp] theorem State.setEntries_est (es : List Entry) : (s.setEntries es).est = s.est := rfl
@[simp] theorem State.setEntries_mail (es : List Entry) : (s.setEntries es).mail = s.mail := rfl
@[simp] theorem State.setEntries_level (es : List Entry) : (s.setEntries es).level = s.level := rfl
@[simp] theorem State.setEntries_sag (es : List Entry) : (s.setEntries es).sag = s.sag := rfl
@[simp] theorem State.setEntries_chans (es : List Entry) : (s.setEntries es).chans = s.chans := rfl
@[simp] theorem State.setEntries_planner (es : List Entry) : (s.setEntries es).planner = s.planner := rfl
@[simp] theorem State.setEntries_slot (es : List Entry) : (s.setEntries es).slot = s.slot := rfl
@[simp] theorem State.setEntries_idle (es : List Entry) : (s.setEntries es).idle = s.idle := rfl
@[simp] theorem State.setEntries_aux (es : List Entry) : (s.setEntries es).aux = s.aux := rfl
@[simp] theorem State.setEntries_disc (es : List Entry) : (s.setEntries es).disc = s.disc := rfl
@[simp] theorem State.setEntries_link (es : List Entry) : (s.setEntries es).link = s.link := rfl
@[simp] theorem State.setEntries_ring (es : List Entry) : (s.setEntries es).ring = s.ring := rfl
@[simp] theorem State.setEntries_plan (es : List Entry) : (s.setEntries es).plan = s.plan := rfl
@[simp] theorem State.setEntries_store (es : List Entry) : (s.setEntries es).store = s.store := rfl
@[simp] theorem State.setEntries_sys (es : List Entry) : (s.setEntries es).sys = s.sys := rfl
@[simp] theorem State.setEntries_overtaken (es : List Entry) : (s.setEntries es).overtaken = s.overtaken := rfl

/-! ### setStreak -/
@[simp] theorem State.setStreak_pending (c : Chan) (n : Nat) : (s.setStreak c n).pending = s.pending := rfl
@[simp] theorem State.setStreak_est (c : Chan) (n : Nat) : (s.setStreak c n).est = s.est := rfl
@[simp] theorem State.setStreak_mail (c : Chan) (n : Nat) : (s.setStreak c n).mail = s.mail := rfl
@[simp] theorem State.setStreak_level (c : Chan) (n : Nat) : (s.setStreak c n).level = s.level := rfl
@[simp] theorem State.setStreak_sag (c : Chan) (n : Nat) : (s.setStreak c n).sag = s.sag := rfl
@[simp] theorem State.setStreak_planner (c : Chan) (n : Nat) : (s.setStreak c n).planner = s.planner := rfl
@[simp] theorem State.setStreak_slot (c : Chan) (n : Nat) : (s.setStreak c n).slot = s.slot := rfl
@[simp] theorem State.setStreak_standby (c : Chan) (n : Nat) : (s.setStreak c n).standby = s.standby := rfl
@[simp] theorem State.setStreak_idle (c : Chan) (n : Nat) : (s.setStreak c n).idle = s.idle := rfl
@[simp] theorem State.setStreak_aux (c : Chan) (n : Nat) : (s.setStreak c n).aux = s.aux := rfl
@[simp] theorem State.setStreak_disc (c : Chan) (n : Nat) : (s.setStreak c n).disc = s.disc := rfl
@[simp] theorem State.setStreak_link (c : Chan) (n : Nat) : (s.setStreak c n).link = s.link := rfl
@[simp] theorem State.setStreak_ring (c : Chan) (n : Nat) : (s.setStreak c n).ring = s.ring := rfl
@[simp] theorem State.setStreak_plan (c : Chan) (n : Nat) : (s.setStreak c n).plan = s.plan := rfl
@[simp] theorem State.setStreak_store (c : Chan) (n : Nat) : (s.setStreak c n).store = s.store := rfl
@[simp] theorem State.setStreak_sys (c : Chan) (n : Nat) : (s.setStreak c n).sys = s.sys := rfl
@[simp] theorem State.setStreak_overtaken (c : Chan) (n : Nat) : (s.setStreak c n).overtaken = s.overtaken := rfl

/-! ### startQuiet -/
@[simp] theorem State.startQuiet_pending : (s.startQuiet).pending = s.pending := rfl
@[simp] theorem State.startQuiet_est : (s.startQuiet).est = s.est := rfl
@[simp] theorem State.startQuiet_mail : (s.startQuiet).mail = s.mail := rfl
@[simp] theorem State.startQuiet_level : (s.startQuiet).level = s.level := rfl
@[simp] theorem State.startQuiet_sag : (s.startQuiet).sag = s.sag := rfl
@[simp] theorem State.startQuiet_chans : (s.startQuiet).chans = s.chans := rfl
@[simp] theorem State.startQuiet_slot : (s.startQuiet).slot = s.slot := rfl
@[simp] theorem State.startQuiet_standby : (s.startQuiet).standby = s.standby := rfl
@[simp] theorem State.startQuiet_idle : (s.startQuiet).idle = s.idle := rfl
@[simp] theorem State.startQuiet_aux : (s.startQuiet).aux = s.aux := rfl
@[simp] theorem State.startQuiet_disc : (s.startQuiet).disc = s.disc := rfl
@[simp] theorem State.startQuiet_link : (s.startQuiet).link = s.link := rfl
@[simp] theorem State.startQuiet_ring : (s.startQuiet).ring = s.ring := rfl
@[simp] theorem State.startQuiet_plan : (s.startQuiet).plan = s.plan := rfl
@[simp] theorem State.startQuiet_store : (s.startQuiet).store = s.store := rfl
@[simp] theorem State.startQuiet_sys : (s.startQuiet).sys = s.sys := rfl
@[simp] theorem State.startQuiet_overtaken : (s.startQuiet).overtaken = s.overtaken := rfl

/-! ### stopExcess -/
@[simp] theorem State.stopExcess_pending : (s.stopExcess).pending = s.pending := rfl
@[simp] theorem State.stopExcess_est : (s.stopExcess).est = s.est := rfl
@[simp] theorem State.stopExcess_mail : (s.stopExcess).mail = s.mail := rfl
@[simp] theorem State.stopExcess_level : (s.stopExcess).level = s.level := rfl
@[simp] theorem State.stopExcess_sag : (s.stopExcess).sag = s.sag := rfl
@[simp] theorem State.stopExcess_chans : (s.stopExcess).chans = s.chans := rfl
@[simp] theorem State.stopExcess_slot : (s.stopExcess).slot = s.slot := rfl
@[simp] theorem State.stopExcess_standby : (s.stopExcess).standby = s.standby := rfl
@[simp] theorem State.stopExcess_idle : (s.stopExcess).idle = s.idle := rfl
@[simp] theorem State.stopExcess_aux : (s.stopExcess).aux = s.aux := rfl
@[simp] theorem State.stopExcess_disc : (s.stopExcess).disc = s.disc := rfl
@[simp] theorem State.stopExcess_link : (s.stopExcess).link = s.link := rfl
@[simp] theorem State.stopExcess_ring : (s.stopExcess).ring = s.ring := rfl
@[simp] theorem State.stopExcess_plan : (s.stopExcess).plan = s.plan := rfl
@[simp] theorem State.stopExcess_store : (s.stopExcess).store = s.store := rfl
@[simp] theorem State.stopExcess_sys : (s.stopExcess).sys = s.sys := rfl
@[simp] theorem State.stopExcess_overtaken : (s.stopExcess).overtaken = s.overtaken := rfl

/-! ### startExcess -/
@[simp] theorem State.startExcess_pending : (s.startExcess).pending = s.pending := rfl
@[simp] theorem State.startExcess_est : (s.startExcess).est = s.est := rfl
@[simp] theorem State.startExcess_mail : (s.startExcess).mail = s.mail := rfl
@[simp] theorem State.startExcess_level : (s.startExcess).level = s.level := rfl
@[simp] theorem State.startExcess_sag : (s.startExcess).sag = s.sag := rfl
@[simp] theorem State.startExcess_chans : (s.startExcess).chans = s.chans := rfl
@[simp] theorem State.startExcess_slot : (s.startExcess).slot = s.slot := rfl
@[simp] theorem State.startExcess_standby : (s.startExcess).standby = s.standby := rfl
@[simp] theorem State.startExcess_idle : (s.startExcess).idle = s.idle := rfl
@[simp] theorem State.startExcess_aux : (s.startExcess).aux = s.aux := rfl
@[simp] theorem State.startExcess_disc : (s.startExcess).disc = s.disc := rfl
@[simp] theorem State.startExcess_link : (s.startExcess).link = s.link := rfl
@[simp] theorem State.startExcess_ring : (s.startExcess).ring = s.ring := rfl
@[simp] theorem State.startExcess_plan : (s.startExcess).plan = s.plan := rfl
@[simp] theorem State.startExcess_store : (s.startExcess).store = s.store := rfl
@[simp] theorem State.startExcess_sys : (s.startExcess).sys = s.sys := rfl
@[simp] theorem State.startExcess_overtaken : (s.startExcess).overtaken = s.overtaken := rfl

/-! ### setOverload -/
@[simp] theorem State.setOverload_pending (b : Bool) : (s.setOverload b).pending = s.pending := rfl
@[simp] theorem State.setOverload_est (b : Bool) : (s.setOverload b).est = s.est := rfl
@[simp] theorem State.setOverload_mail (b : Bool) : (s.setOverload b).mail = s.mail := rfl
@[simp] theorem State.setOverload_level (b : Bool) : (s.setOverload b).level = s.level := rfl
@[simp] theorem State.setOverload_sag (b : Bool) : (s.setOverload b).sag = s.sag := rfl
@[simp] theorem State.setOverload_chans (b : Bool) : (s.setOverload b).chans = s.chans := rfl
@[simp] theorem State.setOverload_slot (b : Bool) : (s.setOverload b).slot = s.slot := rfl
@[simp] theorem State.setOverload_standby (b : Bool) : (s.setOverload b).standby = s.standby := rfl
@[simp] theorem State.setOverload_idle (b : Bool) : (s.setOverload b).idle = s.idle := rfl
@[simp] theorem State.setOverload_aux (b : Bool) : (s.setOverload b).aux = s.aux := rfl
@[simp] theorem State.setOverload_disc (b : Bool) : (s.setOverload b).disc = s.disc := rfl
@[simp] theorem State.setOverload_link (b : Bool) : (s.setOverload b).link = s.link := rfl
@[simp] theorem State.setOverload_ring (b : Bool) : (s.setOverload b).ring = s.ring := rfl
@[simp] theorem State.setOverload_plan (b : Bool) : (s.setOverload b).plan = s.plan := rfl
@[simp] theorem State.setOverload_store (b : Bool) : (s.setOverload b).store = s.store := rfl
@[simp] theorem State.setOverload_sys (b : Bool) : (s.setOverload b).sys = s.sys := rfl
@[simp] theorem State.setOverload_overtaken (b : Bool) : (s.setOverload b).overtaken = s.overtaken := rfl

/-! ### cancelDwell -/
@[simp] theorem State.cancelDwell_pending : (s.cancelDwell).pending = s.pending := rfl
@[simp] theorem State.cancelDwell_est : (s.cancelDwell).est = s.est := rfl
@[simp] theorem State.cancelDwell_mail : (s.cancelDwell).mail = s.mail := rfl
@[simp] theorem State.cancelDwell_sag : (s.cancelDwell).sag = s.sag := rfl
@[simp] theorem State.cancelDwell_chans : (s.cancelDwell).chans = s.chans := rfl
@[simp] theorem State.cancelDwell_planner : (s.cancelDwell).planner = s.planner := rfl
@[simp] theorem State.cancelDwell_slot : (s.cancelDwell).slot = s.slot := rfl
@[simp] theorem State.cancelDwell_standby : (s.cancelDwell).standby = s.standby := rfl
@[simp] theorem State.cancelDwell_idle : (s.cancelDwell).idle = s.idle := rfl
@[simp] theorem State.cancelDwell_aux : (s.cancelDwell).aux = s.aux := rfl
@[simp] theorem State.cancelDwell_disc : (s.cancelDwell).disc = s.disc := rfl
@[simp] theorem State.cancelDwell_link : (s.cancelDwell).link = s.link := rfl
@[simp] theorem State.cancelDwell_ring : (s.cancelDwell).ring = s.ring := rfl
@[simp] theorem State.cancelDwell_plan : (s.cancelDwell).plan = s.plan := rfl
@[simp] theorem State.cancelDwell_store : (s.cancelDwell).store = s.store := rfl
@[simp] theorem State.cancelDwell_sys : (s.cancelDwell).sys = s.sys := rfl
@[simp] theorem State.cancelDwell_overtaken : (s.cancelDwell).overtaken = s.overtaken := rfl

/-! ### setDwell -/
@[simp] theorem State.setDwell_pending (p : Pending) (n : Nat) : (s.setDwell p n).pending = s.pending := rfl
@[simp] theorem State.setDwell_est (p : Pending) (n : Nat) : (s.setDwell p n).est = s.est := rfl
@[simp] theorem State.setDwell_mail (p : Pending) (n : Nat) : (s.setDwell p n).mail = s.mail := rfl
@[simp] theorem State.setDwell_sag (p : Pending) (n : Nat) : (s.setDwell p n).sag = s.sag := rfl
@[simp] theorem State.setDwell_chans (p : Pending) (n : Nat) : (s.setDwell p n).chans = s.chans := rfl
@[simp] theorem State.setDwell_planner (p : Pending) (n : Nat) : (s.setDwell p n).planner = s.planner := rfl
@[simp] theorem State.setDwell_slot (p : Pending) (n : Nat) : (s.setDwell p n).slot = s.slot := rfl
@[simp] theorem State.setDwell_standby (p : Pending) (n : Nat) : (s.setDwell p n).standby = s.standby := rfl
@[simp] theorem State.setDwell_idle (p : Pending) (n : Nat) : (s.setDwell p n).idle = s.idle := rfl
@[simp] theorem State.setDwell_aux (p : Pending) (n : Nat) : (s.setDwell p n).aux = s.aux := rfl
@[simp] theorem State.setDwell_disc (p : Pending) (n : Nat) : (s.setDwell p n).disc = s.disc := rfl
@[simp] theorem State.setDwell_link (p : Pending) (n : Nat) : (s.setDwell p n).link = s.link := rfl
@[simp] theorem State.setDwell_ring (p : Pending) (n : Nat) : (s.setDwell p n).ring = s.ring := rfl
@[simp] theorem State.setDwell_plan (p : Pending) (n : Nat) : (s.setDwell p n).plan = s.plan := rfl
@[simp] theorem State.setDwell_store (p : Pending) (n : Nat) : (s.setDwell p n).store = s.store := rfl
@[simp] theorem State.setDwell_sys (p : Pending) (n : Nat) : (s.setDwell p n).sys = s.sys := rfl
@[simp] theorem State.setDwell_overtaken (p : Pending) (n : Nat) : (s.setDwell p n).overtaken = s.overtaken := rfl

/-! ### setSag -/
@[simp] theorem State.setSag_pending (g : SagMon) : (s.setSag g).pending = s.pending := rfl
@[simp] theorem State.setSag_est (g : SagMon) : (s.setSag g).est = s.est := rfl
@[simp] theorem State.setSag_mail (g : SagMon) : (s.setSag g).mail = s.mail := rfl
@[simp] theorem State.setSag_level (g : SagMon) : (s.setSag g).level = s.level := rfl
@[simp] theorem State.setSag_chans (g : SagMon) : (s.setSag g).chans = s.chans := rfl
@[simp] theorem State.setSag_planner (g : SagMon) : (s.setSag g).planner = s.planner := rfl
@[simp] theorem State.setSag_slot (g : SagMon) : (s.setSag g).slot = s.slot := rfl
@[simp] theorem State.setSag_standby (g : SagMon) : (s.setSag g).standby = s.standby := rfl
@[simp] theorem State.setSag_idle (g : SagMon) : (s.setSag g).idle = s.idle := rfl
@[simp] theorem State.setSag_aux (g : SagMon) : (s.setSag g).aux = s.aux := rfl
@[simp] theorem State.setSag_disc (g : SagMon) : (s.setSag g).disc = s.disc := rfl
@[simp] theorem State.setSag_link (g : SagMon) : (s.setSag g).link = s.link := rfl
@[simp] theorem State.setSag_ring (g : SagMon) : (s.setSag g).ring = s.ring := rfl
@[simp] theorem State.setSag_plan (g : SagMon) : (s.setSag g).plan = s.plan := rfl
@[simp] theorem State.setSag_store (g : SagMon) : (s.setSag g).store = s.store := rfl
@[simp] theorem State.setSag_sys (g : SagMon) : (s.setSag g).sys = s.sys := rfl
@[simp] theorem State.setSag_overtaken (g : SagMon) : (s.setSag g).overtaken = s.overtaken := rfl

/-! ### noteUpdate -/
@[simp] theorem State.noteUpdate_pending (u : ReserveUpdate) : (s.noteUpdate u).pending = s.pending := rfl
@[simp] theorem State.noteUpdate_est (u : ReserveUpdate) : (s.noteUpdate u).est = s.est := rfl
@[simp] theorem State.noteUpdate_mail (u : ReserveUpdate) : (s.noteUpdate u).mail = s.mail := rfl
@[simp] theorem State.noteUpdate_level (u : ReserveUpdate) : (s.noteUpdate u).level = s.level := rfl
@[simp] theorem State.noteUpdate_sag (u : ReserveUpdate) : (s.noteUpdate u).sag = s.sag := rfl
@[simp] theorem State.noteUpdate_chans (u : ReserveUpdate) : (s.noteUpdate u).chans = s.chans := rfl
@[simp] theorem State.noteUpdate_planner (u : ReserveUpdate) : (s.noteUpdate u).planner = s.planner := rfl
@[simp] theorem State.noteUpdate_slot (u : ReserveUpdate) : (s.noteUpdate u).slot = s.slot := rfl
@[simp] theorem State.noteUpdate_standby (u : ReserveUpdate) : (s.noteUpdate u).standby = s.standby := rfl
@[simp] theorem State.noteUpdate_idle (u : ReserveUpdate) : (s.noteUpdate u).idle = s.idle := rfl
@[simp] theorem State.noteUpdate_aux (u : ReserveUpdate) : (s.noteUpdate u).aux = s.aux := rfl
@[simp] theorem State.noteUpdate_link (u : ReserveUpdate) : (s.noteUpdate u).link = s.link := rfl
@[simp] theorem State.noteUpdate_ring (u : ReserveUpdate) : (s.noteUpdate u).ring = s.ring := rfl
@[simp] theorem State.noteUpdate_plan (u : ReserveUpdate) : (s.noteUpdate u).plan = s.plan := rfl
@[simp] theorem State.noteUpdate_store (u : ReserveUpdate) : (s.noteUpdate u).store = s.store := rfl
@[simp] theorem State.noteUpdate_sys (u : ReserveUpdate) : (s.noteUpdate u).sys = s.sys := rfl
@[simp] theorem State.noteUpdate_overtaken (u : ReserveUpdate) : (s.noteUpdate u).overtaken = s.overtaken := rfl

/-! ### closeRelay -/
@[simp] theorem State.closeRelay_pending : (s.closeRelay).pending = s.pending := rfl
@[simp] theorem State.closeRelay_est : (s.closeRelay).est = s.est := rfl
@[simp] theorem State.closeRelay_mail : (s.closeRelay).mail = s.mail := rfl
@[simp] theorem State.closeRelay_level : (s.closeRelay).level = s.level := rfl
@[simp] theorem State.closeRelay_sag : (s.closeRelay).sag = s.sag := rfl
@[simp] theorem State.closeRelay_chans : (s.closeRelay).chans = s.chans := rfl
@[simp] theorem State.closeRelay_planner : (s.closeRelay).planner = s.planner := rfl
@[simp] theorem State.closeRelay_slot : (s.closeRelay).slot = s.slot := rfl
@[simp] theorem State.closeRelay_standby : (s.closeRelay).standby = s.standby := rfl
@[simp] theorem State.closeRelay_idle : (s.closeRelay).idle = s.idle := rfl
@[simp] theorem State.closeRelay_aux : (s.closeRelay).aux = s.aux := rfl
@[simp] theorem State.closeRelay_link : (s.closeRelay).link = s.link := rfl
@[simp] theorem State.closeRelay_ring : (s.closeRelay).ring = s.ring := rfl
@[simp] theorem State.closeRelay_plan : (s.closeRelay).plan = s.plan := rfl
@[simp] theorem State.closeRelay_store : (s.closeRelay).store = s.store := rfl
@[simp] theorem State.closeRelay_sys : (s.closeRelay).sys = s.sys := rfl
@[simp] theorem State.closeRelay_overtaken : (s.closeRelay).overtaken = s.overtaken := rfl

/-! ### isolateUnit -/
@[simp] theorem State.isolateUnit_pending (r : IsoReason) : (s.isolateUnit r).pending = s.pending := rfl
@[simp] theorem State.isolateUnit_est (r : IsoReason) : (s.isolateUnit r).est = s.est := rfl
@[simp] theorem State.isolateUnit_mail (r : IsoReason) : (s.isolateUnit r).mail = s.mail := rfl
@[simp] theorem State.isolateUnit_level (r : IsoReason) : (s.isolateUnit r).level = s.level := rfl
@[simp] theorem State.isolateUnit_sag (r : IsoReason) : (s.isolateUnit r).sag = s.sag := rfl
@[simp] theorem State.isolateUnit_chans (r : IsoReason) : (s.isolateUnit r).chans = s.chans := rfl
@[simp] theorem State.isolateUnit_planner (r : IsoReason) : (s.isolateUnit r).planner = s.planner := rfl
@[simp] theorem State.isolateUnit_slot (r : IsoReason) : (s.isolateUnit r).slot = s.slot := rfl
@[simp] theorem State.isolateUnit_standby (r : IsoReason) : (s.isolateUnit r).standby = s.standby := rfl
@[simp] theorem State.isolateUnit_idle (r : IsoReason) : (s.isolateUnit r).idle = s.idle := rfl
@[simp] theorem State.isolateUnit_aux (r : IsoReason) : (s.isolateUnit r).aux = s.aux := rfl
@[simp] theorem State.isolateUnit_link (r : IsoReason) : (s.isolateUnit r).link = s.link := rfl
@[simp] theorem State.isolateUnit_ring (r : IsoReason) : (s.isolateUnit r).ring = s.ring := rfl
@[simp] theorem State.isolateUnit_plan (r : IsoReason) : (s.isolateUnit r).plan = s.plan := rfl
@[simp] theorem State.isolateUnit_store (r : IsoReason) : (s.isolateUnit r).store = s.store := rfl
@[simp] theorem State.isolateUnit_sys (r : IsoReason) : (s.isolateUnit r).sys = s.sys := rfl
@[simp] theorem State.isolateUnit_overtaken (r : IsoReason) : (s.isolateUnit r).overtaken = s.overtaken := rfl

/-! ### dropSagSamples -/
@[simp] theorem State.dropSagSamples_pending : s.dropSagSamples.pending = s.pending := rfl
@[simp] theorem State.dropSagSamples_est : s.dropSagSamples.est = s.est := rfl
@[simp] theorem State.dropSagSamples_level : s.dropSagSamples.level = s.level := rfl
@[simp] theorem State.dropSagSamples_sag : s.dropSagSamples.sag = s.sag := rfl
@[simp] theorem State.dropSagSamples_chans : s.dropSagSamples.chans = s.chans := rfl
@[simp] theorem State.dropSagSamples_planner : s.dropSagSamples.planner = s.planner := rfl
@[simp] theorem State.dropSagSamples_slot : s.dropSagSamples.slot = s.slot := rfl
@[simp] theorem State.dropSagSamples_standby : s.dropSagSamples.standby = s.standby := rfl
@[simp] theorem State.dropSagSamples_idle : s.dropSagSamples.idle = s.idle := rfl
@[simp] theorem State.dropSagSamples_aux : s.dropSagSamples.aux = s.aux := rfl
@[simp] theorem State.dropSagSamples_disc : s.dropSagSamples.disc = s.disc := rfl
@[simp] theorem State.dropSagSamples_link : s.dropSagSamples.link = s.link := rfl
@[simp] theorem State.dropSagSamples_ring : s.dropSagSamples.ring = s.ring := rfl
@[simp] theorem State.dropSagSamples_plan : s.dropSagSamples.plan = s.plan := rfl
@[simp] theorem State.dropSagSamples_store : s.dropSagSamples.store = s.store := rfl
@[simp] theorem State.dropSagSamples_sys : s.dropSagSamples.sys = s.sys := rfl
@[simp] theorem State.dropSagSamples_overtaken : s.dropSagSamples.overtaken = s.overtaken := rfl
@[simp] theorem State.dropSagSamples_mail : s.dropSagSamples.mail = { s.mail with sag := [] } := rfl

/-! ### publish -/
@[simp] theorem Mail.publish_level (m : Mail) (u : ReserveUpdate) (b : Bool) : (m.publish u b).level = m.level ++ [u] := rfl
@[simp] theorem Mail.publish_disconnect (m : Mail) (u : ReserveUpdate) (b : Bool) :
    (m.publish u b).disconnect = m.disconnect ++ [u] := rfl
/-- R47: in ISOLATED, where the comparator does not listen, its queue stays as it was. -/
@[simp] theorem Mail.publish_sag_false (m : Mail) (u : ReserveUpdate) : (m.publish u false).sag = m.sag := rfl
@[simp] theorem Mail.publish_sag_true (m : Mail) (u : ReserveUpdate) : (m.publish u true).sag = m.sag ++ [u.vb] := rfl
@[simp] theorem State.comparatorListens_iff : s.comparatorListens = true ↔ s.disc.device ≠ .isolated := by
  simp [State.comparatorListens]

/-! ### setCrec -/
@[simp] theorem State.setCrec_pending (c : Chan) (r : ChannelRec) : (s.setCrec c r).pending = s.pending := rfl
@[simp] theorem State.setCrec_est (c : Chan) (r : ChannelRec) : (s.setCrec c r).est = s.est := rfl
@[simp] theorem State.setCrec_mail (c : Chan) (r : ChannelRec) : (s.setCrec c r).mail = s.mail := rfl
@[simp] theorem State.setCrec_level (c : Chan) (r : ChannelRec) : (s.setCrec c r).level = s.level := rfl
@[simp] theorem State.setCrec_sag (c : Chan) (r : ChannelRec) : (s.setCrec c r).sag = s.sag := rfl
@[simp] theorem State.setCrec_chans (c : Chan) (r : ChannelRec) : (s.setCrec c r).chans = s.chans := rfl
@[simp] theorem State.setCrec_planner (c : Chan) (r : ChannelRec) : (s.setCrec c r).planner = s.planner := rfl
@[simp] theorem State.setCrec_slot (c : Chan) (r : ChannelRec) : (s.setCrec c r).slot = s.slot := rfl
@[simp] theorem State.setCrec_standby (c : Chan) (r : ChannelRec) : (s.setCrec c r).standby = s.standby := rfl
@[simp] theorem State.setCrec_idle (c : Chan) (r : ChannelRec) : (s.setCrec c r).idle = s.idle := rfl
@[simp] theorem State.setCrec_aux (c : Chan) (r : ChannelRec) : (s.setCrec c r).aux = s.aux := rfl
@[simp] theorem State.setCrec_disc (c : Chan) (r : ChannelRec) : (s.setCrec c r).disc = s.disc := rfl
@[simp] theorem State.setCrec_link (c : Chan) (r : ChannelRec) : (s.setCrec c r).link = s.link := rfl
@[simp] theorem State.setCrec_ring (c : Chan) (r : ChannelRec) : (s.setCrec c r).ring = s.ring := rfl
@[simp] theorem State.setCrec_store (c : Chan) (r : ChannelRec) : (s.setCrec c r).store = s.store := rfl
@[simp] theorem State.setCrec_sys (c : Chan) (r : ChannelRec) : (s.setCrec c r).sys = s.sys := rfl
@[simp] theorem State.setCrec_overtaken (c : Chan) (r : ChannelRec) : (s.setCrec c r).overtaken = s.overtaken := rfl

/-! ### bumpGeneration -/
@[simp] theorem State.bumpGeneration_pending : (s.bumpGeneration).pending = s.pending := rfl
@[simp] theorem State.bumpGeneration_est : (s.bumpGeneration).est = s.est := rfl
@[simp] theorem State.bumpGeneration_mail : (s.bumpGeneration).mail = s.mail := rfl
@[simp] theorem State.bumpGeneration_level : (s.bumpGeneration).level = s.level := rfl
@[simp] theorem State.bumpGeneration_sag : (s.bumpGeneration).sag = s.sag := rfl
@[simp] theorem State.bumpGeneration_chans : (s.bumpGeneration).chans = s.chans := rfl
@[simp] theorem State.bumpGeneration_planner : (s.bumpGeneration).planner = s.planner := rfl
@[simp] theorem State.bumpGeneration_slot : (s.bumpGeneration).slot = s.slot := rfl
@[simp] theorem State.bumpGeneration_standby : (s.bumpGeneration).standby = s.standby := rfl
@[simp] theorem State.bumpGeneration_idle : (s.bumpGeneration).idle = s.idle := rfl
@[simp] theorem State.bumpGeneration_aux : (s.bumpGeneration).aux = s.aux := rfl
@[simp] theorem State.bumpGeneration_disc : (s.bumpGeneration).disc = s.disc := rfl
@[simp] theorem State.bumpGeneration_link : (s.bumpGeneration).link = s.link := rfl
@[simp] theorem State.bumpGeneration_ring : (s.bumpGeneration).ring = s.ring := rfl
@[simp] theorem State.bumpGeneration_store : (s.bumpGeneration).store = s.store := rfl
@[simp] theorem State.bumpGeneration_sys : (s.bumpGeneration).sys = s.sys := rfl
@[simp] theorem State.bumpGeneration_overtaken : (s.bumpGeneration).overtaken = s.overtaken := rfl

/-! ### setLock -/
@[simp] theorem State.setLock_pending (b : Bool) : (s.setLock b).pending = s.pending := rfl
@[simp] theorem State.setLock_est (b : Bool) : (s.setLock b).est = s.est := rfl
@[simp] theorem State.setLock_mail (b : Bool) : (s.setLock b).mail = s.mail := rfl
@[simp] theorem State.setLock_level (b : Bool) : (s.setLock b).level = s.level := rfl
@[simp] theorem State.setLock_sag (b : Bool) : (s.setLock b).sag = s.sag := rfl
@[simp] theorem State.setLock_chans (b : Bool) : (s.setLock b).chans = s.chans := rfl
@[simp] theorem State.setLock_planner (b : Bool) : (s.setLock b).planner = s.planner := rfl
@[simp] theorem State.setLock_slot (b : Bool) : (s.setLock b).slot = s.slot := rfl
@[simp] theorem State.setLock_standby (b : Bool) : (s.setLock b).standby = s.standby := rfl
@[simp] theorem State.setLock_idle (b : Bool) : (s.setLock b).idle = s.idle := rfl
@[simp] theorem State.setLock_aux (b : Bool) : (s.setLock b).aux = s.aux := rfl
@[simp] theorem State.setLock_disc (b : Bool) : (s.setLock b).disc = s.disc := rfl
@[simp] theorem State.setLock_link (b : Bool) : (s.setLock b).link = s.link := rfl
@[simp] theorem State.setLock_ring (b : Bool) : (s.setLock b).ring = s.ring := rfl
@[simp] theorem State.setLock_store (b : Bool) : (s.setLock b).store = s.store := rfl
@[simp] theorem State.setLock_sys (b : Bool) : (s.setLock b).sys = s.sys := rfl
@[simp] theorem State.setLock_overtaken (b : Bool) : (s.setLock b).overtaken = s.overtaken := rfl

/-! ### startWrite -/
@[simp] theorem State.startWrite_pending : (s.startWrite).pending = s.pending := rfl
@[simp] theorem State.startWrite_est : (s.startWrite).est = s.est := rfl
@[simp] theorem State.startWrite_mail : (s.startWrite).mail = s.mail := rfl
@[simp] theorem State.startWrite_level : (s.startWrite).level = s.level := rfl
@[simp] theorem State.startWrite_sag : (s.startWrite).sag = s.sag := rfl
@[simp] theorem State.startWrite_chans : (s.startWrite).chans = s.chans := rfl
@[simp] theorem State.startWrite_planner : (s.startWrite).planner = s.planner := rfl
@[simp] theorem State.startWrite_slot : (s.startWrite).slot = s.slot := rfl
@[simp] theorem State.startWrite_standby : (s.startWrite).standby = s.standby := rfl
@[simp] theorem State.startWrite_idle : (s.startWrite).idle = s.idle := rfl
@[simp] theorem State.startWrite_aux : (s.startWrite).aux = s.aux := rfl
@[simp] theorem State.startWrite_disc : (s.startWrite).disc = s.disc := rfl
@[simp] theorem State.startWrite_link : (s.startWrite).link = s.link := rfl
@[simp] theorem State.startWrite_ring : (s.startWrite).ring = s.ring := rfl
@[simp] theorem State.startWrite_plan : (s.startWrite).plan = s.plan := rfl
@[simp] theorem State.startWrite_sys : (s.startWrite).sys = s.sys := rfl
@[simp] theorem State.startWrite_overtaken : (s.startWrite).overtaken = s.overtaken := rfl

/-! ### setService -/
@[simp] theorem State.setService_pending (b : Bool) : (s.setService b).pending = s.pending := rfl
@[simp] theorem State.setService_est (b : Bool) : (s.setService b).est = s.est := rfl
@[simp] theorem State.setService_mail (b : Bool) : (s.setService b).mail = s.mail := rfl
@[simp] theorem State.setService_level (b : Bool) : (s.setService b).level = s.level := rfl
@[simp] theorem State.setService_sag (b : Bool) : (s.setService b).sag = s.sag := rfl
@[simp] theorem State.setService_chans (b : Bool) : (s.setService b).chans = s.chans := rfl
@[simp] theorem State.setService_planner (b : Bool) : (s.setService b).planner = s.planner := rfl
@[simp] theorem State.setService_slot (b : Bool) : (s.setService b).slot = s.slot := rfl
@[simp] theorem State.setService_standby (b : Bool) : (s.setService b).standby = s.standby := rfl
@[simp] theorem State.setService_idle (b : Bool) : (s.setService b).idle = s.idle := rfl
@[simp] theorem State.setService_aux (b : Bool) : (s.setService b).aux = s.aux := rfl
@[simp] theorem State.setService_disc (b : Bool) : (s.setService b).disc = s.disc := rfl
@[simp] theorem State.setService_link (b : Bool) : (s.setService b).link = s.link := rfl
@[simp] theorem State.setService_ring (b : Bool) : (s.setService b).ring = s.ring := rfl
@[simp] theorem State.setService_plan (b : Bool) : (s.setService b).plan = s.plan := rfl
@[simp] theorem State.setService_store (b : Bool) : (s.setService b).store = s.store := rfl

/-! ### setRx -/
@[simp] theorem State.setRx_pending (r : RxState) (b : List Byte) : (s.setRx r b).pending = s.pending := rfl
@[simp] theorem State.setRx_est (r : RxState) (b : List Byte) : (s.setRx r b).est = s.est := rfl
@[simp] theorem State.setRx_mail (r : RxState) (b : List Byte) : (s.setRx r b).mail = s.mail := rfl
@[simp] theorem State.setRx_level (r : RxState) (b : List Byte) : (s.setRx r b).level = s.level := rfl
@[simp] theorem State.setRx_sag (r : RxState) (b : List Byte) : (s.setRx r b).sag = s.sag := rfl
@[simp] theorem State.setRx_chans (r : RxState) (b : List Byte) : (s.setRx r b).chans = s.chans := rfl
@[simp] theorem State.setRx_planner (r : RxState) (b : List Byte) : (s.setRx r b).planner = s.planner := rfl
@[simp] theorem State.setRx_slot (r : RxState) (b : List Byte) : (s.setRx r b).slot = s.slot := rfl
@[simp] theorem State.setRx_standby (r : RxState) (b : List Byte) : (s.setRx r b).standby = s.standby := rfl
@[simp] theorem State.setRx_idle (r : RxState) (b : List Byte) : (s.setRx r b).idle = s.idle := rfl
@[simp] theorem State.setRx_aux (r : RxState) (b : List Byte) : (s.setRx r b).aux = s.aux := rfl
@[simp] theorem State.setRx_disc (r : RxState) (b : List Byte) : (s.setRx r b).disc = s.disc := rfl
@[simp] theorem State.setRx_ring (r : RxState) (b : List Byte) : (s.setRx r b).ring = s.ring := rfl
@[simp] theorem State.setRx_plan (r : RxState) (b : List Byte) : (s.setRx r b).plan = s.plan := rfl
@[simp] theorem State.setRx_store (r : RxState) (b : List Byte) : (s.setRx r b).store = s.store := rfl
@[simp] theorem State.setRx_sys (r : RxState) (b : List Byte) : (s.setRx r b).sys = s.sys := rfl
@[simp] theorem State.setRx_overtaken (r : RxState) (b : List Byte) : (s.setRx r b).overtaken = s.overtaken := rfl

/-! ### What the updates make of their part -/

@[simp] theorem State.withPending_pending (q : List Instr) : (s.withPending q).pending = q := rfl
@[simp] theorem State.withPending_self : s.withPending s.pending = s := rfl
@[simp] theorem State.setSag_sag (g : SagMon) : (s.setSag g).sag = g := rfl
@[simp] theorem State.setHolder_slot (h : Option Chan) : (s.setHolder h).slot = ⟨h, s.slot.waiting⟩ := rfl
@[simp] theorem State.leaveWaiting_slot (c : Chan) :
    (s.leaveWaiting c).slot = ⟨s.slot.holder, s.slot.waiting.filter (fun d => d ≠ c)⟩ := rfl
@[simp] theorem State.setEntries_standby (es : List Entry) :
    (s.setEntries es).standby = ⟨es, nextVersion s.standby.version⟩ := rfl
@[simp] theorem State.push_ring (k : NoticeKind) (j : Option Nat) (a b : Nat) :
    (s.push k j a b).ring = s.ring.push ⟨k, s.sys.uptime, j, a, b⟩ := rfl
@[simp] theorem State.setService_sys (b : Bool) : (s.setService b).sys = { s.sys with service := b } := rfl
@[simp] theorem State.setService_overtaken (b : Bool) : (s.setService b).overtaken = s.overtaken := rfl
@[simp] theorem State.setRx_link (r : RxState) (b : List Byte) :
    (s.setRx r b).link = ⟨r, b, Timer.ms gapMs, s.link.reply⟩ := rfl
@[simp] theorem State.startQuiet_planner :
    s.startQuiet.planner = { s.planner with restoreQuiet := Timer.s s.plan.levels.settings.restoreDwell } := rfl
@[simp] theorem State.stopExcess_planner : s.stopExcess.planner = { s.planner with excess := none } := rfl
@[simp] theorem State.startExcess_planner :
    s.startExcess.planner = { s.planner with excess := Timer.s s.plan.levels.settings.excessDwell } := rfl
@[simp] theorem State.setOverload_planner (b : Bool) :
    (s.setOverload b).planner = { s.planner with overloadReported := b } := rfl
@[simp] theorem State.cancelDwell_level : s.cancelDwell.level = { s.level with pending := .none, count := 0 } := rfl

/-! ### Reading one channel -/

@[simp] theorem State.chan_setChan_self (c : Chan) (ch : Channel) : (s.setChan c ch).chan c = ch := by
  simp [State.chan, State.setChan]

theorem State.chan_setChan_of_ne (c d : Chan) (ch : Channel) (h : d ≠ c) : (s.setChan c ch).chan d = s.chan d := by
  have : (c : Nat) ≠ d := fun e => h (Fin.ext e.symm)
  simp [State.chan, State.setChan, this]

theorem State.chan_setChan (c d : Chan) (ch : Channel) :
    (s.setChan c ch).chan d = if d = c then ch else s.chan d := by
  by_cases h : d = c
  · subst h; simp
  · simp [h, State.chan_setChan_of_ne s c d ch h]

@[simp] theorem State.chan_mapChans (f : Chan → Channel → Channel) (c : Chan) :
    (s.mapChans f).chan c = f c (s.chan c) := by
  simp [State.chan, State.mapChans]

/-- A state with the same channels reads the same channel. -/
theorem State.chan_congr {s t : State} (h : t.chans = s.chans) (c : Chan) : t.chan c = s.chan c := by
  simp [State.chan, h]

/-- A state with the same plan reads the same record. -/
theorem State.crec_congr {s t : State} (h : t.plan = s.plan) (c : Chan) : t.crec c = s.crec c := by
  simp [State.crec, h]

/-- A state with the same plan reads the same rank. -/
theorem State.rank_congr {s t : State} (h : t.plan = s.plan) (c : Chan) : t.rank c = s.rank c := by
  simp [State.rank, State.crec, h]

/-! ### Updates that act under a condition -/

/-- R88: the release of the slot changes nothing but its holder. -/
theorem State.releaseSlot_eq (c : Chan) :
    s.releaseSlot c = { s with slot := ⟨if s.slot.holder = some c then none else s.slot.holder, s.slot.waiting⟩ } := by
  unfold State.releaseSlot State.setHolder
  split <;> rfl

/-- R104, R105: a removal changes nothing but the list. -/
theorem State.removeEntry_eq (c : Chan) :
    s.removeEntry c = { s with standby := (s.removeEntry c).standby } := by
  unfold State.removeEntry State.setEntries
  split <;> rfl

/-- R98: an insertion changes nothing but the list. -/
theorem State.insertEntry_eq (c : Chan) (o : Origin) (b : Bool) :
    s.insertEntry c o b = { s with standby := (s.insertEntry c o b).standby } := rfl

/-- Several pushes change nothing but the ring. -/
theorem State.pushAll_eq (l : List (NoticeKind × Option Nat × Nat × Nat)) :
    s.pushAll l = { s with ring := (s.pushAll l).ring } := by
  induction l generalizing s with
  | nil => rfl
  | cons x xs ih =>
    obtain ⟨k, j, a, b⟩ := x
    simp only [State.pushAll]
    rw [ih]
    rfl

/-! ### Answers and expiries -/

@[simp] theorem Answer.whole_summary (x : Status) (f : List Byte) : (Answer.whole s x f).summary = s.summary := rfl

/-- R132: the summary of a reply that is built before the slot and the Planner act is that of the state before them. -/
@[simp] theorem Answer.before_summary (t : State) (x : Status) (f : List Byte) :
    (Answer.before s t x f).summary = s.summary := rfl

@[simp] theorem Answer.before_state (t : State) (x : Status) (f : List Byte) : (Answer.before s t x f).state = t := rfl

/-- R148, R150: an idle timer's expiry is due exactly when it is RUNNING with count 0 in RUN. -/
theorem State.idleDue_iff (n : TimerIx) :
    s.idleDue n = true ↔ s.idle[n].state = .running ∧ s.idle[n].count = 0 ∧ s.disc.device = .run := by
  simp [State.idleDue, and_assoc]

/-- R107, R150: noting a forced SWITCH ON adds to the overtaken expiries those due of the timers that it reloads, and changes
nothing else. -/
theorem State.noteOvertaken_eq (c : Chan) (forced : Bool) :
    s.noteOvertaken c forced =
      { s with overtaken :=
          if forced && (s.crec c).active && (s.chan c).state = .waiting then
            s.overtaken ++ (allTimers.filter (s.overtakes c)).map fun n => (n, c)
          else s.overtaken } := by
  unfold State.noteOvertaken
  split <;> rfl

/-- R107: the channels that an overtaken expiry turns off. -/
theorem State.mem_overtakenMembers (n : TimerIx) (c : Chan) :
    c ∈ s.overtakenMembers n ↔
      (n, c) ∈ s.overtaken
        ∧ ((s.chan c).state = .starting ∨ ((s.chan c).state = .waiting ∧ ∃ e, s.entry? c = some e ∧ e.forced = true)) := by
  have h : c ∈ allChans := by revert c; decide
  simp [State.overtakenMembers, State.overtakenFinds, h, Option.any_eq_true]

end Sys2Proof.Machine
end

