-- ==== Sys2Proof/Laws/Planner.lean ====
section
/-!
SUPPORT. What the Planner and the Start Slot can touch: each of their operations changes the channels, the slot, the
Planner's timers, the list and the ring, and nothing else (`State.PlannerOnly`).
-/

namespace Sys2Proof.Machine

theorem State.PlannerOnly.refl (s : State) : s.PlannerOnly s := ⟨rfl, rfl, rfl, rfl, rfl, rfl, rfl, rfl, rfl, rfl, rfl, rfl, rfl⟩

theorem State.PlannerOnly.trans {s t u : State} (h : s.PlannerOnly t) (k : t.PlannerOnly u) : s.PlannerOnly u :=
  ⟨k.pending.trans h.pending, k.est.trans h.est, k.mail.trans h.mail, k.level.trans h.level, k.sag.trans h.sag,
    k.idle.trans h.idle, k.aux.trans h.aux, k.disc.trans h.disc, k.link.trans h.link, k.plan.trans h.plan,
    k.store.trans h.store, k.sys.trans h.sys, k.overtaken.trans h.overtaken⟩

variable (s : State)

/-! ### The operations they are built of -/

theorem plannerOnly_setChan (c : Chan) (ch : Channel) : s.PlannerOnly (s.setChan c ch) :=
  ⟨rfl, rfl, rfl, rfl, rfl, rfl, rfl, rfl, rfl, rfl, rfl, rfl, rfl⟩

theorem plannerOnly_setHolder (h : Option Chan) : s.PlannerOnly (s.setHolder h) :=
  ⟨rfl, rfl, rfl, rfl, rfl, rfl, rfl, rfl, rfl, rfl, rfl, rfl, rfl⟩

theorem plannerOnly_leaveWaiting (c : Chan) : s.PlannerOnly (s.leaveWaiting c) :=
  ⟨rfl, rfl, rfl, rfl, rfl, rfl, rfl, rfl, rfl, rfl, rfl, rfl, rfl⟩

theorem plannerOnly_setEntries (es : List Entry) : s.PlannerOnly (s.setEntries es) :=
  ⟨rfl, rfl, rfl, rfl, rfl, rfl, rfl, rfl, rfl, rfl, rfl, rfl, rfl⟩

theorem plannerOnly_push (k : NoticeKind) (j : Option Nat) (a b : Nat) : s.PlannerOnly (s.push k j a b) :=
  ⟨rfl, rfl, rfl, rfl, rfl, rfl, rfl, rfl, rfl, rfl, rfl, rfl, rfl⟩

theorem plannerOnly_planner (p : Planner) : s.PlannerOnly { s with planner := p } :=
  ⟨rfl, rfl, rfl, rfl, rfl, rfl, rfl, rfl, rfl, rfl, rfl, rfl, rfl⟩

theorem plannerOnly_slot (x : Slot) : s.PlannerOnly { s with slot := x } :=
  ⟨rfl, rfl, rfl, rfl, rfl, rfl, rfl, rfl, rfl, rfl, rfl, rfl, rfl⟩

theorem plannerOnly_releaseSlot (c : Chan) : s.PlannerOnly (s.releaseSlot c) := by
  rw [State.releaseSlot_eq]
  exact plannerOnly_slot s _

theorem plannerOnly_removeEntry (c : Chan) : s.PlannerOnly (s.removeEntry c) := by
  unfold State.removeEntry
  split
  · exact plannerOnly_setEntries s _
  · exact .refl s

theorem plannerOnly_insertEntry (c : Chan) (o : Origin) (b : Bool) : s.PlannerOnly (s.insertEntry c o b) :=
  plannerOnly_setEntries s _

theorem plannerOnly_forceEntry (c : Chan) : s.PlannerOnly (s.forceEntry c) := by
  unfold State.forceEntry
  split
  · exact .refl s
  · split
    · exact .refl s
    · exact plannerOnly_setEntries s _

theorem plannerOnly_releaseHeld : s.PlannerOnly s.releaseHeld := by
  unfold State.releaseHeld
  split
  · exact plannerOnly_setEntries s _
  · exact .refl s

/-! ### What happens to one channel -/

theorem plannerOnly_cutTo (c : Chan) (st : ChState) (r : Reason) : s.PlannerOnly (s.cutTo c st r) :=
  ((plannerOnly_setChan s c _).trans (plannerOnly_releaseSlot _ c)).trans (plannerOnly_leaveWaiting _ c)

theorem plannerOnly_cutToWaiting (c : Chan) (o : Origin) (r : Reason) : s.PlannerOnly (s.cutToWaiting c o r) :=
  (plannerOnly_cutTo s c .waiting r).trans (plannerOnly_insertEntry _ c o false)

theorem plannerOnly_enterRundown (c : Chan) (r : Reason) (i : Intent) : s.PlannerOnly (s.enterRundown c r i) :=
  plannerOnly_setChan s c _

theorem plannerOnly_endRundown (c : Chan) : s.PlannerOnly (s.endRundown c) := by
  unfold State.endRundown
  dsimp only
  split
  · exact plannerOnly_setChan s c _
  · exact (plannerOnly_setChan s c _).trans (plannerOnly_insertEntry _ c _ _)

theorem plannerOnly_shedChannel (c : Chan) (o : Origin) (r : Reason) (i : Intent) :
    s.PlannerOnly (s.shedChannel c o r i) := by
  unfold State.shedChannel
  split
  · exact plannerOnly_enterRundown s c r i
  · exact plannerOnly_cutToWaiting s c o r

theorem plannerOnly_trip (c : Chan) (r : Reason) : s.PlannerOnly (s.trip c r) := by
  unfold State.trip
  dsimp only
  split
  · exact ((plannerOnly_setChan s c _).trans (plannerOnly_releaseSlot _ c)).trans (plannerOnly_push _ _ _ _ _)
  · exact (((plannerOnly_setChan s c _).trans (plannerOnly_releaseSlot _ c)).trans (plannerOnly_push _ _ _ _ _)).trans
      (plannerOnly_push _ _ _ _ _)

theorem plannerOnly_startFromWaiting (c : Chan) : s.PlannerOnly (s.startFromWaiting c) :=
  ((plannerOnly_setChan s c _).trans (plannerOnly_setHolder _ _)).trans (plannerOnly_removeEntry _ c)

theorem plannerOnly_startFromRest (c : Chan) : s.PlannerOnly (s.startFromRest c) :=
  ((plannerOnly_setChan s c _).trans (plannerOnly_setHolder _ _)).trans (plannerOnly_leaveWaiting _ c)

theorem plannerOnly_startRun (c : Chan) : s.PlannerOnly (s.startRun c) :=
  ((plannerOnly_setChan s c _).trans (plannerOnly_setHolder _ _)).trans (plannerOnly_leaveWaiting _ c)

theorem plannerOnly_grantSlot (c : Chan) : s.PlannerOnly (s.grantSlot c) := by
  unfold State.grantSlot
  split
  · exact plannerOnly_startFromRest s c
  · exact plannerOnly_startRun s c

theorem plannerOnly_askSlot (c : Chan) : s.PlannerOnly (s.askSlot c) := by
  unfold State.askSlot
  split
  · exact plannerOnly_grantSlot s c
  · split
    · exact .refl s
    · exact plannerOnly_slot s _

theorem plannerOnly_endWindow (c : Chan) : s.PlannerOnly (s.endWindow c) :=
  (plannerOnly_setChan s c _).trans (plannerOnly_releaseSlot _ c)

theorem plannerOnly_throttle (c : Chan) : s.PlannerOnly (s.throttle c) := plannerOnly_setChan s c _

theorem plannerOnly_endRun (c : Chan) : s.PlannerOnly (s.endRun c) :=
  (plannerOnly_setChan s c _).trans (plannerOnly_releaseSlot _ c)

theorem plannerOnly_unthrottle (c : Chan) : s.PlannerOnly (s.unthrottle c) := by
  unfold State.unthrottle
  split
  · exact plannerOnly_setChan s c _
  · exact plannerOnly_startFromRest s c

theorem plannerOnly_editUnthrottle (c : Chan) : s.PlannerOnly (s.editUnthrottle c) := by
  unfold State.editUnthrottle
  dsimp only
  split
  · split
    · exact plannerOnly_setChan s c _
    · exact plannerOnly_setChan s c _
  · exact (plannerOnly_setChan s c _).trans (plannerOnly_askSlot _ c)

theorem plannerOnly_idleOff (c : Chan) : s.PlannerOnly (s.idleOff c) := by
  unfold State.idleOff
  split
  · split
    · exact plannerOnly_enterRundown s c _ _
    · exact plannerOnly_cutTo s c _ _
  all_goals first
    | exact plannerOnly_cutTo s c _ _
    | exact (plannerOnly_cutTo s c _ _).trans (plannerOnly_removeEntry _ c)
    | exact .refl s

theorem plannerOnly_switchOff (c : Chan) : s.PlannerOnly (s.switchOff c) := by
  unfold State.switchOff
  split
  · exact (plannerOnly_cutTo s c _ _).trans (plannerOnly_removeEntry _ c)
  · exact plannerOnly_cutTo s c _ _
  · split
    · exact plannerOnly_enterRundown s c _ _
    · exact plannerOnly_cutTo s c _ _
  all_goals first
    | exact plannerOnly_cutTo s c _ _
    | exact plannerOnly_setChan s c _
    | exact .refl s

/-! ### The Planner -/

theorem plannerOnly_shedStep (c : Chan) : s.PlannerOnly (s.shedStep c) := by
  unfold State.shedStep
  split
  · exact ((plannerOnly_throttle s c).trans (plannerOnly_push _ _ _ _ _)).trans (plannerOnly_planner _ _)
  · exact ((plannerOnly_shedChannel s c _ _ _).trans (plannerOnly_push _ _ _ _ _)).trans (plannerOnly_planner _ _)

theorem plannerOnly_endPass : s.PlannerOnly s.endPass := by
  unfold State.endPass
  split
  · exact (plannerOnly_push s _ _ _ _).trans (plannerOnly_planner _ _)
  · exact .refl s

theorem plannerOnly_shedPass (n : Nat) : s.PlannerOnly (s.shedPass n) := by
  induction n generalizing s with
  | zero => exact plannerOnly_endPass s
  | succ n ih =>
    unfold State.shedPass
    split
    · exact .refl s
    · split
      · exact plannerOnly_endPass s
      · exact (plannerOnly_shedStep s _).trans (ih _)

theorem plannerOnly_admitEntry (c : Chan) (k : Nat) : s.PlannerOnly (s.admitEntry c k) :=
  (plannerOnly_startFromWaiting s c).trans (plannerOnly_push _ _ _ _ _)

theorem plannerOnly_unthrottleChoice (c : Chan) : s.PlannerOnly (s.unthrottleChoice c) :=
  (plannerOnly_unthrottle s c).trans (plannerOnly_push _ _ _ _ _)

theorem plannerOnly_admission (n : Nat) : s.PlannerOnly (s.admission n) := by
  induction n generalizing s with
  | zero => exact .refl s
  | succ n ih =>
    unfold State.admission
    split
    · split
      · exact .refl s
      · split
        · split
          · exact plannerOnly_admitEntry s _ _
          · exact (plannerOnly_unthrottleChoice s _).trans (ih _)
        · split
          · exact .refl s
          · exact plannerOnly_admitEntry s _ _
    · exact .refl s

theorem plannerOnly_stageB (k : Call) : s.PlannerOnly (s.stageB k) := by
  unfold State.stageB
  split
  · split
    · exact plannerOnly_planner s _
    · split
      · exact .refl s
      · split
        · exact plannerOnly_shedPass s _
        · exact plannerOnly_planner s _
  all_goals exact (plannerOnly_planner s _).trans (plannerOnly_shedPass _ _)

theorem plannerOnly_stageC : s.PlannerOnly s.stageC := by
  unfold State.stageC
  split
  · exact plannerOnly_planner s _
  · exact .refl s

/-- R69: a re-evaluation touches what the Planner owns or acts on, and nothing else. -/
theorem plannerOnly_reevaluate (k : Call) : s.PlannerOnly (s.reevaluate k) := by
  unfold State.reevaluate
  split
  · exact ((plannerOnly_stageB s k).trans (plannerOnly_stageC _)).trans (plannerOnly_admission _ _)
  · exact .refl s

theorem plannerOnly_serveSlot : s.PlannerOnly s.serveSlot := by
  unfold State.serveSlot
  split
  · split
    · exact .refl s
    · exact plannerOnly_grantSlot s _
  · exact .refl s

theorem plannerOnly_settle (n : Nat) (need : Bool) : s.PlannerOnly (s.settle n need) := by
  induction n generalizing s need with
  | zero => exact .refl s
  | succ n ih =>
    unfold State.settle
    dsimp only
    split
    · split
      · exact ((plannerOnly_serveSlot s).trans (plannerOnly_reevaluate _ _)).trans (ih _ _)
      · exact (plannerOnly_serveSlot s).trans (plannerOnly_reevaluate _ _)
    · exact plannerOnly_serveSlot s

/-- R68, R88: what follows an event touches what the Planner owns or acts on, and nothing else. -/
theorem plannerOnly_finish (before : State) (tell : Bool) : s.PlannerOnly (before.finish s tell) :=
  plannerOnly_settle s _ _

/-- R77, R88, R89: the Start Slot acts after a re-evaluation exactly when that left the slot free and it was held before, or
the waiting set was not empty before and is now. -/
theorem slotActs_iff (before now : State) :
    slotActs before now = true ↔
      now.slot.holder = none
        ∧ (before.slot.holder ≠ none ∨ (before.slot.waiting ≠ [] ∧ now.slot.waiting = [])) := by
  simp only [slotActs, freed, emptiedFree, Bool.or_eq_true, Bool.and_eq_true, Option.isSome_iff_ne_none,
    Option.isNone_iff_eq_none, Bool.not_eq_true', List.isEmpty_iff, List.isEmpty_eq_false_iff]
  tauto

/-- R77: a re-evaluation that neither freed the slot nor emptied its waiting set is all that a call makes. -/
theorem State.reevaluateThen_of_quiet (k : Call) (h : slotActs s (s.reevaluate k) = false) :
    s.reevaluateThen k = s.reevaluate k := by
  unfold State.reevaluateThen
  dsimp only
  rw [h]
  rfl

theorem plannerOnly_reevaluateThen (k : Call) : s.PlannerOnly (s.reevaluateThen k) := by
  unfold State.reevaluateThen
  dsimp only
  split
  · exact (plannerOnly_reevaluate s k).trans (plannerOnly_settle _ _ _)
  · exact plannerOnly_reevaluate s k

theorem plannerOnly_tellLevelChange : s.PlannerOnly s.tellLevelChange := by
  unfold State.tellLevelChange
  split
  · exact ((plannerOnly_planner s _).trans (plannerOnly_planner _ _)).trans (plannerOnly_reevaluateThen _ _)
  · exact plannerOnly_planner s _

/-- R78: a sag shed touches what the Planner owns or acts on, and nothing else. -/
theorem plannerOnly_sagShed : s.PlannerOnly s.sagShed.1 := by
  unfold State.sagShed
  split
  · split
    · exact .refl s
    · exact ((plannerOnly_shedChannel s _ _ _ _).trans (plannerOnly_push _ _ _ _ _)).trans (plannerOnly_planner _ _)
  · exact .refl s

theorem plannerOnly_idleOffAll (l : List Chan) : s.PlannerOnly (s.idleOffAll l) := by
  induction l generalizing s with
  | nil => exact .refl s
  | cons c cs ih => exact (plannerOnly_idleOff s c).trans (ih _)

theorem plannerOnly_pushAll (l : List (NoticeKind × Option Nat × Nat × Nat)) : s.PlannerOnly (s.pushAll l) := by
  rw [State.pushAll_eq]
  exact ⟨rfl, rfl, rfl, rfl, rfl, rfl, rfl, rfl, rfl, rfl, rfl, rfl, rfl⟩

end Sys2Proof.Machine
end

