-- ==== Sys2Proof/Laws/Ring.lean ====
section
/-!
SUPPORT. The Notice Ring: what a push does to its length, its last notice and its lost flag (R183, R184).
-/

namespace Sys2Proof.Machine

/-- R183, R184: a push keeps the ring within thirty-two notices. -/
theorem Ring.push_length_le (g : Ring) (n : Notice) (h : g.notices.length ≤ 32) : (g.push n).notices.length ≤ 32 := by
  unfold Ring.push
  split
  · simp; omega
  · simp; omega

/-- R184: a push into a ring with room adds its notice at the tail and leaves the lost flag. -/
theorem Ring.push_of_room (g : Ring) (n : Notice) (h : g.notices.length < 32) :
    g.push n = ⟨g.notices ++ [n], g.lost⟩ := by
  unfold Ring.push
  rw [if_neg (by omega)]

/-- R184: a push into a full ring drops the head and sets the lost flag. -/
theorem Ring.push_of_full (g : Ring) (n : Notice) (h : 32 ≤ g.notices.length) :
    g.push n = ⟨g.notices.drop 1 ++ [n], true⟩ := by
  unfold Ring.push
  rw [if_pos h]

/-- The pushed notice is the newest. -/
theorem Ring.push_getLast? (g : Ring) (n : Notice) : (g.push n).notices.getLast? = some n := by
  unfold Ring.push
  split <;> simp

/-- Several pushes keep the ring within thirty-two notices. -/
theorem Ring.pushes_length_le (ns : List Notice) (g : Ring) (h : g.notices.length ≤ 32) :
    (ns.foldl Ring.push g).notices.length ≤ 32 := by
  induction ns generalizing g with
  | nil => exact h
  | cons n ns ih => exact ih _ (g.push_length_le n h)

/-- R184: several notices of one event are pushed in their order. -/
theorem State.pushAll_ring (s : State) (l : List (NoticeKind × Option Nat × Nat × Nat)) :
    (s.pushAll l).ring = (l.map fun x => s.notice x.1 x.2.1 x.2.2.1 x.2.2.2).foldl Ring.push s.ring := by
  induction l generalizing s with
  | nil => rfl
  | cons x xs ih =>
    obtain ⟨k, j, a, b⟩ := x
    simp only [State.pushAll, ih, List.map_cons, List.foldl_cons]
    rfl

/-- R185: NOTICES takes at most four notices from the head. -/
theorem Ring.taken_length (g : Ring) : g.taken.notices.length = g.notices.length - 4 := by simp [Ring.taken]

end Sys2Proof.Machine
end

