-- ==== Sys2Proof/Laws/Standby.lean ====
section
/-!
SUPPORT. The order of the Standby List (R96) and the placing of entries (R97): the order is total, transitive and asymmetric;
an entry placed in an ordered list leaves it ordered and adds nothing but itself.
-/

namespace Sys2Proof.Machine

variable (rank : Chan → Nat)

/-- R96, spelled out as a disjunction of its rows. -/
theorem Entry.before_iff (a b : Entry) :
    Entry.before rank a b = true ↔
      (a.forced = true ∧ b.forced = false)
        ∨ (a.forced = b.forced ∧ a.forced = true ∧ a.time < b.time)
        ∨ (a.forced = b.forced ∧ (a.forced = true → a.time = b.time)
            ∧ (rank b.channel < rank a.channel
              ∨ (rank a.channel = rank b.channel
                  ∧ (a.time < b.time ∨ (a.time = b.time ∧ a.channel < b.channel))))) := by
  unfold Entry.before Entry.rankBefore
  cases a.forced <;> cases b.forced <;> grind

/-- R96: the order is asymmetric. -/
theorem Entry.before_asymm (a b : Entry) (h : Entry.before rank a b = true) : Entry.before rank b a = false := by
  by_contra k
  rw [Bool.not_eq_false] at k
  rw [Entry.before_iff] at h k
  rcases h with h | h | h <;> rcases k with k | k | k <;> grind

/-- R96: two entries of different channels are told apart. -/
theorem Entry.before_total (a b : Entry) (h : a.channel ≠ b.channel) :
    Entry.before rank a b = true ∨ Entry.before rank b a = true := by
  rw [Entry.before_iff, Entry.before_iff]
  have := lt_or_gt_of_ne h
  cases a.forced <;> cases b.forced <;> grind

/-- R96: the order is transitive. -/
theorem Entry.before_trans (a b c : Entry) (h : Entry.before rank a b = true) (k : Entry.before rank b c = true) :
    Entry.before rank a c = true := by
  rw [Entry.before_iff] at h k ⊢
  revert h k
  cases a.forced <;> cases b.forced <;> cases c.forced <;> grind

/-- R97: placing an entry adds that entry and nothing else. -/
theorem placeEntry_perm (e : Entry) (l : List Entry) : (placeEntry rank e l).Perm (e :: l) := by
  induction l with
  | nil => exact List.Perm.refl _
  | cons x xs ih =>
    unfold placeEntry
    split
    · exact List.Perm.refl _
    · exact (ih.cons x).trans (List.Perm.swap e x xs)

/-- R97: an entry of a new channel placed in an ordered list leaves it ordered. -/
theorem placeEntry_ordered (e : Entry) (l : List Entry) (hn : ∀ x ∈ l, x.channel ≠ e.channel)
    (h : l.Pairwise (fun a b => Entry.before rank a b = true)) :
    (placeEntry rank e l).Pairwise (fun a b => Entry.before rank a b = true) := by
  induction l with
  | nil => simp [placeEntry]
  | cons x xs ih =>
    rw [List.pairwise_cons] at h
    unfold placeEntry
    split
    · rename_i hb
      rw [List.pairwise_cons, List.pairwise_cons]
      refine ⟨?_, h⟩
      intro y hy
      rcases List.mem_cons.mp hy with rfl | hy
      · exact hb
      · exact Entry.before_trans rank e x y hb (h.1 y hy)
    · rename_i hb
      have hxe : Entry.before rank x e = true :=
        (Entry.before_total rank x e (hn x (List.mem_cons_self ..))).resolve_right hb
      rw [List.pairwise_cons]
      refine ⟨?_, ih (fun y hy => hn y (List.mem_cons_of_mem _ hy)) h.2⟩
      intro y hy
      rcases List.mem_cons.mp ((placeEntry_perm rank e xs).mem_iff.mp hy) with rfl | hy
      · exact hxe
      · exact h.1 y hy

/-- R97: sorting adds and drops nothing. -/
theorem sortEntries_perm (l : List Entry) : (sortEntries rank l).Perm l := by
  induction l with
  | nil => exact List.Perm.refl _
  | cons x xs ih => exact (placeEntry_perm rank x _).trans (ih.cons x)

/-- R97: entries of different channels are left in the order of R96. -/
theorem sortEntries_ordered (l : List Entry) (h : (l.map (·.channel)).Nodup) :
    (sortEntries rank l).Pairwise (fun a b => Entry.before rank a b = true) := by
  induction l with
  | nil => simp [sortEntries]
  | cons x xs ih =>
    rw [List.map_cons, List.nodup_cons] at h
    refine placeEntry_ordered rank x _ ?_ (ih h.2)
    intro y hy e
    exact h.1 (e ▸ List.mem_map_of_mem ((sortEntries_perm rank xs).mem_iff.mp hy))

end Sys2Proof.Machine
end

