-- ==== Sys2Proof/Laws/Spared.lean ====
section
/-!
SUPPORT. What the Planner and the Start Slot leave alone: a channel that has no entry, does not wait for the slot, and is in
none of the states they act on (`Channel.leftAlone`) is as it was after a shed pass, an admission, a service of the slot and
all that follows an event (R72, R78, R81, R88).
-/

namespace Sys2Proof.Machine

variable (s : State) (d : Chan)

theorem State.unlisted_iff :
    s.Unlisted d ↔ (∀ e ∈ s.standby.entries, e.channel ≠ d) ∧ d ∉ s.slot.waiting := by
  simp [State.Unlisted, State.entry?, State.waitsForSlot, List.find?_eq_none]

/-- Channel `d` is as it was, and stays unlisted where it was. -/
structure State.Spared (s t : State) (d : Chan) : Prop where
  chan : t.chan d = s.chan d
  unlisted : s.Unlisted d → t.Unlisted d
  plan : t.plan = s.plan

theorem State.Spared.refl : s.Spared s d := ⟨rfl, id, rfl⟩

theorem State.Spared.trans {s t u : State} {d : Chan} (h : s.Spared t d) (k : t.Spared u d) : s.Spared u d :=
  ⟨k.chan.trans h.chan, k.unlisted ∘ h.unlisted, k.plan.trans h.plan⟩

theorem State.Spared.leftAlone {s t : State} {d : Chan} (h : s.Spared t d)
    (k : (s.chan d).leftAlone (s.rank d) = true) : (t.chan d).leftAlone (t.rank d) = true := by
  rw [h.chan, State.rank, State.crec, h.plan]
  exact k

/-! ### The operations on another channel -/

variable {s d} {c : Chan} (hc : d ≠ c)
include hc

theorem spared_setChan (ch : Channel) : s.Spared (s.setChan c ch) d :=
  ⟨State.chan_setChan_of_ne s c d ch hc, id, rfl⟩

omit hc in
theorem spared_releaseSlot : s.Spared (s.releaseSlot c) d := by
  unfold State.releaseSlot
  split
  · exact ⟨rfl, id, rfl⟩
  · exact .refl s d

omit hc in
theorem spared_leaveWaiting : s.Spared (s.leaveWaiting c) d :=
  ⟨rfl, fun h => by
    rw [State.unlisted_iff] at h ⊢
    exact ⟨h.1, fun k => h.2 (List.mem_of_mem_filter k)⟩, rfl⟩

omit hc in
theorem spared_setHolder (x : Option Chan) : s.Spared (s.setHolder x) d := ⟨rfl, id, rfl⟩

omit hc in
theorem spared_removeEntry : s.Spared (s.removeEntry c) d := by
  unfold State.removeEntry
  split
  · refine ⟨rfl, fun h => ?_, rfl⟩
    rw [State.unlisted_iff] at h ⊢
    exact ⟨fun e k => h.1 e (List.mem_of_mem_filter k), h.2⟩
  · exact .refl s d

theorem spared_insertEntry (o : Origin) (b : Bool) : s.Spared (s.insertEntry c o b) d := by
  refine ⟨rfl, fun h => ?_, rfl⟩
  rw [State.unlisted_iff] at h ⊢
  refine ⟨fun e k => ?_, h.2⟩
  have k' := (placeEntry_perm s.rank _ s.standby.entries).mem_iff.mp k
  rcases List.mem_cons.mp k' with rfl | m
  · exact hc.symm
  · exact h.1 e m

theorem spared_cutTo (st : ChState) (r : Reason) : s.Spared (s.cutTo c st r) d :=
  ((spared_setChan hc _).trans spared_releaseSlot).trans spared_leaveWaiting

theorem spared_shedChannel (o : Origin) (r : Reason) (i : Intent) : s.Spared (s.shedChannel c o r i) d := by
  unfold State.shedChannel
  split
  · exact spared_setChan hc _
  · exact (spared_cutTo hc _ _).trans (spared_insertEntry hc _ _)

theorem spared_startFromWaiting : s.Spared (s.startFromWaiting c) d :=
  ((spared_setChan hc _).trans (spared_setHolder _)).trans spared_removeEntry

theorem spared_startFromRest : s.Spared (s.startFromRest c) d :=
  ((spared_setChan hc _).trans (spared_setHolder _)).trans spared_leaveWaiting

theorem spared_grantSlot : s.Spared (s.grantSlot c) d := by
  unfold State.grantSlot
  split
  · exact spared_startFromRest hc
  · exact ((spared_setChan hc _).trans (spared_setHolder _)).trans spared_leaveWaiting

theorem spared_unthrottle : s.Spared (s.unthrottle c) d := by
  unfold State.unthrottle
  split
  · exact spared_setChan hc _
  · exact spared_startFromRest hc

theorem spared_shedStep : s.Spared (s.shedStep c) d := by
  unfold State.shedStep
  split
  · exact (spared_setChan hc _).trans ⟨rfl, id, rfl⟩
  · exact (spared_shedChannel hc _ _ _).trans ⟨rfl, id, rfl⟩

omit hc

/-! ### The choices never fall on a channel that is left alone -/

theorem pickFirst_mem (before : Chan → Chan → Bool) (l : List Chan) (c : Chan) (h : pickFirst before l = some c) :
    c ∈ l := by
  induction l generalizing c with
  | nil => simp [pickFirst] at h
  | cons x xs ih =>
    unfold pickFirst at h
    split at h
    · simp_all
    · rename_i y hy
      split at h
      · exact List.mem_cons_of_mem _ (ih c (by simpa [← h] using hy))
      · simp_all

theorem ne_of_shedCandidate (k : (s.chan d).leftAlone (s.rank d) = true) (h : s.shedCandidate = some c) : d ≠ c := by
  rintro rfl
  have m := (List.mem_filter.mp (pickFirst_mem _ _ _ h)).2
  unfold State.isShedCandidate at m
  unfold Channel.leftAlone at k
  cases hs : (s.chan d).state <;> simp_all

theorem ne_of_sagCandidate (k : (s.chan d).leftAlone (s.rank d) = true) (h : s.sagCandidate = some c) : d ≠ c := by
  rintro rfl
  have m := (List.mem_filter.mp (pickFirst_mem _ _ _ h)).2
  unfold State.isSagCandidate at m
  unfold Channel.leftAlone at k
  cases hs : (s.chan d).state <;> simp_all

theorem ne_of_bestThrottled (k : (s.chan d).leftAlone (s.rank d) = true) (h : s.bestThrottled = some c) : d ≠ c := by
  rintro rfl
  have m := (List.mem_filter.mp (pickFirst_mem _ _ _ h)).2
  unfold Channel.leftAlone at k
  cases hs : (s.chan d).state <;> simp_all

theorem ne_of_nextServed (u : s.Unlisted d) (h : s.nextServed = some c) : d ≠ c := by
  rintro rfl
  exact ((State.unlisted_iff s d).mp u).2 (pickFirst_mem _ _ _ h)

theorem ne_of_mem_unheld (u : s.Unlisted d) {e : Entry} (h : e ∈ s.unheld) : d ≠ e.channel :=
  fun k => ((State.unlisted_iff s d).mp u).1 e (List.mem_of_mem_filter h) k.symm

/-! ### What follows an event -/

variable (u : s.Unlisted d) (k : (s.chan d).leftAlone (s.rank d) = true)
include u k

omit u k in
theorem spared_endPass : s.Spared s.endPass d := by
  unfold State.endPass
  split
  · exact ⟨rfl, id, rfl⟩
  · exact .refl s d

theorem spared_shedPass (n : Nat) : s.Spared (s.shedPass n) d := by
  induction n generalizing s with
  | zero => exact spared_endPass
  | succ n ih =>
    unfold State.shedPass
    split
    · exact .refl s d
    · split
      · exact spared_endPass
      · rename_i c hc
        have h := spared_shedStep (s := s) (ne_of_shedCandidate k hc)
        exact h.trans (ih (h.unlisted u) (h.leftAlone k))

theorem spared_admission (n : Nat) : s.Spared (s.admission n) d := by
  induction n generalizing s with
  | zero => exact .refl s d
  | succ n ih =>
    unfold State.admission
    split
    · split
      · exact .refl s d
      · rename_i x hx
        split
        · split
          · rename_i e _
            have m : e ∈ s.unheld := by
              unfold State.firstChoice at hx
              split at hx <;> (try split at hx) <;> grind [List.mem_of_mem_head?]
            exact (spared_startFromWaiting (ne_of_mem_unheld u m)).trans ⟨rfl, id, rfl⟩
          · rename_i c _
            have m : s.bestThrottled = some c := by
              unfold State.firstChoice at hx
              split at hx <;> (try split at hx) <;> grind
            have h : s.Spared (s.unthrottleChoice c) d :=
              (spared_unthrottle (ne_of_bestThrottled k m)).trans ⟨rfl, id, rfl⟩
            exact h.trans (ih (h.unlisted u) (h.leftAlone k))
        · split
          · exact .refl s d
          · rename_i e he
            have m : e ∈ s.unheld := by
              have := List.mem_of_find?_eq_some he
              unfold State.behind at this
              split at this
              · exact List.mem_of_mem_drop this
              · exact this
            exact (spared_startFromWaiting (ne_of_mem_unheld u m)).trans ⟨rfl, id, rfl⟩
    · exact .refl s d

theorem spared_stageB (x : Call) : s.Spared (s.stageB x) d := by
  have stop : s.Spared s.stopExcess d := ⟨rfl, id, rfl⟩
  unfold State.stageB
  split
  · split
    · exact stop
    · split
      · exact .refl s d
      · split
        · exact spared_shedPass u k _
        · exact ⟨rfl, id, rfl⟩
  · exact stop.trans (spared_shedPass (stop.unlisted u) (stop.leftAlone k) _)
  · exact stop.trans (spared_shedPass (stop.unlisted u) (stop.leftAlone k) _)

theorem spared_reevaluate (x : Call) : s.Spared (s.reevaluate x) d := by
  unfold State.reevaluate
  split
  · have hb := spared_stageB u k x
    have hc : (s.stageB x).Spared (s.stageB x).stageC d := by
      unfold State.stageC
      split
      · exact ⟨rfl, id, rfl⟩
      · exact .refl _ d
    have h := hb.trans hc
    exact h.trans (spared_admission (h.unlisted u) (h.leftAlone k) _)
  · exact .refl s d

omit k in
theorem spared_serveSlot : s.Spared s.serveSlot d := by
  unfold State.serveSlot
  split
  · split
    · exact .refl s d
    · rename_i c hc
      exact spared_grantSlot (ne_of_nextServed u hc)
  · exact .refl s d

/-- All that follows an event leaves an unlisted channel that the Planner leaves alone as it was. -/
theorem spared_settle (n : Nat) (need : Bool) : s.Spared (s.settle n need) d := by
  induction n generalizing s need with
  | zero => exact .refl s d
  | succ n ih =>
    unfold State.settle
    dsimp only
    have h := spared_serveSlot u
    split
    · have h2 := h.trans (spared_reevaluate (h.unlisted u) (h.leftAlone k) .ordinary)
      split
      · exact h2.trans (ih (h2.unlisted u) (h2.leftAlone k) _)
      · exact h2
    · exact h

theorem spared_reevaluateThen (x : Call) : s.Spared (s.reevaluateThen x) d := by
  unfold State.reevaluateThen
  dsimp only
  have h := spared_reevaluate u k x
  split
  · exact h.trans (spared_settle (h.unlisted u) (h.leftAlone k) _ _)
  · exact h

theorem spared_tellLevelChange : s.Spared s.tellLevelChange d := by
  unfold State.tellLevelChange
  split
  · have h : s.Spared s.startQuiet.stopExcess d := ⟨rfl, id, rfl⟩
    exact h.trans (spared_reevaluateThen (h.unlisted u) (h.leftAlone k) _)
  · exact ⟨rfl, id, rfl⟩

omit u in
theorem spared_sagShed : s.Spared s.sagShed.1 d := by
  unfold State.sagShed
  split
  · split
    · exact .refl s d
    · rename_i c hc
      exact (spared_shedChannel (ne_of_sagCandidate k hc) _ _ _).trans ⟨rfl, id, rfl⟩
  · exact .refl s d

end Sys2Proof.Machine
end

