-- ==== Sys2Proof/Tests/Slice0.lean ====
section
/-!
SUPPORT. Tests: the ill-formed terms that WellFormed refuses, the manual's worked examples, and for every statement with
hypotheses a state and operands that meet them, clause by clause (`test_meets_…`). Expected results are the manual's.
-/

namespace Sys2Proof.Tests

open Sys2Proof.Machine

/-! ### States and operands of the tests -/

/-- A record in use, of rank 2 and demand 300 cA. -/
def used : ChannelRec := { factoryChannel with active := true, rank := 2, demand := 300 }

/-- A part in RUN under the factory plan with every channel in use, the link IDLE, an idle timer and two inputs set up. -/
def ready : State :=
  { State.reset with
    est := { State.reset.est with startSyncDue := false }
    level := { State.reset.level with firstTaken := true }
    disc := { State.reset.disc with device := .run, pulse := none }
    link := ⟨.idle, [], none, .none⟩
    ring := ⟨[], false⟩
    idle := State.reset.idle.set 0 ⟨.running, 5⟩
    plan :=
      { State.reset.plan with
        channels := Vector.replicate 16 used
        timers := State.reset.plan.timers.set 0 ⟨true, 0xFFFF, 0x3F, 60⟩
        aux := #v[⟨.activity, .both⟩, ⟨.wake, .rise⟩, ⟨.wake, .fall⟩, ⟨.none, .rise⟩] } }

/-- A channel in a state, all else as after POWER_ON. -/
def inState (x : ChState) : Channel := { Channel.initial with state := x }

/-- `ready` with channel 3 as given. -/
def withChan (ch : Channel) : State := ready.setChan 3 ch

/-- `ready` with another record for channel 3, and its state. -/
def withRec (r : ChannelRec) (ch : Channel) : State :=
  { (withChan ch) with plan := { ready.plan with channels := ready.plan.channels.set 3 r } }

/-- `ready` with another Disconnect Unit. -/
def withDisc (d : Disconnect) : State := { ready with disc := d }

/-- `ready` isolated for low voltage. -/
def cut : Disconnect := { ready.disc with device := .isolated, reason := .lowVoltage, lastPulse := .openRelay }

/-- `ready` with one published update waiting and the level's state as given. -/
def withUpdate (u : ReserveUpdate) (l : LevelCtl) : State :=
  { ready with mail := ⟨[u], [u], [u.vb]⟩, level := l }

/-- `ready` with another Sag Monitor and one raw voltage waiting. -/
def withSag (g : SagMon) (vb : Nat) : State := { ready with sag := g, mail := ⟨[], [], [vb]⟩ }

/-- The Sag Monitor in a sag state. -/
def sagIn (x : SagState) (high pend : Bool) : SagMon :=
  { SagMon.initial with
    high := high, state := x, releasePending := pend
    tolerance := if x = .sagging ∨ x = .sagShedding then some ⟨2000, 1⟩ else none
    recovery := if x = .recovering then some ⟨30000, 1⟩ else none }

/-- A user's panel, and the installer's with SERVICE asserted. -/
def user : Peer := ⟨0, 7, false⟩

/-- The installer's panel. -/
def installer : Peer := ⟨7, 255, true⟩

/-! ### WellFormed refuses -/

theorem test_refuses_battery_voltage : Instr.wf (.batterySample 40001 0) = false := by decide

theorem test_refuses_battery_current : Instr.wf (.restSync 12000 (-30001)) = false := by decide

theorem test_refuses_valid_temperature : Instr.wf (.temperatureSample 86 true) = false := by decide

theorem test_refuses_channel_sample : Instr.wf (.channelSample 0 2501) = false := by decide

theorem test_refuses_long_body : Instr.wf (.status user (List.replicate 57 0)) = false := by decide

theorem test_refuses_long_switch : Instr.wf (.switchOn user 0 0 (List.replicate 55 0)) = false := by decide

theorem test_refuses_known_type : Instr.wf (.unknownTypeRequest user 0x10 []) = false := by decide

theorem test_refuses_frame_start : Instr.wf (.frameRejected [0xC2, 1, 0x40, 0, 1, 0, 0, 0]) = false := by decide

theorem test_refuses_frame_length : Instr.wf (.frameRejected [0xC3, 1, 0x40, 0, 1, 1, 0, 0]) = false := by decide

/-! ### The manual's worked examples -/

/-- R8: at −5 °C with k 8 the derate is 800. -/
theorem test_derate : derate 8 (-5) = 800 ∧ derate 20 (-40) = 500 ∧ derate 5 20 = 1000 := by decide

/-- R12: the table of compensated voltages. -/
theorem test_compensated :
    compensated { factoryBattery .v12 .lead with rInt := 25 } 12900 (-837) = 13109
      ∧ compensated { factoryBattery .v12 .lead with rInt := 25 } 12900 837 = 12691
      ∧ compensated { factoryBattery .v12 .lead with rInt := 200 } 100 30000 = 0 := by decide

/-- R13: OCV(13333) = 832 and OCV(12999) = 99 on the factory lithium table. -/
theorem test_ocv_lookup :
    ocvLookup (factoryOcv .v12 .lithium) 13333 = 832 ∧ ocvLookup (factoryOcv .v12 .lithium) 12999 = 99 := by decide

/-- R20: a requested reserve of 650 at Q_use 288,000,000 makes Q 187,200,000. -/
theorem test_manual_sync :
    (State.manualSync { ready with est := { ready.est with qUse := 288000000 } } 650).est.q = 187200000 := by decide

/-- R31: R 520 and V_c 12650 on the factory lithium table demand level 5, by voltage. -/
theorem test_demanded_depth :
    (factoryLevels .v12 .lithium).deepOf ⟨520, 12650, 12650, 0⟩ = 5
      ∧ (factoryLevels .v12 .lithium).deepByReserve ⟨520, 12650, 12650, 0⟩ = false := by decide

/-- R165 (09 section 9.2): the check bytes of the example frame. -/
theorem test_frame_check : frameOf 1 0x40 7 1 [] = [0xC3, 1, 0x40, 7, 1, 0, 0x63, 0x60] := by decide +kernel

/-- R168: that frame reads as a STATUS request of panel 0 with tag 7. -/
theorem test_frame_parses :
    (parseFrame [0xC3, 1, 0x40, 7, 1, 0, 0x63, 0x60]).any (fun f => f.checkPasses && f.src = 0x40 && f.ty = 1) := by decide +kernel

/-- R184: a push into a full ring drops the head and sets the lost flag. -/
theorem test_full_ring :
    Ring.push ⟨List.replicate 32 ⟨.reset, 0, none, 1, 1⟩, false⟩ ⟨.saved, 9, none, 0, 0⟩
      = ⟨List.replicate 31 ⟨.reset, 0, none, 1, 1⟩ ++ [⟨.saved, 9, none, 0, 0⟩], true⟩ := by decide

/-- R96: a forced entry first, then the higher rank, then the earlier entry, then the lower number. -/
theorem test_list_order :
    (sortEntries (fun c => if c = 9 then 5 else 2)
      [⟨4, .shed, false, false, 7⟩, ⟨2, .shed, false, false, 7⟩, ⟨9, .shed, false, false, 8⟩, ⟨1, .sag, true, false, 9⟩]).map
        (·.channel) = [1, 9, 2, 4] := by decide

/-- R178: the cause code, and R171: the summary 0x0B of level 3 in RUN with no notice. -/
theorem test_summary : State.summary { ready with level := { ready.level with current := 3 } } = 0x0B := by decide

/-- R133, R190: the generation after 65534 is 0. -/
theorem test_generation : nextGeneration 65534 = 0 := by decide

/-- R132: the reply to a SWITCH ON that is admitted at once is built before that: QUEUED, no new notice, position 1. -/
theorem test_switch_on_reply_is_built_first :
    replyBody (switchOnChannel ready 3 false) = [1, 0x08, 1]
      ∧ (switchOnChannel ready 3 false).state.slot.holder = some 3
      ∧ (switchOnChannel ready 3 false).state.ring.notices ≠ [] := by decide +kernel

/-- R47: a battery sample in ISOLATED hands the comparator nothing, and an isolation drops what it has not taken. -/
theorem test_isolation_hides_samples :
    ((withDisc cut).takeBatterySample 11000 0).mail.sag = []
      ∧ (ready.takeBatterySample 11000 0).mail.sag = [11000]
      ∧ (State.isolateBlocks { ready with mail := ⟨[], [], [11000]⟩ }).mail.sag = [] := by decide +kernel

/-- R194: the label is not among the rules of an image. -/
theorem test_stored_label_is_not_judged :
    validRecord { used with label := List.replicate 13 65 } = true
      ∧ validChannel { used with label := List.replicate 13 65 } = false := by decide

/-- R144, R198: a millisecond that ends a second moves uptime and the running idle count by one. -/
theorem test_second :
    (State.tick { ready with sys := { ready.sys with msec := 999 } }).sys.uptime = 1
      ∧ (State.tick { ready with sys := { ready.sys with msec := 999 } }).idle[0].count = 4 := by decide

/-! ### States that meet the hypotheses of the statements: the machine -/

theorem test_meets_StepRunsTheFrontCommand :
    (ready.withPending [.reserveUpdate, .gapTimerExpiry]).pending = .reserveUpdate :: [.gapTimerExpiry] := rfl

theorem test_meets_EmptyQueue :
    ready.UptimeOk ∧ ready.pending = [] ∧ State.UptimeOk { ready with sys := { ready.sys with msec := 999, uptime := uptimeMax } } := by
  decide

theorem test_meets_CommandsLeaveTheQueue :
    exec .gapTimerExpiry State.reset = .next { State.reset with link := ⟨.idle, [], none, .none⟩ } := rfl

/-- Every invariant holds of a part in RUN with a channel ON, and its step answers a next state. -/
theorem test_meets_invariants :
    (withChan (inState .on)).PlanOk ∧ (withChan (inState .on)).EstimatorOk ∧ (withChan (inState .on)).RingOk
      ∧ (withChan (inState .on)).LinkOk ∧ (withChan (inState .on)).SagOk ∧ (withChan (inState .on)).LevelOk
      ∧ (withChan (inState .on)).IdleOk ∧ step (withChan (inState .on)) = .next (withChan (inState .on)).tick :=
  ⟨by decide, by decide, by decide, by decide, by decide, by decide, by decide, rfl⟩

/-- A receiver with the given bytes in its buffer. -/
def receiving (bytes : List Byte) : State := { ready with link := ⟨.receiving, bytes, some ⟨10, 9⟩, .none⟩ }

/-- R166: sixty-three bytes are the most a buffer holds, and only under a length byte of 56. -/
theorem test_link_ok_bounds :
    (receiving ([0xC3, 1, 0x40, 7, 1, 56] ++ List.replicate 57 0)).LinkOk
      ∧ ¬(receiving ([0xC3, 1, 0x40, 7, 1, 255] ++ List.replicate 57 0)).LinkOk
      ∧ ¬(receiving [0xC3, 1, 0x40, 7, 1, 0, 0, 0]).LinkOk := by decide

/-- R47: in ISOLATED no voltage waits for the comparator. -/
theorem test_sag_ok_isolated :
    (withDisc cut).SagOk ∧ ¬State.SagOk { withDisc cut with mail := ⟨[], [], [13000]⟩ } := by decide

theorem test_meets_coherent_invariants : (withChan (inState .on)).Coherent :=
  ⟨by decide, by decide, by decide, by decide, by decide⟩

theorem test_meets_OnlyEditsAndResetsChangeThePlan :
    Instr.wf (.powerOnReset ⟨1, .v24, .lead⟩ false) = true
      ∧ exec (.powerOnReset ⟨1, .v24, .lead⟩ false) ready = .next (ready.powerOn ⟨1, .v24, .lead⟩ false)
      ∧ (ready.powerOn ⟨1, .v24, .lead⟩ false).plan ≠ ready.plan := ⟨rfl, rfl, by decide⟩

theorem test_meets_OnlyTheDisconnectUnitChangesTheDevice :
    Instr.wf (.powerOnReset ⟨1, .v12, .lithium⟩ false) = true
      ∧ exec (.powerOnReset ⟨1, .v12, .lithium⟩ false) ready = .next (ready.powerOn ⟨1, .v12, .lithium⟩ false)
      ∧ (ready.powerOn ⟨1, .v12, .lithium⟩ false).disc.device ≠ ready.disc.device := ⟨rfl, rfl, by decide⟩

theorem test_meets_ShedPassEndsTheExcess : ready.isShedCandidate 3 = false := by decide

theorem test_meets_FrameBytesMakeTheRequest :
    ready.link.rx = .idle ∧ ready.link.buffer = [] ∧ ready.sys.restartPending = false
      ∧ (List.replicate 56 (0 : Byte)).length ≤ 56 := by decide

/-! ### The link and its refusals -/

theorem test_meets_ReplyIsSentAndTheLineRests :
    (State.link { ready with link := ⟨.hold, [], none, .pending [1]⟩ }).reply = .pending [1]
      ∧ (State.link { ready with link := ⟨.hold, [], none, .sending [1]⟩ }).reply = .sending [1]
      ∧ (State.reset.link.gap.isSome = true ∧ State.reset.link.rx = .skip)
      ∧ (State.link { ready with link := ⟨.hold, [], some ⟨10, 1⟩, .pending []⟩ }).gap.isSome = true := by decide

theorem test_meets_BytesAndRejectedFramesMoveTheReceiver :
    ready.link.rx = .idle ∧ State.reset.link.rx = .skip
      ∧ (State.link { ready with link := ⟨.hold, [], none, .pending [1]⟩ }).rx = .hold
      ∧ (receiving [0xC3, 1, 2, 3]).link.buffer.length < 5
      ∧ ((receiving [0xC3, 1, 2, 3, 4]).link.buffer.length = 5 ∧ (receiving [0xC3, 1, 2, 3, 4]).link.rx = .receiving
        ∧ 56 < (57 : Byte).toNat ∧ ¬56 < (56 : Byte).toNat)
      ∧ (6 ≤ (receiving [0xC3, 1, 0x40, 7, 1, 0]).link.buffer.length
        ∧ (receiving [0xC3, 1, 0x40, 7, 1, 0]).link.buffer.length + 1
          < 8 + ((receiving [0xC3, 1, 0x40, 7, 1, 0]).link.buffer.getD 5 0).toNat)
      ∧ (parseFrame ((receiving [0xC3, 1, 0x40, 7, 1, 0, 0x63]).link.buffer ++ [0x61])).any (fun f => !f.checkPasses)
      ∧ (parseFrame ((receiving [0xC3, 1, 0x40, 7, 1, 0, 0x63]).link.buffer ++ [0x60])).any (fun f => f.checkPasses)
      ∧ (parseFrame [0xC3, 1, 0x40, 7, 1, 0, 0x63, 0x61]).any (fun f => !f.checkPasses)
      ∧ (parseFrame (frameOf 2 0x40 7 1 [])).any (fun f => f.dst ≠ linkAddress ready.sys.straps)
      ∧ (parseFrame (frameOf 1 0x3F 7 1 [])).any (fun f => f.src.toNat < 0x40)
      ∧ (parseFrame (frameOf 1 0x48 7 1 [])).any (fun f => 0x47 < f.src.toNat) := by decide +kernel

theorem test_meets_ReadingRequestsAnswer :
    ready.Serves ∧ ([] : List Byte).length ≤ 54 ∧ (1 : Nat) ≤ 1 ∧ (16 : Nat) ≤ 16 := by decide

theorem test_meets_NoticesTakesFour :
    ready.Listens ∧ ready.disc.device ≠ .start
      ∧ State.Listens { ready with disc := State.reset.disc } ∧ State.reset.disc.device = .start := by decide

/-- `ready` in START, and under the plan lock. -/
def starting : State := { ready with disc := State.reset.disc }

/-- `ready` under the plan lock. -/
def locked : State := { ready with plan := { ready.plan with lock := true } }

theorem test_meets_RefusedRequests :
    (ready.Listens ∧ ready.disc.device ≠ .start ∧ typeUnknown 0x2D = true)
      ∧ (starting.Listens ∧ starting.disc.device = .start)
      ∧ ((.channel user [], 0x02) ∈ userRequests user [] ∧ ([] : List Byte).length < minimumBody 0x02)
      ∧ ((.setAux user [0, 0], 0x25) ∈ installerRequests user [0, 0] ∧ ([0, 0] : List Byte).length < minimumBody 0x25)
      ∧ ((.isolate user [], 0x29) ∈ installerRequests user [] ∧ minimumBody 0x29 ≤ ([] : List Byte).length)
      ∧ ((.setCharge user [0, 0], 0x28) ∈ installerRequests user [0, 0] ∧ minimumBody 0x28 ≤ ([0, 0] : List Byte).length)
      ∧ (user.service = false ∧ installer.service = true ∧ locked.plan.lock = true ∧ locked.Listens
        ∧ (.save installer [], 0x2A) ∈ installerRequests installer [])
      ∧ (15 < (16 : Byte).toNat ∧ ¬15 < (15 : Byte).toNat ∧ 1 < (2 : BitVec 7).toNat ∧ ¬1 < (1 : BitVec 7).toNat
        ∧ 7 < (8 : Byte).toNat ∧ 3 < (4 : Byte).toNat ∧ 5 < (6 : Byte).toNat ∧ 16 < (17 : Byte).toNat)
      ∧ (ready.Admits installer ∧ ready.Passes 65535) := by decide

theorem test_meets_StaleEdit :
    ready.Admits installer ∧ (1 : Nat) ≠ ready.plan.generation ∧ (1 : Nat) < 65535 := by decide

theorem test_meets_SwitchOn :
    (ready.crec 3).active = true ∧ ready.disc.device = .run ∧ (ready.chan 3).state = .off ∧ ready.Unlisted 3
      ∧ ((withChan (inState .waiting)).insertEntry 3 .shed false).entry? 3 = some ⟨3, .shed, false, false, 0⟩
      ∧ ((withChan (inState .waiting)).insertEntry 3 .shed false).SlotQuiet
      ∧ (((withChan (inState .waiting)).insertEntry 3 .shed false).chan 3).state = .waiting
      ∧ ((withChan (inState .starting)).chan 3).state = .starting
      ∧ ((withChan { inState .rundown with intent := .waitShed }).chan 3).intent ≠ .off
      ∧ ((withChan { inState .rundown with intent := .off }).chan 3).intent = .off
      ∧ ((withRec factoryChannel Channel.initial).crec 3).active = false ∧ (withDisc cut).disc.device = .isolated
      ∧ (1 : BitVec 7).toNat ≤ 1 := by decide

theorem test_meets_SwitchOff :
    ready.Serves
      ∧ (((withRec { used with rundownTimeout := 1 } (inState .on)).chan 3).state = .on
        ∧ ((withRec { used with rundownTimeout := 1 } (inState .on)).crec 3).rundownTimeout ≠ 0
        ∧ (withRec { used with rundownTimeout := 1 } (inState .on)).Unlisted 3)
      ∧ ((withChan (inState .on)).crec 3).rundownTimeout = 0
      ∧ (((withChan (inState .waiting)).insertEntry 3 .shed false).chan 3).state = .waiting
      ∧ ((withChan (inState .throttled)).entry? 3 = none)
      ∧ (withChan (inState .rundown)).Unlisted 3 ∧ (withChan (inState .tripped)).Unlisted 3
      ∧ ready.SlotQuiet := by decide

theorem test_meets_ClearLockoutAndCheck :
    ((withChan (inState .locked)).chan 3).state = .locked ∧ (ready.chan 3).state ≠ .locked
      ∧ ((ready.crec 3).active = true ∧ (ready.chan 3).state = .off ∧ ready.disc.device = .run)
      ∧ ¬(((withChan (inState .locked)).chan 3).state = .off) ∧ (withChan (inState .locked)).Serves := by decide

theorem test_meets_Reconnect :
    State.reset.disc.device = .start ∧ State.reset.disc.pulse.isSome = true ∧ (ready.disc.pulse = none ∧ ready.Listens)
      ∧ ((withDisc { cut with vc := 12399 }).disc.vc < ready.plan.battery.vCut + ready.plan.battery.reconnectMargin
        ∧ (withDisc { cut with vc := 12399 }).disc.i ≤ 0)
      ∧ ready.plan.battery.vCut + ready.plan.battery.reconnectMargin ≤ (withDisc { cut with vc := 12400 }).disc.vc
      ∧ 0 < (withDisc { cut with i := 1 }).disc.i ∧ (withDisc cut).Listens := by decide

theorem test_meets_IsolateRequest :
    (State.Listens { ready with disc := State.reset.disc } ∧ installer.service = true)
      ∧ (ready.disc.device = .run ∧ ready.disc.pulse = none)
      ∧ (withDisc { ready.disc with pulse := some (.closeRelay, 1) }).disc.pulse.isSome = true
      ∧ (withDisc cut).disc.device = .isolated := by decide

/-- The fields after SET_CHANNEL's index that clear the active field, and those that keep it. -/
def inactiveBody : List Byte := [0]

theorem test_meets_SetChannel :
    ready.Admits installer ∧ ready.Passes 65535 ∧ ready.Passes 0
      ∧ (channelFromBody (ready.crec 3) [1]).any (fun raw => raw.valid && !deactivates (ready.crec 3) raw.fields)
      ∧ (channelFromBody (ready.crec 3) inactiveBody).any (fun raw => raw.valid && deactivates (ready.crec 3) raw.fields)
      ∧ ((withChan (inState .locked)).chan 3).state = .locked ∧ ((withChan (inState .on)).chan 3).state ≠ .off
      ∧ (channelFromBody (ready.crec 3) [2]).any (fun raw => !raw.valid) ∧ ready.Unlisted 3
      ∧ (ready.chan 3).leftAlone (ready.rank 3) = true ∧ (channelFromBody (ready.crec 3) [1, 2, 3]).isNone
      ∧ 15 < (16 : Byte).toNat := by decide

theorem test_meets_SetLevel :
    ready.Admits installer
      ∧ (levelsFromBody ready.plan.levels 7 (u16 0)).any (fun t => validLevels ready.sys.straps.vsys t)
      ∧ (levelsFromBody ready.plan.levels 7 (u16 1000)).any (fun t => !validLevels ready.sys.straps.vsys t) := by decide

theorem test_meets_SetBatteryAndSetOcv :
    ready.Admits installer
      ∧ (batteryFromBody ready.plan.battery (u16 1000)).any
        (fun b => validBattery ready.sys.straps.vsys b && b.cNom ≠ ready.plan.battery.cNom)
      ∧ (batteryFromBody ready.plan.battery (u16 100 ++ u16 900)).any (fun b => validBattery ready.sys.straps.vsys b
          && b.cNom = ready.plan.battery.cNom && b.k = ready.plan.battery.k)
      ∧ (batteryFromBody ready.plan.battery (u16 9)).any (fun b => !validBattery ready.sys.straps.vsys b)
      ∧ (ocvFromBody ready.plan.ocv (u16 12000 ++ u16 10)).any (fun t => validOcv ready.sys.straps.vsys t)
      ∧ (ocvFromBody ready.plan.ocv (u16 12800 ++ u16 10)).any (fun t => !validOcv ready.sys.straps.vsys t) := by decide

theorem test_meets_SetTimerAndSetAux :
    ready.Admits installer
      ∧ (timerFromBody ready.plan.timers[1] [1]).any (fun raw => raw.valid)
      ∧ (timerFromBody ready.plan.timers[1] [0, 0, 0, 64]).any (fun raw => !raw.valid)
      ∧ (auxFromBody ready.plan.aux[1] [2, 2]).isSome ∧ (auxFromBody ready.plan.aux[1] [3]).isNone := by decide

theorem test_meets_SetChargeAndClearCauses : ready.Admits installer ∧ (65535 : Nat) < 65536 ∧ ready.Serves := by decide

theorem test_meets_SaveLockAndTheStoreWrite :
    ready.Admits installer ∧ ready.store.writing = none
      ∧ (State.store { ready with store := ⟨.badCheck, some ready.plan⟩ }).writing.isSome = true := by decide

/-! ### Resets -/

theorem test_meets_RestartFollowsItsReply :
    (ready.Serves ∧ installer.service = true ∧ ready.store.writing = none)
      ∧ (State.sys { ready with sys := { ready.sys with restartPending := true } }).restartPending = true
      ∧ ready.link.reply = .none
      ∧ ¬((State.plan State.reset).channels[3].rank = 0) ∧ (ready.chan 3).leftAlone 0 = true ∧ ready.Unlisted 3 := by decide

/-- R139: an image with channel 3 essential and active keeps that channel. -/
theorem test_meets_RestartKeeps :
    (loadPlan (.plan { factoryPlan .v12 .lithium with
        channels := (Vector.replicate 16 factoryChannel).set 3 { used with rank := 0 } }) ready.sys.straps).plan.keeps 3
      = true := by decide

/-! ### The Reserve Estimator -/

theorem test_meets_BatterySamples :
    (ready.est.restMade = true ∨ ready.est.restTimer + 1 < ready.plan.battery.restTime * 600)
      ∧ ready.est.tailTimer + 1 < ready.plan.battery.tailTime * 10 ∧ ready.est.emptyTimer + 1 < 100
      ∧ ready.est.startSyncDue = false ∧ State.reset.est.startSyncDue = true
      ∧ batteryInRange 0 (-30000) = true ∧ batteryInRange 40000 30000 = true := by decide

/-- `ready` one sample before a rest sync, a full anchor or an empty anchor: its timers one short of their ends. -/
def atTheEdge (rest tail empty : Nat) : State :=
  { ready with
    est :=
      { ready.est with
        restTimer := rest, tailTimer := tail, emptyTimer := empty, fullArm := true, emptyArm := true } }

theorem test_meets_RestSync :
    ((atTheEdge 17999 1198 98).est.startSyncDue = false ∧ (-30 : Int).natAbs ≤ (atTheEdge 17999 1198 98).plan.battery.restCurrent
      ∧ (atTheEdge 17999 1198 98).est.restMade = false
      ∧ (atTheEdge 17999 1198 98).plan.battery.restTime * 600 ≤ (atTheEdge 17999 1198 98).est.restTimer + 1
      ∧ (atTheEdge 17999 1198 98).est.tailTimer + 1 < (atTheEdge 17999 1198 98).plan.battery.tailTime * 10
      ∧ (atTheEdge 17999 1198 98).est.emptyTimer + 1 < 100 ∧ batteryInRange 13000 (-30) = true) := by decide

theorem test_meets_Anchors :
    ((atTheEdge 0 1199 98).est.fullArm = true ∧ (200 : Int) ≤ ((atTheEdge 0 1199 98).plan.battery.tailCurrent : Int)
        ∧ (atTheEdge 0 1199 98).plan.battery.vFull ≤ (14000 : Int).toNat
        ∧ (atTheEdge 0 1199 98).plan.battery.tailTime * 10 ≤ (atTheEdge 0 1199 98).est.tailTimer + 1
        ∧ (atTheEdge 0 1199 98).est.emptyTimer + 1 < 100
        ∧ (atTheEdge 0 1199 98).est.restTimer + 1 < (atTheEdge 0 1199 98).plan.battery.restTime * 600)
      ∧ ((atTheEdge 0 0 99).est.emptyArm = true ∧ 99 ≤ (atTheEdge 0 0 99).est.emptyTimer
        ∧ compensated (atTheEdge 0 0 99).plan.battery (12200 : Int).toNat 0 ≤ (atTheEdge 0 0 99).plan.battery.vEmpty
        ∧ (atTheEdge 0 0 99).est.tailTimer + 1 < (atTheEdge 0 0 99).plan.battery.tailTime * 10
        ∧ (atTheEdge 0 0 99).est.startSyncDue = false) := by decide

theorem test_meets_Temperature :
    temperatureInRange (-40) true = true ∧ temperatureInRange 85 true = true ∧ (-41 : Int) < -40 ∧ (85 : Int) < 86 := by
  decide

theorem test_meets_OcvLookup :
    validOcv .v12 (factoryOcv .v12 .lithium) = true ∧ (factoryOcv .v12 .lithium)[0].v = 12000
      ∧ (factoryOcv .v12 .lithium)[7].v = 13500 := by decide

/-! ### The Level Controller and the Sag Monitor -/

/-- An update at reserve `r`, at rest at 13 V. -/
def reserve (r : Nat) : ReserveUpdate := ⟨r, 13000, 13000, 0⟩

theorem test_meets_ReserveUpdates :
    (ready.level.current < ready.plan.levels.deepOf (reserve 700) ∧ ready.level.pending ≠ .deepen
        ∧ 0 < ready.plan.levels.settings.enterDwell ∧ 48 + 1 < ready.plan.levels.settings.enterDwell * 10)
      ∧ (ready.plan.levels.deepOf (reserve 800) ≤ 1 ∧ ready.plan.levels.eases (reserve 800) 1 = true
        ∧ 0 < ready.plan.levels.settings.leaveDwell ∧ 1198 + 1 < ready.plan.levels.settings.leaveDwell * 10)
      ∧ ready.plan.levels.eases (reserve 799) 1 = false ∧ (withDisc cut).disc.device ≠ .run
      ∧ (withUpdate (reserve 700) ready.level).mail.level = reserve 700 :: [] ∧ ready.level.firstTaken = true := by decide

/-- One update before the end of a deepening dwell from level 0, and of an easing dwell from level 1. -/
def dwellEnds (pend : Pending) (current : Level) (count r : Nat) : State :=
  withUpdate (reserve r) { ready.level with current := current, pending := pend, count := count }

theorem test_meets_CompletedDwells :
    ((dwellEnds .deepen 0 49 700).mail.level = reserve 700 :: [] ∧ (dwellEnds .deepen 0 49 700).level.firstTaken = true
        ∧ (dwellEnds .deepen 0 49 700).disc.device = .run
        ∧ (dwellEnds .deepen 0 49 700).level.current < (dwellEnds .deepen 0 49 700).plan.levels.deepOf (reserve 700)
        ∧ (dwellEnds .deepen 0 49 700).level.pending = .deepen
        ∧ (dwellEnds .deepen 0 49 700).plan.levels.settings.enterDwell * 10 ≤ (dwellEnds .deepen 0 49 700).level.count + 1)
      ∧ ((dwellEnds .ease 1 1199 800).plan.levels.deepOf (reserve 800) ≤ (dwellEnds .ease 1 1199 800).level.current
        ∧ (dwellEnds .ease 1 1199 800).level.current ≠ 0 ∧ (dwellEnds .ease 1 1199 800).level.pending = .ease
        ∧ (dwellEnds .ease 1 1199 800).plan.levels.eases (reserve 800) (dwellEnds .ease 1 1199 800).level.current = true
        ∧ (dwellEnds .ease 1 1199 800).plan.levels.settings.leaveDwell * 10
          ≤ (dwellEnds .ease 1 1199 800).level.count + 1)
      ∧ ((dwellEnds .none 0 0 700).level.pending ≠ .deepen
        ∧ ({ ready.plan.levels.settings with enterDwell := 0 } : LevelSettings).enterDwell * 10 ≤ 0) := by decide

/-- R34: with enter dwell 0 the update that starts a deepening completes it. -/
theorem test_enter_dwell_zero :
    (State.deepening { ready with plan := { ready.plan with levels :=
        { ready.plan.levels with settings := { ready.plan.levels.settings with enterDwell := 0 } } } } 0 1 true).level.current
      = 1 := by decide +kernel

theorem test_meets_FirstUpdate :
    State.reset.level.firstTaken = false ∧ State.reset.disc.device = .start
      ∧ ready.plan.levels.deepOf (reserve 700) ≠ State.reset.level.current
      ∧ ready.plan.levels.deepOf (reserve 701) = State.reset.level.current ∧ ready.disc.device = .run
      ∧ cut.device = .isolated := by decide

theorem test_meets_SagComparator :
    ((withSag (sagIn .clear true false) 11499).sag.high = true ∧ 11499 < ready.plan.battery.vSag)
      ∧ ((withSag (sagIn .recovering true true) 11499).sag.state = .recovering)
      ∧ ready.plan.battery.vSag ≤ 11500 ∧ 11800 ≤ ready.plan.battery.vSag + ready.plan.battery.hs
      ∧ ((withSag (sagIn .sagShedding false true) 11801).sag.high = false
        ∧ ready.plan.battery.vSag + ready.plan.battery.hs < 11801)
      ∧ (withSag (sagIn .sagging false false) 11801).mail.sag = 11801 :: [] ∧ cut.device = .isolated := by decide

theorem test_meets_SagTimers :
    (State.sagCandidate { (withChan (inState .on)) with sag := sagIn .sagging false false } = some 3
        ∧ (withChan (inState .on)).Unlisted 3 ∧ (sagIn .sagging false false).tolerance.isSome = true)
      ∧ (sagIn .sagShedding false true).releasePending = true
      ∧ State.sagCandidate { ready with sag := sagIn .sagShedding false true } = none
      ∧ (sagIn .recovering true true).recovery.isSome = true := by decide

/-! ### Channels, the Planner and the slot -/

theorem test_meets_CandidatesFollowTheShedOrder :
    ((withChan (inState .on)).setChan 5 (inState .on)).shedCandidate = some 5
      ∧ ((withChan (inState .on)).setChan 5 (inState .on)).sagCandidate = some 5
      ∧ ((withChan (inState .throttled)).setChan 5 (inState .throttled)).bestThrottled = some 3
      ∧ State.nextServed { ready with slot := ⟨none, [4, 3]⟩ } = some 4 := by decide

theorem test_meets_ChannelSamples :
    (ready.chan 3).closed = false ∧ ready.SlotQuiet
      ∧ ((withChan (inState .on)).chan 3).inrush ≠ .untilSample ∧ (withChan (inState .on)).Unlisted 3
      ∧ (withChan (inState .on)).plan.levels.settings.excessDwell ≠ 0 ∧ 500 ≤ ((withChan (inState .on)).crec 3).tripLimit
      ∧ ((withChan { inState .on with ocStreak := 4 }).chan 3).closed = true
      ∧ 4 ≤ ((withChan { inState .on with ocStreak := 4 }).chan 3).ocStreak
      ∧ ((withChan (inState .on)).crec 3).tripLimit < 501 := by decide

/-- R117, R120: the fifth sample above the limit at a channel whose retries are used up locks it. -/
theorem test_fifth_sample_locks :
    ((withChan { inState .on with ocStreak := 4, retryCount := 2 }).trip 3 .trip).ring.notices.map (fun n => (n.kind, n.a))
        = [(.trip, 1), (.lockout, 3)]
      ∧ (((withChan { inState .on with ocStreak := 4, retryCount := 2 }).trip 3 .trip).chan 3).state = .locked := by decide

/-- A STARTING channel whose window runs by time, or until its sample, agrees with its state. -/
theorem test_meets_WindowsEnd :
    (withChan { inState .starting with inrush := .timed ⟨500, 0⟩ }).ChannelsOk
      ∧ (withChan { inState .starting with inrush := .untilSample }).ChannelsOk := ⟨by decide, by decide⟩

theorem test_meets_RundownsAndWindowsEnd :
    ((withChan { inState .rundown with intent := .off, rundownTimer := some ⟨5000, 0⟩ }).Unlisted 3)
      ∧ Intent.origin? .off = none ∧ Intent.origin? .waitSag = some .sag
      ∧ 19 < ((withChan (inState .rundown)).crec 3).doneCurrent ∧ 19 ≤ ((withChan (inState .rundown)).crec 3).tripLimit
      ∧ ((withChan { inState .rundown with intent := .waitSag, doneStreak := 1 }).chan 3).doneStreak ≠ 0
      ∧ ((withChan { inState .starting with inrush := .timed ⟨500, 0⟩ }).chan 3).inrush = .timed ⟨500, 0⟩
      ∧ ((withChan { inState .starting with inrush := .untilSample }).chan 3).inrush = .untilSample
      ∧ 900 ≤ ((withChan (inState .starting)).crec 3).surgeLimit ∧ ready.plan.levels.settings.excessDwell ≠ 0 := by decide

theorem test_meets_RetriesGoodRunsAndChecks :
    (((withChan { inState .tripped with retryTimer := some ⟨10000, 0⟩ }).chan 3).retryTimer.isSome = true
        ∧ (withChan { inState .tripped with retryTimer := some ⟨10000, 0⟩ }).Unlisted 3)
      ∧ ((withChan { inState .on with goodRun := some ⟨60000, 0⟩ }).chan 3).goodRun.isSome = true
      ∧ ((withChan { inState .checking with checkTimer := some ⟨500, 0⟩ }).chan 3).checkTimer.isSome = true := by decide

/-- A channel in a REST and in a RUN phase whose timer is at its end. -/
def resting : Channel := { inState .throttled with phase := .rest, offTimer := some ⟨60000, 0⟩ }

/-- The RUN phase. -/
def running : Channel := { inState .throttled with phase := .run, onTimer := some ⟨60000, 0⟩ }

theorem test_meets_ThrottlePhasesTurn :
    (((withChan resting).chan 3).offTimer.isSome = true ∧ (withChan resting).slot = ⟨none, []⟩
        ∧ (withChan resting).sag.state = .clear)
      ∧ ((State.slot { (withChan resting) with slot := ⟨some 1, [2]⟩ }).waiting.contains 3 = false)
      ∧ (((withChan running).chan 3).onTimer.isSome = true ∧ (withChan running).slot.holder ≠ some 3
        ∧ (withChan running).SlotQuiet)
      ∧ (State.slot { (withChan running) with slot := ⟨some 3, [2]⟩ }).holder = some 3
      ∧ (ready.startQuiet.planner.restoreQuiet.isSome = true) ∧ ready.plan.levels.settings.excessDwell ≠ 0 := by decide

/-- A record that permits throttling, for the edits of throttled channels. -/
def throttles : ChannelRec := { used with throttle := true }

/-- R61, R63: an edit of the rank alone is valid and keeps the channel active; it moves a WAITING channel's entry, and rank 0
unthrottles a THROTTLED channel in each of its four cases. -/
theorem test_meets_SetChannel_live :
    (channelFromBody throttles [1, 0]).any (fun raw => raw.valid && !deactivates throttles raw.fields
        && raw.fields.rank = 0 && throttles.rank ≠ 0)
      ∧ (((withRec throttles running).startQuiet.planner.restoreQuiet.isSome = true)
        ∧ (withRec throttles running).plan.levels.settings.excessDwell ≠ 0)
      ∧ (((withRec throttles running).chan 3).phase = .run ∧ ((withRec throttles running).chan 3).inrush.isOpen = false
        ∧ (withRec throttles running).waitsForSlot 3 = false)
      ∧ (((withRec throttles { running with inrush := .untilSample }).chan 3).inrush.isOpen = true
        ∧ (State.slot { (withRec throttles running) with slot := ⟨some 3, []⟩ }).holder = some 3)
      ∧ (((withRec throttles resting).chan 3).phase = .rest ∧ (withRec throttles resting).slot = ⟨none, []⟩
        ∧ (withRec throttles resting).sag.state = .clear)
      ∧ ((State.slot { (withRec throttles resting) with slot := ⟨some 1, []⟩ }).holder ≠ none
        ∧ (sagIn .sagging false false).state = .sagging) := by decide

/-- `ready` at the deepest level, its ceiling 200 cA, with channel 3 ON at 201 cA and both Planner timers running. -/
def overD : State :=
  { (withChan { inState .on with m := 201 }) with
    level := { ready.level with current := 7 }, planner := ⟨some ⟨3000, 0⟩, some ⟨10000, 0⟩, false⟩ }

theorem test_meets_ExcessTimerSheds :
    (overD.planner.excess.isSome = true ∧ overD.disc.device = .run)
      ∧ (overD.ceiling < overD.totalP ∧ overD.shedCandidate = some 3 ∧ overD.slot.holder = none)
      ∧ (overD.setChan 3 { inState .on with m := 200 }).totalP ≤ overD.ceiling
      ∧ ((overD.setChan 3 { inState .throttled with phase := .run }).chan 3).state = .throttled
      ∧ State.shedCandidate
          { overD with plan := { overD.plan with channels := Vector.replicate 16 { used with rank := 0 } } } = none := by
  decide

/-- `ready` with channels 3 (300 cA) and 4 (50 cA) waiting, under a ceiling of `d`. -/
def waitingTwo (d : Nat) : State :=
  { ready with
    chans := (ready.chans.set 3 (inState .waiting)).set 4 (inState .waiting)
    standby := ⟨[⟨3, .request, false, false, 0⟩, ⟨4, .request, false, false, 0⟩], 0⟩
    planner := ⟨none, some ⟨10000, 0⟩, false⟩
    plan :=
      { ready.plan with
        channels := ready.plan.channels.set 4 { used with demand := 50 }
        levels := { ready.plan.levels with recs := ready.plan.levels.recs.set 0 ⟨0, 0, 0, d⟩ } } }

theorem test_meets_RestoreQuietAdmits :
    ((waitingTwo 500).totalP + ((waitingTwo 500).crec 3).demand + (waitingTwo 500).plan.levels.settings.margin
        ≤ (waitingTwo 500).ceiling ∧ (waitingTwo 500).totalP ≤ (waitingTwo 500).ceiling)
      ∧ ((waitingTwo 499).ceiling < (waitingTwo 499).totalP + ((waitingTwo 499).crec 3).demand
          + (waitingTwo 499).plan.levels.settings.margin
        ∧ ((waitingTwo 499).crec 4).demand ≤ (waitingTwo 499).plan.levels.settings.passLimit
        ∧ (waitingTwo 499).totalP + ((waitingTwo 499).crec 4).demand + (waitingTwo 499).plan.levels.settings.margin
          ≤ (waitingTwo 499).ceiling)
      ∧ (waitingTwo 100).ceiling < (waitingTwo 100).totalP + ((waitingTwo 100).crec 4).demand
          + (waitingTwo 100).plan.levels.settings.margin
      ∧ (∀ c : Chan, ((waitingTwo 500).chan c).state ≠ .throttled) ∧ (waitingTwo 500).slot = ⟨none, []⟩ := by decide

/-- R80 to R84: the restore-quiet timer's end admits the first entry that fits, or passes by to the second. -/
theorem test_restore_quiet_passes_by :
    (((waitingTwo 499).settle settleRounds true).slot.holder = none)
      ∧ ((State.settle settleRounds true
          { (waitingTwo 499) with planner := ⟨none, none, false⟩ }).slot.holder = some 4)
      ∧ ((State.settle settleRounds true
          { (waitingTwo 500) with planner := ⟨none, none, false⟩ }).slot.holder = some 3) := by decide

/-- `ready` under a ceiling of 500 cA with channel 3 THROTTLED at 100 cA, as `ch` says. -/
def throttledAt (ch : Channel) : State :=
  { (withRec { throttles with demand := 50 } { ch with m := 100 }) with
    planner := ⟨none, some ⟨10000, 0⟩, false⟩
    plan :=
      { (withRec { throttles with demand := 50 } ch).plan with
        levels := { ready.plan.levels with recs := ready.plan.levels.recs.set 0 ⟨0, 0, 0, 500⟩ } } }

/-- Channel 4 waits beside it with an entry of the same rank. -/
def besideWaiting (s : State) : State := (s.setChan 4 (inState .waiting)).insertEntry 4 .request false

theorem test_meets_RestoreQuietUnthrottles :
    ((throttledAt resting).bestThrottled = some 3 ∧ (throttledAt resting).planner.restoreQuiet.isSome = true
        ∧ (throttledAt resting).totalP ≤ (throttledAt resting).ceiling ∧ ((throttledAt resting).chan 3).phase ≠ .run
        ∧ (throttledAt resting).totalP + (((throttledAt resting).crec 3).demand - (throttledAt resting).accounted 3)
            + (throttledAt resting).plan.levels.settings.margin ≤ (throttledAt resting).ceiling)
      ∧ ((throttledAt running).bestThrottled = some 3 ∧ ((throttledAt running).chan 3).phase = .run
        ∧ (throttledAt running).entry? 3 = none)
      ∧ ((besideWaiting (throttledAt resting)).standby.entries.filter (fun x => !x.held)
          = [⟨4, .request, false, false, 0⟩]
        ∧ (besideWaiting (throttledAt resting)).rank 4 ≤ (besideWaiting (throttledAt resting)).rank 3) := by decide

/-- `throttledAt` with a demand of channel 3 that does not fit, and a demand `d` of channel 4. -/
def tooLarge (d : Nat) : State :=
  { besideWaiting (throttledAt resting) with
    plan :=
      { (throttledAt resting).plan with
        channels := ((throttledAt resting).plan.channels.set 3 { throttles with demand := 400 }).set 4
          { used with demand := d } } }

/-- R82, R83: behind it an entry at the pass limit may pass by, and one above it may not. -/
theorem test_meets_RestoreQuietPassesByAThrottledChoice :
    (tooLarge 50).bestThrottled = some 3
      ∧ (tooLarge 50).ceiling < (tooLarge 50).totalP + (((tooLarge 50).crec 3).demand - (tooLarge 50).accounted 3)
          + (tooLarge 50).plan.levels.settings.margin
      ∧ ((tooLarge 50).standby.entries.filter (fun x => !x.held)).find? (tooLarge 50).mayPass
        = some ⟨4, .request, false, false, 0⟩
      ∧ (∀ f ∈ (tooLarge 51).standby.entries, f.held = false → (tooLarge 51).mayPass f = false)
      ∧ (tooLarge 51).ceiling < (tooLarge 51).totalP + (((tooLarge 51).crec 3).demand - (tooLarge 51).accounted 3)
          + (tooLarge 51).plan.levels.settings.margin := by decide

/-- R68, R89: a pass that sheds the last channel waiting for a free slot is followed by a re-evaluation, which starts the
excess timer while P is still above D. -/
theorem test_emptied_waiting_set_reevaluates :
    ((State.reevaluateThen
        { (withRec throttles { inState .throttled with phase := .rest, unthrottlePending := true, m := 100 }) with
          chans := (ready.chans.set 3 { inState .throttled with phase := .rest, m := 100 }).set 5 { inState .on with m := 900 }
          slot := ⟨none, [3]⟩
          sag := sagIn .sagging false false
          level := { ready.level with current := 7 }
          plan := { ready.plan with channels := (Vector.replicate 16 used).set 5 { used with rank := 0 } } } .expiry).planner.excess)
      = some ⟨3000, 3000⟩ := by decide +kernel

/-! ### Idle timers, inputs, the Disconnect Unit -/

/-- `ready` with idle timer 0 RUNNING at count 0. -/
def dueTimer : State := { ready with idle := ready.idle.set 0 ⟨.running, 0⟩ }

/-- `dueTimer` with channel 3, a member of timer 0, WAITING behind a sag that keeps it there. -/
def dueWaiting : State :=
  { (State.insertEntry { (withChan (inState .waiting)) with sag := sagIn .sagging false false } 3 .shed false) with
    idle := dueTimer.idle }

/-- `dueWaiting` after the forced SWITCH ON that overtakes the expiry. -/
def afterForced : State := (ownSwitch [3, 3] dueWaiting).state

theorem test_meets_overtaken :
    dueWaiting.overtakenBy 3 true = [(0, 3)] ∧ dueWaiting.overtakenBy 3 false = []
      ∧ ((0, 3) ∈ afterForced.overtaken ∧ afterForced.disc.device = .run ∧ afterForced.idle[0].count ≠ 0
        ∧ (afterForced.chan 3).state = .waiting ∧ afterForced.entry? 3 = some ⟨3, .shed, true, false, 0⟩)
      ∧ (∀ c : Chan, (0, c) ∉ ready.overtaken) := by decide +kernel

/-- `afterForced` after the expiry that the request overtook. -/
def afterOvertaken : State :=
  match exec (.idleTimerExpiry 0) afterForced with
  | .next t => t
  | .fault _ => afterForced
  | .refused _ => afterForced

/-- R107 row 1, R150: that expiry removes the forced entry, the channel OFF with reason IDLE, and the timer stays reloaded. -/
theorem test_overtaken_expiry_takes_the_entry :
    (afterOvertaken.chan 3).state = .off ∧ (afterOvertaken.chan 3).reason = .idle ∧ afterOvertaken.standby.entries = []
      ∧ afterOvertaken.idle[0] = ⟨.running, 3600⟩ ∧ afterOvertaken.overtaken = [] := by decide +kernel

/-- R150: an expiry commanded when the count has been reloaded is no event. -/
theorem test_reloaded_timer_does_not_expire : exec (.idleTimerExpiry 0) ready = .next ready := rfl

theorem test_meets_IdleTimer :
    (dueTimer.idle[0].state = .running ∧ dueTimer.idle[0].count = 0 ∧ dueTimer.disc.device = .run
        ∧ dueTimer.plan.timers[0].isMember 3 = true)
      ∧ ready.idle[1].state ≠ .running ∧ ready.idle[0].count ≠ 0
      ∧ ((withRec { used with rundownTimeout := 1 } (inState .on)).crec 3).rundownTimeout ≠ 0
      ∧ ((withChan (inState .on)).entry? 3 = none ∧ (withChan (inState .on)).Unlisted 3)
      ∧ (ready.chan 3).leftAlone (ready.rank 3) = true := by decide

/-- `ready` with the inputs' raw levels HIGH and their debounced levels LOW, every period running. -/
def edges : State := { ready with aux := Vector.replicate 4 ⟨true, some false, some ⟨50, 0⟩⟩ }

theorem test_meets_AuxInputs :
    true ≠ ready.aux[0].raw ∧ (ready.aux[0].stability.isSome = true ∧ ready.aux[0].level = none)
      ∧ (edges.aux[1].rawChange false).stability = none
      ∧ (edges.aux[0].level = some (!edges.aux[0].raw) ∧ edges.plan.aux[0].edge = .both ∧ edges.plan.aux[0].role = .activity)
      ∧ edges.plan.aux[3].role = .none ∧ (edges.plan.aux[2].edge = .fall ∧ edges.aux[2].raw = true)
      ∧ (edges.plan.aux[1].role = .wake ∧ edges.disc.device ≠ .isolated)
      ∧ (cut.device = .isolated ∧ cut.pulse = none ∧ cut.vc < ready.plan.battery.vCut + ready.plan.battery.reconnectMargin
        ∧ cut.i ≤ 0)
      ∧ ready.plan.battery.vCut + ready.plan.battery.reconnectMargin ≤ 12400 := by decide

theorem test_meets_DisconnectUpdates :
    (State.reset.disc.device = .start ∧ State.reset.disc.pulse.isSome = true)
      ∧ ((State.disc { State.reset with disc := { State.reset.disc with pulse := none } }).device = .start)
      ∧ ready.level.current ≠ 7
      ∧ ((overD.level.current = 7 ∧ 12000 ≤ ready.plan.battery.vCut) ∧ 298 + 1 < ready.plan.battery.isolateDwell * 10
        ∧ ready.plan.battery.isolateDwell * 10 ≤ 299 + 1)
      ∧ (cut.reason ≠ .storage ∧ (ready.plan.battery.reconnectCharge : Int) ≤ 200 ∧ 598 + 1 < 600 ∧ 600 ≤ 599 + 1)
      ∧ (199 : Int) < (ready.plan.battery.reconnectCharge : Int)
      ∧ (State.disc { State.reset with disc := { State.reset.disc with entryPending := true } }).entryPending = true
      ∧ (withUpdate (reserve 0) overD.level).mail.disconnect = reserve 0 :: [] := by decide

end Sys2Proof.Tests
end

section
/-!
PROOF. The OCV lookup (R13): what the two ordering tests of R14 say of a valid table, one segment's interpolation, and the
lookup over the whole table.
-/

namespace Sys2Proof.Machine

/-! ### A valid table (R14) -/

/-- R14: the first test says that the values rise strictly, all along the list. -/
theorem strictlyRising_iff (l : List Nat) : strictlyRising l = true ↔ l.Pairwise (· < ·) := by
  rw [← List.isChain_iff_pairwise]
  induction l with
  | nil => simp [strictlyRising]
  | cons a l ih =>
    cases l with
    | nil => simp [strictlyRising]
    | cons b l => simp [strictlyRising, ih]

/-- R14: the second test says that the values never fall, all along the list. -/
theorem neverFalling_iff (l : List Nat) : neverFalling l = true ↔ l.Pairwise (· ≤ ·) := by
  rw [← List.isChain_iff_pairwise]
  induction l with
  | nil => simp [neverFalling]
  | cons a l ih =>
    cases l with
    | nil => simp [neverFalling]
    | cons b l => simp [neverFalling, ih]

/-- R14: the order of two points of a table: the voltage rises, the reserve does not fall. -/
def OcvPoint.Precedes (p q : OcvPoint) : Prop := p.v < q.v ∧ p.r ≤ q.r

/-- R14: each point of a valid table precedes every later one. -/
theorem pairwise_precedes_of_validOcv {v : SystemVoltage} {t : Vector OcvPoint 8} (h : validOcv v t = true) :
    t.toList.Pairwise OcvPoint.Precedes := by
  simp only [validOcv, Bool.and_eq_true, strictlyRising_iff, neverFalling_iff, List.pairwise_map] at h
  obtain ⟨⟨-, hv⟩, hr⟩ := h
  exact hv.and hr

/-- R14: no reserve of a valid table is above 1000. -/
theorem r_le_of_validOcv {v : SystemVoltage} {t : Vector OcvPoint 8} (h : validOcv v t = true) :
    ∀ p ∈ t.toList, p.r ≤ 1000 := by
  simp only [validOcv, Bool.and_eq_true, List.all_eq_true, decide_eq_true_eq] at h
  obtain ⟨⟨hp, -⟩, -⟩ := h
  exact fun p hm => (hp p hm).2

/-- R14: the voltages of a valid table rise with the index. -/
theorem voltage_strictMono_of_validOcv {v : SystemVoltage} {t : Vector OcvPoint 8} (h : validOcv v t = true) :
    StrictMono fun n : Fin 8 => t[n].v := by
  intro n k hnk
  have hp := List.pairwise_iff_getElem.1 (pairwise_precedes_of_validOcv h) n k (by simp) (by simp) hnk
  simpa using hp.1

/-! ### One segment -/

/-- R13: the reserve between `p` and `q`, linear in the voltage and rounded down. -/
def OcvPoint.interpolate (p q : OcvPoint) (x : Nat) : Nat := p.r + (x - p.v) * (q.r - p.r) / (q.v - p.v)

theorem OcvPoint.le_interpolate (p q : OcvPoint) (x : Nat) : p.r ≤ p.interpolate q x := Nat.le_add_right _ _

theorem OcvPoint.interpolate_le {p q : OcvPoint} (h : p.Precedes q) {x : Nat} (hx : x ≤ q.v) :
    p.interpolate q x ≤ q.r := by
  obtain ⟨-, hr⟩ := h
  have hstep : (x - p.v) * (q.r - p.r) / (q.v - p.v) ≤ q.r - p.r :=
    Nat.div_le_of_le_mul (Nat.mul_le_mul_right _ (Nat.sub_le_sub_right hx _))
  unfold OcvPoint.interpolate
  omega

theorem OcvPoint.interpolate_mono (p q : OcvPoint) : Monotone (p.interpolate q) := fun _ _ hxy =>
  Nat.add_le_add_left (Nat.div_le_div_right (Nat.mul_le_mul_right _ (Nat.sub_le_sub_right hxy _))) _

/-! ### A list of points -/

theorem ocvSegment_of_lt {p q : OcvPoint} {x : Nat} (rest : List OcvPoint) (h : x < q.v) :
    ocvSegment x (p :: q :: rest) = p.interpolate q x := if_pos h

theorem ocvSegment_of_le {p q : OcvPoint} {x : Nat} (rest : List OcvPoint) (h : q.v ≤ x) :
    ocvSegment x (p :: q :: rest) = ocvSegment x (q :: rest) := if_neg (Nat.not_lt.2 h)

/-- R13: from the last voltage on, the last reserve. -/
theorem ocvSegment_of_last_le {x : Nat} {l : List OcvPoint} (hl : l ≠ []) (h : ∀ p ∈ l, p.v ≤ x) :
    ocvSegment x l = (l.getLast hl).r := by
  induction l with
  | nil => exact absurd rfl hl
  | cons p l ih =>
    cases l with
    | nil => rfl
    | cons q rest =>
      rw [ocvSegment_of_le rest (h q (by simp)), ih (by simp) fun a ha => h a (by simp [ha]),
        List.getLast_cons (List.cons_ne_nil q rest)]

/-- R13: in segment `n` the reserve is that segment's interpolation. -/
theorem ocvSegment_eq_interpolate {x : Nat} {l : List OcvPoint} (hl : l.Pairwise OcvPoint.Precedes) (n : Nat)
    (hn : n + 1 < l.length) (hlo : l[n].v ≤ x) (hhi : x < l[n + 1].v) :
    ocvSegment x l = l[n].interpolate l[n + 1] x := by
  induction l generalizing n with
  | nil => simp at hn
  | cons p l ih =>
    cases l with
    | nil => simp at hn
    | cons q rest =>
      cases n with
      | zero => exact ocvSegment_of_lt rest hhi
      | succ n =>
        have hq : q.v ≤ x := by
          cases n with
          | zero => exact hlo
          | succ n => exact (List.rel_of_pairwise_cons hl.of_cons (List.getElem_mem _)).1.le.trans hlo
        rw [ocvSegment_of_le rest hq]
        exact ih hl.of_cons n (by simpa using hn) hlo hhi

/-- R13: on points in order the reserve is at least the first one. -/
theorem le_ocvSegment {p : OcvPoint} {l : List OcvPoint} (hl : (p :: l).Pairwise OcvPoint.Precedes) (x : Nat) :
    p.r ≤ ocvSegment x (p :: l) := by
  induction l generalizing p with
  | nil => exact le_rfl
  | cons q rest ih =>
    obtain hx | hx := lt_or_ge x q.v
    · rw [ocvSegment_of_lt rest hx]
      exact p.le_interpolate q x
    · rw [ocvSegment_of_le rest hx]
      exact (List.rel_of_pairwise_cons hl (by simp)).2.trans (ih hl.of_cons)

/-- R13: on points in order the reserve is at most any bound of theirs. -/
theorem ocvSegment_le {x B : Nat} {l : List OcvPoint} (hl : l.Pairwise OcvPoint.Precedes) (hB : ∀ p ∈ l, p.r ≤ B) :
    ocvSegment x l ≤ B := by
  induction l with
  | nil => exact B.zero_le
  | cons p l ih =>
    cases l with
    | nil => exact hB p (by simp)
    | cons q rest =>
      obtain hx | hx := lt_or_ge x q.v
      · rw [ocvSegment_of_lt rest hx]
        exact (OcvPoint.interpolate_le (List.rel_of_pairwise_cons hl (by simp)) hx.le).trans (hB q (by simp))
      · rw [ocvSegment_of_le rest hx]
        exact ih hl.of_cons fun a ha => hB a (by simp [ha])

/-- R13: on points in order the reserve never falls as the voltage rises. -/
theorem ocvSegment_mono {l : List OcvPoint} (hl : l.Pairwise OcvPoint.Precedes) : Monotone fun x => ocvSegment x l := by
  intro x y hxy
  induction l with
  | nil => exact le_rfl
  | cons p l ih =>
    cases l with
    | nil => exact le_rfl
    | cons q rest =>
      dsimp only
      obtain hy | hy := lt_or_ge y q.v
      · rw [ocvSegment_of_lt rest hy, ocvSegment_of_lt rest (hxy.trans_lt hy)]
        exact p.interpolate_mono q hxy
      · rw [ocvSegment_of_le rest hy]
        obtain hx | hx := lt_or_ge x q.v
        · rw [ocvSegment_of_lt rest hx]
          exact (OcvPoint.interpolate_le (List.rel_of_pairwise_cons hl (by simp)) hx.le).trans (le_ocvSegment hl.of_cons y)
        · rw [ocvSegment_of_le rest hx]
          exact ih hl.of_cons

/-! ### The segments of a rising sequence -/

/-- A value from the first of a sequence up to its last lies between two neighbours. -/
theorem exists_between_neighbours {m : Nat} (f : Fin (m + 1) → Nat) {x : Nat} (hlo : f 0 ≤ x) (hhi : x < f (Fin.last m)) :
    ∃ n : Fin m, f n.castSucc ≤ x ∧ x < f n.succ := by
  by_contra hno
  push Not at hno
  exact absurd hhi (Nat.not_lt.2 (Fin.induction hlo hno (Fin.last m)))

/-- In a rising sequence the two neighbours are one pair only. -/
theorem neighbours_unique {m : Nat} {f : Fin (m + 1) → Nat} (hf : StrictMono f) {x : Nat} {n k : Fin m}
    (hn : f n.castSucc ≤ x ∧ x < f n.succ) (hk : f k.castSucc ≤ x ∧ x < f k.succ) : k = n := by
  have hkn : k.castSucc < n.succ := hf.lt_iff_lt.1 (hk.1.trans_lt hn.2)
  have hnk : n.castSucc < k.succ := hf.lt_iff_lt.1 (hn.1.trans_lt hk.2)
  exact le_antisymm (Fin.castSucc_lt_succ_iff.1 hkn) (Fin.castSucc_lt_succ_iff.1 hnk)

/-! ### The lookup -/

/-- R13: up to the first voltage, the first reserve. -/
theorem ocvLookup_of_le (t : Vector OcvPoint 8) {x : Nat} (h : x ≤ t[0].v) : ocvLookup t x = t[0].r := if_pos h

section
variable {v : SystemVoltage} {t : Vector OcvPoint 8} (h : validOcv v t = true)
include h

/-- R13: in segment `n` the search finds that segment's interpolation. -/
theorem ocvSegment_toList_eq_interpolate (n : Fin 7) {x : Nat} (hlo : t[n.castSucc].v ≤ x) (hhi : x < t[n.succ].v) :
    ocvSegment x t.toList = t[n.castSucc].interpolate t[n.succ] x := by
  have hn : n.val + 1 < t.toList.length := by rw [Vector.length_toList]; omega
  simpa using ocvSegment_eq_interpolate (pairwise_precedes_of_validOcv h) n hn (by simpa using hlo) (by simpa using hhi)

/-- R13: the lookup is the search from the first voltage on: below it the reserve is the one at it. -/
theorem ocvLookup_eq_ocvSegment (x : Nat) : ocvLookup t x = ocvSegment (max x t[0].v) t.toList := by
  obtain hx | hx := le_or_gt x t[0].v
  · have hfirst : t[0].v < t[1].v := voltage_strictMono_of_validOcv h (show (0 : Fin 8) < 1 by decide)
    calc ocvLookup t x = t[0].r := ocvLookup_of_le t hx
      _ = t[0].interpolate t[1] t[0].v := by simp [OcvPoint.interpolate]
      _ = ocvSegment t[0].v t.toList := (ocvSegment_toList_eq_interpolate h 0 le_rfl hfirst).symm
      _ = ocvSegment (max x t[0].v) t.toList := by rw [max_eq_right hx]
  · rw [max_eq_left hx.le]
    exact if_neg (Nat.not_le.2 hx)

/-- R13: in segment `n` the lookup is that segment's interpolation, at its first point as well. -/
theorem ocvLookup_eq_interpolate (n : Fin 7) {x : Nat} (hlo : t[n.castSucc].v ≤ x) (hhi : x < t[n.succ].v) :
    ocvLookup t x = t[n.castSucc].interpolate t[n.succ] x := by
  have hfirst : t[0].v ≤ x := ((voltage_strictMono_of_validOcv h).monotone n.castSucc.zero_le).trans hlo
  rw [ocvLookup_eq_ocvSegment h, max_eq_left hfirst, ocvSegment_toList_eq_interpolate h n hlo hhi]

/-- R13: from the last voltage on, the last reserve. -/
theorem ocvLookup_of_last_le {x : Nat} (hx : t[7].v ≤ x) : ocvLookup t x = t[7].r := by
  have hall : ∀ p ∈ t.toList, p.v ≤ x := by
    intro p hp
    obtain ⟨n, hn, rfl⟩ := Vector.getElem_of_mem (Vector.mem_toList_iff.1 hp)
    exact ((voltage_strictMono_of_validOcv h).monotone (Fin.le_last ⟨n, hn⟩)).trans hx
  have hmem : t[0] ∈ t.toList := by simp
  rw [ocvLookup_eq_ocvSegment h, max_eq_left (hall _ hmem), ocvSegment_of_last_le (List.ne_nil_of_mem hmem) hall,
    List.getLast_eq_getElem]
  simp

theorem ocvLookup_mono : Monotone (ocvLookup t) := by
  intro x y hxy
  rw [ocvLookup_eq_ocvSegment h, ocvLookup_eq_ocvSegment h]
  exact ocvSegment_mono (pairwise_precedes_of_validOcv h) (max_le_max_right _ hxy)

theorem ocvLookup_le (x : Nat) : ocvLookup t x ≤ 1000 := by
  rw [ocvLookup_eq_ocvSegment h]
  exact ocvSegment_le (pairwise_precedes_of_validOcv h) (r_le_of_validOcv h)

end

/-- Settles O45: the search for the segment stops at the only one that holds the voltage, and interpolation stays between
the reserves of its two points. -/
theorem ocvLookupInterpolates : Obligations.OcvLookupInterpolates := by
  intro v t h
  have hv : StrictMono fun n : Fin 8 => t[n].v := voltage_strictMono_of_validOcv h
  refine ⟨fun x hx => ocvLookup_of_le t hx, fun x hx => ocvLookup_of_last_le h hx,
    fun n x hlo hhi => ocvLookup_eq_interpolate h n hlo hhi, fun x hlo hhi => ?_,
    fun x y hxy => ⟨ocvLookup_mono h hxy, ocvLookup_le h y⟩⟩
  obtain ⟨n, hn⟩ := exists_between_neighbours (fun n : Fin 8 => t[n].v) hlo.le hhi
  exact ⟨n, hn, fun k hklo hkhi => neighbours_unique hv hn ⟨hklo, hkhi⟩⟩

end Sys2Proof.Machine
end

section
/-!
PROOF. What an admitted request does (R168 to R173): the link's admission, the owner's part and the pending reply.
-/

namespace Sys2Proof.Machine

/-- R166, R197: the link listens exactly when it is not held. -/
theorem State.linkHeld_eq_false_iff (s : State) : s.linkHeld = false ↔ s.Listens := by
  simp [State.linkHeld, State.Listens]

/-- R177: a type is the one its own type byte names. -/
theorem reqTypeOf_code (ty : ReqType) : reqTypeOf ty.code = some ty := by cases ty <;> rfl

/-- R173 steps 2 to 6: what an admitted request meets. -/
theorem ReqType.refusal_eq_none_iff (ty : ReqType) (body : List Byte) (s : State) :
    ty.refusal body s = none ↔
      ty.minBody ≤ body.length ∧ (ty.installer = true → s.sys.service = true) ∧ (ty.gated = true → s.plan.lock = false)
        ∧ ty.fieldsPass body = true := by
  simp only [ReqType.refusal]
  split_ifs <;> simp_all

/-- R173: outside START the owner answers an admitted request. -/
theorem State.handle_of_admitted (s : State) (ty : ReqType) (body : List Byte) (hstart : s.disc.device ≠ .start)
    (hadm : ty.refusal body s = none) :
    s.handle ty.code body = { ty.own body s with fields := answerFields ty (ty.own body s) } := by
  simp only [State.handle, if_neg hstart, reqTypeOf_code, hadm]

/-- R168: a frame of at most 56 body bytes is taken when the link listens. -/
theorem State.arrive_of_listens (s : State) (p : Peer) (ty : Byte) (body : List Byte) (h : s.Listens)
    (hlen : body.length ≤ 56) :
    s.arrive p ty body = (s.setService p.service).takeRequest (panelAddress p.panel) p.tag ty body := by
  have hfree : (s.setService p.service).linkHeld = false := (State.linkHeld_eq_false_iff _).2 h
  simp only [State.arrive, hfree, Bool.false_eq_true, if_false, if_neg (Nat.not_lt.2 hlen)]

/-- R168 to R170: the reply to a taken request whose answer is built from the state it leaves. -/
theorem State.takeRequest_eq_replied {s t : State} {p : Peer} {ty : Byte} {body : List Byte} {x : Status}
    {fields : List Byte} (ha : (s.setRx .hold []).handle ty body = .whole t x fields)
    (hlink : t.link = (s.setRx .hold []).link) (hstraps : t.sys.straps = s.sys.straps) :
    s.takeRequest (panelAddress p.panel) p.tag ty body = t.replied p ty x fields := by
  simp only [State.takeRequest, ha, Answer.whole, hlink, State.replied, State.repliedWith, replyFrame, replyBody, hstraps]
  rfl

/-- R168 to R173: an admitted request other than SWITCH, answered OK from the state `t` that its owner leaves. -/
theorem State.arrive_eq_replied_ok {s t : State} {p : Peer} {ty : ReqType} {body fields : List Byte} (hs : s.Serves)
    (hlen : body.length ≤ 56) (hadm : ty.refusal body (s.setService p.service) = none) (hty : ty ≠ .switch)
    (hown : ty.own body ((s.setService p.service).setRx .hold []) = .whole t .ok fields)
    (hlink : t.link = ((s.setService p.service).setRx .hold []).link) (hstraps : t.sys.straps = s.sys.straps) :
    s.arrive p ty.code body = t.replied p ty.code .ok fields := by
  obtain ⟨hlisten, hstart⟩ := hs
  rw [s.arrive_of_listens p ty.code body hlisten hlen]
  refine State.takeRequest_eq_replied ?_ hlink hstraps
  rw [State.handle_of_admitted ((s.setService p.service).setRx .hold []) ty body hstart hadm, hown]
  simp [answerFields, Answer.whole, hty]

end Sys2Proof.Machine
end

section
/-!
PROOF. SET_CHARGE and CLEAR_CAUSES (R20, R198).
-/

namespace Sys2Proof.Machine

/-- A number of 16 bits is read back from its two bytes, whatever follows them. -/
theorem beNat_take_u16 {r : Nat} (h : r < 65536) (extra : List Byte) : beNat ((u16 r ++ extra).take 2) = r := by
  simp [u16, beNat]
  omega

/-- R20: SET_CHARGE, admitted: the manual sync, and R after it in the reply. -/
theorem execSetCharge_of_admits {s : State} {p : Peer} {r : Nat} {extra : List Byte} (h : s.Admits p) (hr : r < 65536)
    (hlen : extra.length ≤ 54) :
    execSetCharge p (u16 r ++ extra) s =
      .next (((s.setService true).manualSync r).replied p 0x28 .ok (u16 ((s.setService true).manualSync r).est.r)) := by
  obtain ⟨hs, hservice, hlock⟩ := h
  have hadm : ReqType.setCharge.refusal (u16 r ++ extra) (s.setService p.service) = none := by
    rw [ReqType.refusal_eq_none_iff]
    exact ⟨by simp [u16, ReqType.minBody], fun _ => hservice, fun _ => hlock, rfl⟩
  have hown : ReqType.setCharge.own (u16 r ++ extra) ((s.setService p.service).setRx .hold [])
      = .whole (((s.setService p.service).setRx .hold []).manualSync r) .ok
          (u16 (((s.setService p.service).setRx .hold []).manualSync r).est.r) := by
    simp only [ReqType.own, ownSetCharge, beNat_take_u16 hr]
  rw [execSetCharge, State.arrive_eq_replied_ok hs (by simp [u16]; omega) hadm (by decide) hown rfl rfl, hservice]
  rfl

/-- R198: CLEAR_CAUSES, taken: the reset-cause set empty. -/
theorem execClearCauses_of_serves {s : State} {p : Peer} {body : List Byte} (hs : s.Serves) (hlen : body.length ≤ 56) :
    execClearCauses p body s = .next (State.replied
      { s with sys := { s.sys with service := p.service, causes := ⟨false, false, false⟩ } } p 0x14 .ok []) := by
  have hadm : ReqType.clearCauses.refusal body (s.setService p.service) = none := by
    rw [ReqType.refusal_eq_none_iff]
    exact ⟨Nat.zero_le _, nofun, nofun, rfl⟩
  rw [execClearCauses, State.arrive_eq_replied_ok hs hlen hadm (by decide) rfl rfl rfl]
  rfl

/-- Settles O36: both requests are admitted; the states their owners make are the stated ones by definition. -/
theorem setChargeAndClearCauses : Obligations.SetChargeAndClearCauses :=
  ⟨fun _ _ _ _ h hr hlen => execSetCharge_of_admits h hr hlen, fun _ _ _ hs hlen => execClearCauses_of_serves hs hlen⟩

end Sys2Proof.Machine
end

section
/-!
PROOF. A reserve update at the Level Controller (R31 to R37): the demanded depth, what one update does to the dwells, and
that whatever follows, the depth it stored stands.
-/

namespace Sys2Proof.Machine

/-! ### The demanded depth (R31) -/

section
variable (t : LevelTable) (u : ReserveUpdate)

/-- R31: a level is demanded by reserve or by voltage. -/
theorem LevelTable.demands_iff (l : Level) :
    t.demands u l = true ↔ u.r ≤ t.recs[l].enter ∨ (t.recs[l].floor ≠ 0 ∧ u.vc ≤ t.recs[l].floor) := by
  simp [LevelTable.demands]

/-- R31: the levels are tried from the deepest to the shallowest. -/
theorem deepLevels_pairwise_gt : deepLevels.Pairwise (· > ·) := by decide

/-- R31: every level but 0 can be demanded. -/
theorem mem_deepLevels_iff (l : Level) : l ∈ deepLevels ↔ l ≠ 0 := by revert l; decide

/-- R31: no demanded level is deeper than the demanded depth. -/
theorem LevelTable.le_deepOf {l : Level} (hl : l ≠ 0) (h : t.demands u l = true) : l ≤ t.deepOf u := by
  have hmem : l ∈ deepLevels := (mem_deepLevels_iff l).2 hl
  rw [LevelTable.deepOf]
  cases hfind : deepLevels.find? (t.demands u) with
  | none => exact absurd h (List.find?_eq_none.1 hfind l hmem)
  | some d =>
    obtain ⟨-, deeper, others, hsplit, hdeeper⟩ := List.find?_eq_some_iff_append.1 hfind
    have hsorted := deepLevels_pairwise_gt
    rw [hsplit] at hmem hsorted
    rcases List.mem_append.1 hmem with hbefore | hafter
    · have hnot := hdeeper l hbefore
      simp [h] at hnot
    · rcases List.mem_cons.1 hafter with rfl | hrest
      · exact le_rfl
      · obtain ⟨-, hfrom, -⟩ := List.pairwise_append.1 hsorted
        exact (List.rel_of_pairwise_cons hfrom hrest).le

/-- R31: a demanded depth other than 0 is itself demanded. -/
theorem LevelTable.demands_deepOf (h : t.deepOf u ≠ 0) : t.demands u (t.deepOf u) = true := by
  rw [LevelTable.deepOf] at h ⊢
  cases hfind : deepLevels.find? (t.demands u) with
  | none => simp [hfind] at h
  | some d => exact List.find?_some hfind

/-- R31: the note says that the demanded depth is above 0 and demanded by reserve. -/
theorem LevelTable.deepByReserve_iff :
    t.deepByReserve u = true ↔ t.deepOf u ≠ 0 ∧ u.r ≤ t.recs[t.deepOf u].enter := by
  simp [LevelTable.deepByReserve]

end

/-! ### Level changes and dwells (R33 to R36) -/

section
variable (s : State)

/-- R36: a level change sets the level and ends the dwell; the Planner, told of it, leaves the Level Controller alone. -/
@[simp] theorem State.changeLevel_level (new : Level) (cause : Cause) :
    (s.changeLevel new cause).level = { s.level with current := new, pending := .none, count := 0 } :=
  (plannerOnly_tellLevelChange _).level

/-- R34: a deepening dwell short of its full count goes on. -/
theorem State.deepening_of_lt {count : Nat} (deep : Level) (byReserve : Bool)
    (h : count < s.plan.levels.settings.enterDwell * 10) : s.deepening count deep byReserve = s.setDwell .deepen count :=
  if_neg (Nat.not_le.2 h)

/-- R35: an easing dwell short of its full count goes on. -/
theorem State.easing_of_lt {count : Nat} (h : count < s.plan.levels.settings.leaveDwell * 10) :
    s.easing count = s.setDwell .ease count :=
  if_neg (Nat.not_le.2 h)

end

/-! ### The table of R33 -/

section
variable {s : State} {u : ReserveUpdate}

/-- R33, first row: a depth below the level drives a deepening dwell. -/
theorem State.runDwell_of_lt (h : s.level.current < s.plan.levels.deepOf u) :
    s.runDwell u = s.deepening (if s.level.pending = .deepen then s.level.count + 1 else 0) (s.plan.levels.deepOf u)
      (s.plan.levels.deepByReserve u) :=
  if_pos h

/-- R33, second row: the easing condition of a level above 0 drives an easing dwell. -/
theorem State.runDwell_of_eases (h : s.plan.levels.deepOf u ≤ s.level.current) (hne : s.level.current ≠ 0)
    (heases : s.plan.levels.eases u s.level.current = true) :
    s.runDwell u = s.easing (if s.level.pending = .ease then s.level.count + 1 else 0) := by
  simp only [State.runDwell, if_neg (not_lt.2 h), heases, ne_eq, hne, not_false_eq_true, decide_true, Bool.and_self, if_true]

/-- R33, last row: any other update cancels the dwell. -/
theorem State.runDwell_of_not_eases (h : s.plan.levels.deepOf u ≤ s.level.current)
    (hnot : s.level.current = 0 ∨ s.plan.levels.eases u s.level.current = false) : s.runDwell u = s.cancelDwell := by
  have hcond : ¬ (s.level.current ≠ 0 && s.plan.levels.eases u s.level.current) = true := by
    rcases hnot with hzero | hfalse
    · simp [hzero]
    · simp [hfalse]
  simp only [State.runDwell, if_neg (not_lt.2 h), if_neg hcond]

/-- R33, R34: an update counts in a deepening dwell that it does not complete. -/
theorem State.runDwell_counts_deepening (h : s.level.current < s.plan.levels.deepOf u) (hp : s.level.pending = .deepen)
    (hc : s.level.count + 1 < s.plan.levels.settings.enterDwell * 10) :
    s.runDwell u = s.setDwell s.level.pending (s.level.count + 1) := by
  rw [State.runDwell_of_lt h, if_pos hp, s.deepening_of_lt _ _ hc, hp]

/-- R33, R34: where no deepening was pending, an update starts one at count 0, unless the enter dwell is 0. -/
theorem State.runDwell_starts_deepening (h : s.level.current < s.plan.levels.deepOf u) (hp : s.level.pending ≠ .deepen)
    (hd : 0 < s.plan.levels.settings.enterDwell) : s.runDwell u = s.setDwell .deepen 0 := by
  rw [State.runDwell_of_lt h, if_neg hp, s.deepening_of_lt _ _ (by omega)]

/-- R33, R35: an update counts in an easing dwell that it does not complete. -/
theorem State.runDwell_counts_easing (h : s.plan.levels.deepOf u ≤ s.level.current) (hne : s.level.current ≠ 0)
    (heases : s.plan.levels.eases u s.level.current = true) (hp : s.level.pending = .ease)
    (hc : s.level.count + 1 < s.plan.levels.settings.leaveDwell * 10) :
    s.runDwell u = s.setDwell s.level.pending (s.level.count + 1) := by
  rw [State.runDwell_of_eases h hne heases, if_pos hp, s.easing_of_lt hc, hp]

/-- R33, R35: where no easing was pending, an update starts one at count 0, unless the leave dwell is 0. -/
theorem State.runDwell_starts_easing (h : s.plan.levels.deepOf u ≤ s.level.current) (hne : s.level.current ≠ 0)
    (heases : s.plan.levels.eases u s.level.current = true) (hp : s.level.pending ≠ .ease)
    (hd : 0 < s.plan.levels.settings.leaveDwell) : s.runDwell u = s.setDwell .ease 0 := by
  rw [State.runDwell_of_eases h hne heases, if_neg hp, s.easing_of_lt (by omega)]

end

/-! ### The demanded depth stands (R31) -/

/-- From `s` to `t` the demanded depth and its note stand. -/
structure State.KeepsDemand (s t : State) : Prop where
  deep : t.level.deep = s.level.deep
  byReserve : t.level.byReserve = s.level.byReserve

section
variable (s : State)

theorem State.KeepsDemand.refl : s.KeepsDemand s := ⟨rfl, rfl⟩

theorem keepsDemand_setDwell (p : Pending) (count : Nat) : s.KeepsDemand (s.setDwell p count) := ⟨rfl, rfl⟩

theorem keepsDemand_cancelDwell : s.KeepsDemand s.cancelDwell := ⟨rfl, rfl⟩

theorem keepsDemand_changeLevel (new : Level) (cause : Cause) : s.KeepsDemand (s.changeLevel new cause) := by
  constructor <;> rw [State.changeLevel_level]

theorem keepsDemand_setLevelDirect (new : Level) (cause : Cause) : s.KeepsDemand (s.setLevelDirect new cause) := by
  unfold State.setLevelDirect
  split
  · exact .refl s
  · exact keepsDemand_changeLevel s new cause

theorem keepsDemand_deepening (count : Nat) (deep : Level) (byReserve : Bool) :
    s.KeepsDemand (s.deepening count deep byReserve) := by
  unfold State.deepening
  split
  · exact keepsDemand_changeLevel s deep _
  · exact keepsDemand_setDwell s .deepen count

theorem keepsDemand_easing (count : Nat) : s.KeepsDemand (s.easing count) := by
  unfold State.easing
  split
  · exact keepsDemand_changeLevel s _ .ease
  · exact keepsDemand_setDwell s .ease count

theorem keepsDemand_runDwell (u : ReserveUpdate) : s.KeepsDemand (s.runDwell u) := by
  simp only [State.runDwell]
  split
  · exact keepsDemand_deepening s _ _ _
  · split
    · exact keepsDemand_easing s _
    · exact keepsDemand_cancelDwell s

end

/-! ### Taking an update (R33, R37, R38) -/

/-- The queue of published updates that the Level Controller has not taken, replaced. -/
def State.setLevelMail (s : State) (rest : List ReserveUpdate) : State := { s with mail := { s.mail with level := rest } }

section
variable {s : State} {u : ReserveUpdate}

/-- R33: after the first update, in RUN, the depth is stored and the dwells are driven. -/
theorem State.levelTakes_of_run (hfirst : s.level.firstTaken = true) (hrun : s.disc.device = .run) :
    s.levelTakes u = (s.storeDeep u).runDwell u := by
  simp only [State.levelTakes, hfirst, hrun, Bool.not_true, Bool.false_eq_true, if_false, if_true]

/-- R37: after the first update, outside RUN, the depth is stored and nothing else happens. -/
theorem State.levelTakes_of_not_run (hfirst : s.level.firstTaken = true) (hrun : s.disc.device ≠ .run) :
    s.levelTakes u = s.storeDeep u := by
  simp only [State.levelTakes, hfirst, hrun, Bool.not_true, Bool.false_eq_true, if_false]

/-- R31: every update leaves the depth that it stored. -/
theorem keepsDemand_levelTakes (s : State) (u : ReserveUpdate) : (s.storeDeep u).KeepsDemand (s.levelTakes u) := by
  simp only [State.levelTakes]
  split_ifs
  · exact ⟨rfl, rfl⟩
  · exact ⟨(keepsDemand_setLevelDirect _ _ _).deep, (keepsDemand_setLevelDirect _ _ _).byReserve⟩
  · exact keepsDemand_runDwell (s.storeDeep u) u
  · exact .refl (s.storeDeep u)

/-- With an update waiting, the oldest leaves the queue and the Level Controller takes it. -/
theorem State.levelTakesNext_of_mail {rest : List ReserveUpdate} (hmail : s.mail.level = u :: rest) :
    s.levelTakesNext = (s.setLevelMail rest).levelTakes u := by
  rw [State.levelTakesNext, hmail, State.setLevelMail]

/-- RESERVE_UPDATE with an update waiting is the taking of the oldest. -/
theorem exec_reserveUpdate_of_mail {rest : List ReserveUpdate} (hmail : s.mail.level = u :: rest) :
    exec .reserveUpdate s = .next ((s.setLevelMail rest).levelTakes u) :=
  congrArg Host.Outcome.next (State.levelTakesNext_of_mail hmail)

/-- R33: RESERVE_UPDATE in RUN, after the first update, does what the table of R33 does at the state that has stored the
depth. -/
theorem exec_reserveUpdate_of_runDwell {t : State} {rest : List ReserveUpdate} (hmail : s.mail.level = u :: rest)
    (hfirst : s.level.firstTaken = true) (hrun : s.disc.device = .run)
    (h : ((s.setLevelMail rest).storeDeep u).runDwell u = t) : exec .reserveUpdate s = .next t := by
  rw [exec_reserveUpdate_of_mail hmail, State.levelTakes_of_run (s := s.setLevelMail rest) hfirst hrun, h]

/-- R31, R37: RESERVE_UPDATE outside RUN, after the first update, stores the depth and nothing else. -/
theorem exec_reserveUpdate_of_not_run {rest : List ReserveUpdate} (hmail : s.mail.level = u :: rest)
    (hfirst : s.level.firstTaken = true) (hrun : s.disc.device ≠ .run) :
    exec .reserveUpdate s = .next ((s.setLevelMail rest).storeDeep u) := by
  rw [exec_reserveUpdate_of_mail hmail, State.levelTakes_of_not_run (s := s.setLevelMail rest) hfirst hrun]

/-- R31: RESERVE_UPDATE with an update waiting leaves its demanded depth and note stored, in every device state. -/
theorem exec_reserveUpdate_stores {rest : List ReserveUpdate} (hmail : s.mail.level = u :: rest) :
    ∃ t, exec .reserveUpdate s = .next t ∧ t.level.deep = s.plan.levels.deepOf u
      ∧ t.level.byReserve = s.plan.levels.deepByReserve u := by
  obtain ⟨hdeep, hbyReserve⟩ := keepsDemand_levelTakes (s.setLevelMail rest) u
  exact ⟨_, exec_reserveUpdate_of_mail hmail, hdeep, hbyReserve⟩

end

/-- Settles O46, with `deepOf` and `deepByReserve` as the depth and its note: in RUN each clause is one row of R33 at the
state that has stored the depth. -/
theorem reserveUpdatesDriveTheDwell : Obligations.ReserveUpdatesDriveTheDwell := by
  intro s u rest hmail
  refine ⟨s.plan.levels.deepOf u, s.plan.levels.deepByReserve u, ?deepest, ?demanded, LevelTable.deepByReserve_iff _ u,
    exec_reserveUpdate_stores hmail, ?counts_deepening, ?starts_deepening, ?counts_easing, ?starts_easing, ?cancels,
    ?outside_run⟩
  case deepest => exact fun l hl h => LevelTable.le_deepOf _ u hl ((LevelTable.demands_iff _ u l).2 h)
  case demanded => exact fun h => (LevelTable.demands_iff _ u _).1 (LevelTable.demands_deepOf _ u h)
  case counts_deepening =>
    exact fun hfirst hrun hlt hp hc =>
      exec_reserveUpdate_of_runDwell hmail hfirst hrun (State.runDwell_counts_deepening hlt hp hc)
  case starts_deepening =>
    exact fun hfirst hrun hlt hp hd =>
      exec_reserveUpdate_of_runDwell hmail hfirst hrun (State.runDwell_starts_deepening hlt hp hd)
  case counts_easing =>
    exact fun hfirst hrun hle hne heases hp hc =>
      exec_reserveUpdate_of_runDwell hmail hfirst hrun (State.runDwell_counts_easing hle hne heases hp hc)
  case starts_easing =>
    exact fun hfirst hrun hle hne heases hp hd =>
      exec_reserveUpdate_of_runDwell hmail hfirst hrun (State.runDwell_starts_easing hle hne heases hp hd)
  case cancels =>
    exact fun hfirst hrun hle hnot =>
      exec_reserveUpdate_of_runDwell hmail hfirst hrun (State.runDwell_of_not_eases hle hnot)
  case outside_run => exact fun hfirst hrun => exec_reserveUpdate_of_not_run hmail hfirst hrun

end Sys2Proof.Machine
end

section
/-!
PROOF. CLEAR_LOCKOUT and CHECK (R134, R135): the owner's answer on the channel that the index byte names, and its reply.
-/

namespace Sys2Proof.Machine

/-- R176: the index byte of a channel is read back as the channel's number. -/
theorem toNat_chanByte (c : Chan) : (BitVec.ofNat 8 c.val).toNat = c.val := by
  have hc := c.isLt
  simp only [BitVec.toNat_ofNat]
  omega

/-- R134: CLEAR_LOCKOUT takes a LOCKED channel to OFF, and is NOT_ALLOWED on any other. -/
theorem ownClearLockout_chan (s : State) (c : Chan) (extra : List Byte) :
    ownClearLockout (BitVec.ofNat 8 c.val :: extra) s =
      if (s.chan c).state = .locked then
        .plain (s.setChan c { s.chan c with state := .off, retryCount := 0, reason := .panel }) .ok
      else .plain s .notAllowed := by
  simp only [ownClearLockout, List.getD_cons_zero, toNat_chanByte, dif_pos c.isLt]

/-- R135: CHECK starts the check of an active OFF channel in RUN, and is NOT_ALLOWED otherwise. -/
theorem ownCheck_chan (s : State) (c : Chan) (extra : List Byte) :
    ownCheck (BitVec.ofNat 8 c.val :: extra) s =
      if (s.crec c).active = true ∧ (s.chan c).state = .off ∧ s.disc.device = .run then
        .plain (s.setChan c { s.chan c with state := .checking, checkTimer := some ⟨500, 500⟩ }) .ok
      else .plain s .notAllowed := by
  simp only [ownCheck, List.getD_cons_zero, toNat_chanByte, dif_pos c.isLt, Bool.and_eq_true, decide_eq_true_eq,
    and_assoc]
  rfl

/-- R177: an answer without fields has none in its reply, whatever its status, unless the request is SWITCH or a plan
edit. -/
theorem answerFields_plain {ty : ReqType} (hswitch : ty ≠ .switch) (hedit : ty.isPlanEdit = false) (t : State)
    (x : Status) : answerFields ty (.plain t x) = [] := by
  simp [answerFields, refusalFields, Answer.plain, Answer.whole, hswitch, hedit]

/-- R168 to R173: an admitted request other than SWITCH and the plan edits, answered without fields: the reply stands
beside the state `t` that the owner's part makes, whatever the status. -/
theorem State.arrive_eq_replied_plain {s t : State} {p : Peer} {ty : ReqType} {body : List Byte} {x : Status}
    (hs : s.Serves) (hlen : body.length ≤ 56) (hadm : ty.refusal body (s.setService p.service) = none)
    (hswitch : ty ≠ .switch) (hedit : ty.isPlanEdit = false)
    (hown : ty.own body ((s.setService p.service).setRx .hold []) = .plain (t.setRx .hold []) x)
    (hlink : t.link = s.link) (hstraps : t.sys.straps = s.sys.straps) :
    s.arrive p ty.code body = t.replied p ty.code x [] := by
  obtain ⟨hlisten, hstart⟩ := hs
  have hanswer : ((s.setService p.service).setRx .hold []).handle ty.code body = .whole (t.setRx .hold []) x [] := by
    rw [State.handle_of_admitted ((s.setService p.service).setRx .hold []) ty body hstart hadm, hown,
      answerFields_plain hswitch hedit]
    rfl
  calc s.arrive p ty.code body
      = (s.setService p.service).takeRequest (panelAddress p.panel) p.tag ty.code body :=
        s.arrive_of_listens p ty.code body hlisten hlen
    _ = (t.setRx .hold []).replied p ty.code x [] :=
        State.takeRequest_eq_replied hanswer (by simp [hlink]) hstraps
    _ = t.replied p ty.code x [] := rfl

section

variable {s : State} {p : Peer} {c : Chan} {extra : List Byte}

/-- R173: CLEAR_LOCKOUT and CHECK are USER requests that a channel's index byte admits. -/
theorem ReqType.refusal_chan {ty : ReqType} (hty : ty = .clearLockout ∨ ty = .check) :
    ty.refusal (BitVec.ofNat 8 c.val :: extra) s = none := by
  have hc : c.val ≤ 15 := Nat.le_of_lt_succ c.isLt
  rw [ReqType.refusal_eq_none_iff]
  obtain rfl | rfl := hty
  all_goals
    refine ⟨by simp [ReqType.minBody], nofun, nofun, ?_⟩
    simpa only [ReqType.fieldsPass, List.getD_cons_zero, toNat_chanByte, decide_eq_true_eq] using hc

/-- R168 to R173: CLEAR_LOCKOUT and CHECK of channel `c`, from the owner's answer to the reply. -/
theorem State.arrive_chan_eq_replied {t : State} {x : Status} {ty : ReqType} (hty : ty = .clearLockout ∨ ty = .check)
    (hs : s.Serves) (hlen : extra.length ≤ 55)
    (hown : ty.own (BitVec.ofNat 8 c.val :: extra) ((s.setService p.service).setRx .hold [])
      = .plain (t.setRx .hold []) x)
    (hlink : t.link = s.link) (hstraps : t.sys.straps = s.sys.straps) :
    s.arrive p ty.code (BitVec.ofNat 8 c.val :: extra) = t.replied p ty.code x [] := by
  have hswitch : ty ≠ .switch := by rintro rfl; simp at hty
  have hedit : ty.isPlanEdit = false := by obtain rfl | rfl := hty <;> rfl
  exact State.arrive_eq_replied_plain hs (Nat.succ_le_succ hlen) (ReqType.refusal_chan hty) hswitch hedit hown hlink
    hstraps

/-- R134: CLEAR_LOCKOUT of a LOCKED channel. -/
theorem execClearLockout_of_locked (hs : s.Serves) (hlen : extra.length ≤ 55) (hlocked : (s.chan c).state = .locked) :
    execClearLockout p (BitVec.ofNat 8 c.val :: extra) s = .next (((s.setService p.service).setChan c
      { s.chan c with state := .off, retryCount := 0, reason := .panel }).replied p 0x11 .ok []) := by
  refine congrArg Host.Outcome.next (State.arrive_chan_eq_replied (.inl rfl) hs hlen ?_ rfl rfl)
  exact (ownClearLockout_chan _ c extra).trans (if_pos hlocked)

/-- R134: CLEAR_LOCKOUT of a channel that is not LOCKED. -/
theorem execClearLockout_of_not_locked (hs : s.Serves) (hlen : extra.length ≤ 55)
    (hlocked : (s.chan c).state ≠ .locked) :
    execClearLockout p (BitVec.ofNat 8 c.val :: extra) s =
      .next ((s.setService p.service).replied p 0x11 .notAllowed []) := by
  refine congrArg Host.Outcome.next (State.arrive_chan_eq_replied (.inl rfl) hs hlen ?_ rfl rfl)
  exact (ownClearLockout_chan _ c extra).trans (if_neg hlocked)

/-- R135: CHECK of an active OFF channel in RUN. -/
theorem execCheck_of_allowed (hs : s.Serves) (hlen : extra.length ≤ 55)
    (hcheck : (s.crec c).active = true ∧ (s.chan c).state = .off ∧ s.disc.device = .run) :
    execCheck p (BitVec.ofNat 8 c.val :: extra) s = .next (((s.setService p.service).setChan c
      { s.chan c with state := .checking, checkTimer := some ⟨500, 500⟩ }).replied p 0x12 .ok []) := by
  refine congrArg Host.Outcome.next (State.arrive_chan_eq_replied (.inr rfl) hs hlen ?_ rfl rfl)
  exact (ownCheck_chan _ c extra).trans (if_pos hcheck)

/-- R135: CHECK of any other channel, or outside RUN. -/
theorem execCheck_of_not_allowed (hs : s.Serves) (hlen : extra.length ≤ 55)
    (hcheck : ¬((s.crec c).active = true ∧ (s.chan c).state = .off ∧ s.disc.device = .run)) :
    execCheck p (BitVec.ofNat 8 c.val :: extra) s = .next ((s.setService p.service).replied p 0x12 .notAllowed []) := by
  refine congrArg Host.Outcome.next (State.arrive_chan_eq_replied (.inr rfl) hs hlen ?_ rfl rfl)
  exact (ownCheck_chan _ c extra).trans (if_neg hcheck)

end

/-- Settles O29: each request is admitted by its index byte, and its owner's test decides which of the two stated replies
it gets. -/
theorem clearLockoutAndCheckActOnOneChannel : Obligations.ClearLockoutAndCheckActOnOneChannel :=
  fun _ _ _ _ hs hlen => ⟨execClearLockout_of_locked hs hlen, execClearLockout_of_not_locked hs hlen,
    execCheck_of_allowed hs hlen, execCheck_of_not_allowed hs hlen⟩

end Sys2Proof.Machine
end

section
/-!
PROOF. NOTICES (R185), and the BUSY reply of START (R173).
-/

namespace Sys2Proof.Machine

/-- R173: in START a request of any type is answered BUSY and changes only the link and the SERVICE input. -/
theorem State.arrive_of_start {s : State} {p : Peer} {ty : Byte} {body : List Byte} (hs : s.Listens)
    (hlen : body.length ≤ 56) (hstart : s.disc.device = .start) :
    s.arrive p ty body = (s.setService p.service).replied p ty .busy (refusalFields (reqTypeOf ty) s) := by
  have hbusy : ((s.setService p.service).setRx .hold []).handle ty body
      = .whole ((s.setService p.service).setRx .hold []) .busy (refusalFields (reqTypeOf ty) s) :=
    if_pos hstart
  calc s.arrive p ty body
      = (s.setService p.service).takeRequest (panelAddress p.panel) p.tag ty body :=
        s.arrive_of_listens p ty body hs hlen
    _ = ((s.setService p.service).setRx .hold []).replied p ty .busy (refusalFields (reqTypeOf ty) s) :=
        State.takeRequest_eq_replied hbusy rfl rfl
    _ = (s.setService p.service).replied p ty .busy (refusalFields (reqTypeOf ty) s) := rfl

/-- R185: the number of notices left and the number returned, by the number the ring held. -/
theorem Ring.noticesBytes_eq (g : Ring) :
    g.noticesBytes = u8 (yesNo g.lost) ++ u8 (g.notices.length - 4) ++ u8 (min 4 g.notices.length)
      ++ (g.notices.take 4).flatMap Notice.bytes := by
  rw [Ring.noticesBytes, List.length_drop, List.length_take]

section

variable {s : State} {p : Peer} {body : List Byte}

/-- R173: NOTICES is a USER request without body or field tests: admission does not refuse it outside START. -/
theorem ReqType.refusal_notices : ReqType.notices.refusal body s = none :=
  (ReqType.refusal_eq_none_iff _ _ _).2 ⟨Nat.zero_le _, nofun, nofun, rfl⟩

/-- R185: NOTICES outside START takes the head of the ring. -/
theorem execNotices_of_serves (hs : s.Serves) (hlen : body.length ≤ 56) :
    execNotices p body s =
      .next (State.replied { s.setService p.service with ring := s.ring.taken } p 0x04 .ok s.ring.noticesBytes) := by
  rw [execNotices, State.arrive_eq_replied_ok hs hlen ReqType.refusal_notices (by decide) rfl rfl rfl]
  rfl

/-- R173, R185: NOTICES in START is answered BUSY without fields. -/
theorem execNotices_of_start (hs : s.Listens) (hlen : body.length ≤ 56) (hstart : s.disc.device = .start) :
    execNotices p body s = .next ((s.setService p.service).replied p 0x04 .busy []) :=
  congrArg Host.Outcome.next (State.arrive_of_start hs hlen hstart)

end

/-- Settles O24: outside START the request is admitted, and its owner returns and removes the head of the ring; in START
admission answers before the owner is asked. -/
theorem noticesTakesFourFromTheHead : Obligations.NoticesTakesFourFromTheHead := by
  intro s p body hs hlen
  refine ⟨fun hstart => ?_, execNotices_of_start hs hlen⟩
  rw [← Ring.noticesBytes_eq]
  exact execNotices_of_serves ⟨hs, hstart⟩ hlen

end Sys2Proof.Machine
end

section
/-!
PROOF. What a command can do, said once: every command is a request that arrives, a byte or another event of the line, a
reset, or one of the events of the blocks (`State.Event`).
-/

namespace Sys2Proof.Machine

/-! ### Requests -/

/-- The sender, type byte and body of the frame that a request command is. -/
def requestOf (i : Instr) : Option (Peer × Byte × List Byte) :=
  match i with
  | .unknownTypeRequest p ty body => some (p, ty, body)
  | .status p body => some (p, ReqType.status.code, body)
  | .channel p body => some (p, ReqType.channel.code, body)
  | .standbyPage p body => some (p, ReqType.standbyPage.code, body)
  | .notices p body => some (p, ReqType.notices.code, body)
  | .configReadChannel p index extra => some (p, ReqType.configRead.code, 0 :: index :: extra)
  | .configReadLevel p index extra => some (p, ReqType.configRead.code, 1 :: index :: extra)
  | .configReadBattery p index extra => some (p, ReqType.configRead.code, 2 :: index :: extra)
  | .configReadOcv p index extra => some (p, ReqType.configRead.code, 3 :: index :: extra)
  | .configReadTimer p index extra => some (p, ReqType.configRead.code, 4 :: index :: extra)
  | .configReadAux p index extra => some (p, ReqType.configRead.code, 5 :: index :: extra)
  | .switchOn p index flags extra => some (p, ReqType.switch.code, index :: controlByte flags true :: extra)
  | .switchOff p index flags extra => some (p, ReqType.switch.code, index :: controlByte flags false :: extra)
  | .clearLockout p body => some (p, ReqType.clearLockout.code, body)
  | .check p body => some (p, ReqType.check.code, body)
  | .reconnect p body => some (p, ReqType.reconnect.code, body)
  | .clearCauses p body => some (p, ReqType.clearCauses.code, body)
  | .setChannel p body => some (p, ReqType.setChannel.code, body)
  | .setLevel p body => some (p, ReqType.setLevel.code, body)
  | .setBattery p body => some (p, ReqType.setBattery.code, body)
  | .setOcv p body => some (p, ReqType.setOcv.code, body)
  | .setTimer p body => some (p, ReqType.setTimer.code, body)
  | .setAux p body => some (p, ReqType.setAux.code, body)
  | .setCharge p body => some (p, ReqType.setCharge.code, body)
  | .isolate p body => some (p, ReqType.isolate.code, body)
  | .save p body => some (p, ReqType.save.code, body)
  | .lockPlan p body => some (p, ReqType.lockPlan.code, body)
  | .restart p body => some (p, ReqType.restart.code, body)
  | _ => none

/-- A request command is the arrival of its frame. -/
theorem exec_of_requestOf {i : Instr} {p : Peer} {ty : Byte} {body : List Byte} (h : requestOf i = some (p, ty, body))
    (s : State) : exec i s = .next (s.arrive p ty body) := by
  cases i <;> simp only [requestOf, Option.some.injEq, Prod.mk.injEq, reduceCtorEq] at h
  all_goals
    obtain ⟨rfl, rfl, rfl⟩ := h
    rfl

/-! ### The line -/

/-- What the line makes of a state: the link and the SERVICE level seen change alone, or the request of a known type is
admitted in `s` and its owner's part is done beside them. -/
inductive State.LinkStep (s : State) : Option ReqType → State → Prop where
  | quiet (service : Bool) (l : Link) : s.LinkStep none { s.setService service with link := l }
  | owned (service : Bool) (l : Link) (ty : ReqType) (body : List Byte) (hstart : s.disc.device ≠ .start)
      (hadm : ty.refusal body ((s.setService service).setRx .hold []) = none) :
      s.LinkStep (some ty) { (ty.own body ((s.setService service).setRx .hold [])).state with link := l }

/-- R173: a request is refused, and the state stands, or its owner answers. -/
theorem State.handle_state (s : State) (ty : Byte) (body : List Byte) :
    (s.handle ty body).state = s
      ∨ ∃ k : ReqType, reqTypeOf ty = some k ∧ s.disc.device ≠ .start ∧ k.refusal body s = none
        ∧ (s.handle ty body).state = (k.own body s).state := by
  unfold State.handle
  split
  · exact .inl rfl
  · rename_i hstart
    split
    · exact .inl rfl
    · rename_i k hk
      split
      · exact .inl rfl
      · rename_i hadm
        exact .inr ⟨k, hk, hstart, hadm, rfl⟩

/-- R168 to R173: a taken request is a step of the line. -/
theorem State.linkStep_takeRequest (s : State) (service : Bool) (src tag ty : Byte) (body : List Byte) :
    ∃ k, s.LinkStep k ((s.setService service).takeRequest src tag ty body) ∧ ∀ x, k = some x → reqTypeOf ty = some x := by
  rcases State.handle_state ((s.setService service).setRx .hold []) ty body with h | ⟨k, hk, hstart, hadm, h⟩
  · refine ⟨none, ?_, nofun⟩
    unfold State.takeRequest
    dsimp only
    rw [h]
    exact .quiet service _
  · refine ⟨some k, ?_, fun x hx => by rw [hk, hx]⟩
    unfold State.takeRequest
    dsimp only
    rw [h]
    exact .owned service _ k body hstart hadm

/-- R168: the arrival of a frame is a step of the line, of no other type than the frame's. -/
theorem State.linkStep_arrive (s : State) (p : Peer) (ty : Byte) (body : List Byte) :
    ∃ k, s.LinkStep k (s.arrive p ty body) ∧ ∀ x, k = some x → reqTypeOf ty = some x := by
  unfold State.arrive
  dsimp only
  split
  · exact ⟨none, .quiet p.service _, nofun⟩
  · split
    · exact ⟨none, .quiet p.service _, nofun⟩
    · exact s.linkStep_takeRequest p.service _ _ ty body

/-- R166: a byte is a step of the line. -/
theorem State.linkStep_receiveByte (s : State) (b : Byte) (err service : Bool) :
    ∃ k, s.LinkStep k ((s.setService service).receiveByte b err) := by
  have quiet : ∀ rx buffer, ∃ k, s.LinkStep k ((s.setService service).setRx rx buffer) :=
    fun rx buffer => ⟨none, .quiet service _⟩
  unfold State.receiveByte
  split
  · split
    · exact quiet _ _
    · exact quiet _ _
  · split
    · exact quiet _ _
    · unfold State.appendByte
      dsimp only
      split
      · exact quiet _ _
      · split
        · unfold State.frameComplete
          split
          · exact quiet _ _
          · split
            · rename_i f _ _
              obtain ⟨k, hk, -⟩ := s.linkStep_takeRequest service f.src f.tag f.ty f.body
              exact ⟨k, hk⟩
            · exact quiet _ _
        · exact quiet _ _
  · exact quiet _ _
  · exact quiet _ _

/-! ### The events of the blocks -/

/-- The queue of raw voltages that the comparator has not taken, replaced. -/
def State.setSagMail (s : State) (rest : List Nat) : State := { s with mail := { s.mail with sag := rest } }

/-- The queue of published updates that the Disconnect Unit has not taken, replaced. -/
def State.setDisconnectMail (s : State) (rest : List ReserveUpdate) : State :=
  { s with mail := { s.mail with disconnect := rest } }

/-- R155: the relay drive removed. -/
def State.endPulse (s : State) : State := { s with disc := { s.disc with pulse := none } }

/-- R80: the restore-quiet timer stopped. -/
def State.stopQuiet (s : State) : State := { s with planner := { s.planner with restoreQuiet := none } }

/-- R192: the store after the completion of the write of `p`. -/
def State.endWrite (s : State) (matched : Bool) (p : Plan) : State :=
  { s with store := ⟨if matched then .plan p else .badCheck, none⟩ }

/-- What command `i` that is no request, no event of the line and no reset does to `s`. -/
inductive State.Event (i : Instr) (s : State) : State → Prop where
  | nothing : s.Event i s
  | battery (vb cur : Int) : s.Event i (s.takeBatterySample vb cur)
  | temperature (x : Int) (valid : Bool) : s.Event i { s with est := s.est.takeTemperature s.plan.battery x valid }
  | level {u : ReserveUpdate} {rest : List ReserveUpdate} (h : s.mail.level = u :: rest) :
      s.Event i ((s.setLevelMail rest).levelTakes u)
  | comparator {vb : Nat} {rest : List Nat} (h : s.mail.sag = vb :: rest) :
      s.Event i ((s.setSagMail rest).comparatorTakes vb)
  | tolerance (h : s.sag.tolerance.isSome = true) : s.Event i s.toleranceExpiry
  | recovery (h : s.sag.recovery.isSome = true) (hs : s.sag.state = .recovering) :
      s.Event i
        (s.finish (s.setSag { s.sag with state := .clear, recovery := none, releasePending := false }).releaseHeld true)
  | sample (c : Chan) (m : Nat) : s.Event i (s.finish (s.takeSample c m) false)
  | short (c : Chan) (h : (s.chan c).closed = true) : s.Event i (s.finish (s.trip c .short) false)
  | rundownTimeout (c : Chan) (h : (s.chan c).state = .rundown) :
      s.Event i (s.finish ((s.push .rundownTimeout (some c) (s.chan c).m
        (Timer.lengthSeconds (s.chan c).rundownTimer)).endRundown c) false)
  | windowEnd (c : Chan) (h : (s.chan c).inrush.isTimed = true) : s.Event i (s.finish (s.endWindow c) false)
  | retry (c : Chan) (h : (s.chan c).state = .tripped) :
      s.Event i (s.finish
        ((s.setChan c { s.chan c with state := .waiting, retryTimer := none }).insertEntry c .retry false) false)
  | goodRun (c : Chan) (h : (s.chan c).state = .on) :
      s.Event i (s.setChan c { s.chan c with retryCount := 0, goodRun := none })
  | offTimer (c : Chan) (hs : (s.chan c).state = .throttled) (hp : (s.chan c).phase = .rest)
      (ht : (s.chan c).offTimer.isSome = true) :
      s.Event i (s.finish ((s.setChan c { s.chan c with offTimer := none }).askSlot c) false)
  | onTimer (c : Chan) (hs : (s.chan c).state = .throttled) (hp : (s.chan c).phase = .run) :
      s.Event i (s.finish (s.endRun c) false)
  | check (c : Chan) (r : CheckClass) (h : (s.chan c).state = .checking) :
      s.Event i
        ((s.setChan c { s.chan c with state := .off, checkTimer := none, lastCheck := checkResultOf r }).push .checkResult
          (some c) (checkResultOf r).code checkMs)
  | excess (h : s.planner.excess.isSome = true) : s.Event i (s.stopExcess.reevaluateThen .expiry)
  | restoreQuiet : s.Event i (s.stopQuiet.settle settleRounds true)
  | idle (n : TimerIx) (h : s.idleDue n = true) : s.Event i (s.idleExpiry n)
  | overtaken (n : TimerIx) (h : s.disc.device = .run) : s.Event i (s.overtakenExpiry n)
  | auxRaw (n : AuxIx) (level : Bool) : s.Event i (s.setAuxIn n (s.aux[n].rawChange level))
  | acquired (n : AuxIx) : s.Event i (s.setAuxIn n { s.aux[n] with level := some s.aux[n].raw, stability := none })
  | transition (n : AuxIx) (hi : mayChangeDevice i = true) :
      s.Event i ((s.setAuxIn n { s.aux[n] with level := some s.aux[n].raw, stability := none }).transition n s.aux[n].raw)
  | disconnect {u : ReserveUpdate} {rest : List ReserveUpdate} (h : s.mail.disconnect = u :: rest)
      (hi : mayChangeDevice i = true) : s.Event i ((s.setDisconnectMail rest).disconnectTakes u)
  | pulseEnd (h : ¬(s.disc.device = .start ∧ s.disc.entryPending = true)) : s.Event i s.endPulse
  | pulseEndEntersRun (h : s.disc.device = .start) (hi : mayChangeDevice i = true) : s.Event i s.endPulse.enterRun
  | storeWrite (p : Plan) (matched : Bool) (h : s.store.writing = some p) :
      s.Event i ((s.endWrite matched p).push (savedNotice matched) none p.generation (yesNo p.lock))

/-- What the three resets make of a state. -/
inductive State.ResetTo (i : Instr) (s : State) : State → Prop where
  | powerOn (straps : Straps) (service : Bool) (hi : mayChangeDevice i = true) : s.ResetTo i (s.powerOn straps service)
  | brownout (straps : Straps) (hi : mayChangeDevice i = true) : s.ResetTo i (s.brownout straps)
  | restart (h : s.link.reply = .none) : s.ResetTo i s.restart

/-- The three reset commands. -/
def isReset (i : Instr) : Bool :=
  match i with
  | .powerOnReset _ _ => true
  | .brownoutReset _ => true
  | .restartReset => true
  | _ => false

/-- The events of the line other than a request and a byte. -/
def isLine (i : Instr) : Bool :=
  match i with
  | .gapTimerExpiry => true
  | .frameRejected _ => true
  | .replyStart => true
  | .replyComplete => true
  | _ => false

/-- What a command that is no request can do: a step of the line, a reset, or an event of a block. -/
inductive State.Does (i : Instr) (s : State) : State → Prop where
  | line (l : Link) (hi : isLine i = true) : s.Does i { s with link := l }
  | byte (b : Byte) (err service : Bool) (hi : i = .byteReceived b err service) :
      s.Does i ((s.setService service).receiveByte b err)
  | reset {t : State} (hi : isReset i = true) (h : s.ResetTo i t) : s.Does i t
  | event {t : State} (h : s.Event i t) : s.Does i t

section
variable {i : Instr} {s t : State}

/-- A command that acts under a condition is the event or leaves the state. -/
theorem State.Event.ite {c : Prop} [Decidable c] (h : c → s.Event i t) : s.Event i (if c then t else s) := by
  split
  · exact h ‹_›
  · exact .nothing

theorem State.event_levelTakesNext : s.Event i s.levelTakesNext := by
  cases hmail : s.mail.level with
  | nil => rw [State.levelTakesNext, hmail]; exact .nothing
  | cons u rest => rw [State.levelTakesNext_of_mail hmail]; exact .level hmail

theorem State.event_disconnectTakesNext (hi : mayChangeDevice i = true) : s.Event i s.disconnectTakesNext := by
  unfold State.disconnectTakesNext
  split
  · exact .nothing
  · exact .disconnect ‹_› hi

end

/-- Every command that is no request answers a next state, and what it does is one of the events told above. -/
theorem exec_does (i : Instr) (s : State) (h : requestOf i = none) : ∃ t, exec i s = .next t ∧ s.Does i t := by
  cases i
  case batterySample vb cur => exact ⟨_, rfl, .event (.battery vb cur)⟩
  case restSync vb cur => exact ⟨_, rfl, .event (.ite fun _ => .battery vb cur)⟩
  case fullAnchor vb cur => exact ⟨_, rfl, .event (.ite fun _ => .battery vb cur)⟩
  case emptyAnchor vb cur => exact ⟨_, rfl, .event (.ite fun _ => .battery vb cur)⟩
  case temperatureSample x valid => exact ⟨_, rfl, .event (.temperature x valid)⟩
  case reserveUpdate => exact ⟨_, rfl, .event State.event_levelTakesNext⟩
  case deepeningDwellComplete => exact ⟨_, rfl, .event (.ite fun _ => State.event_levelTakesNext)⟩
  case easingDwellComplete => exact ⟨_, rfl, .event (.ite fun _ => State.event_levelTakesNext)⟩
  case sagComparatorSample =>
    refine ⟨_, rfl, .event ?_⟩
    split
    · exact .nothing
    · exact .comparator ‹_›
  case toleranceTimerExpiry => exact ⟨_, rfl, .event (.ite .tolerance)⟩
  case recoveryTimerExpiry =>
    refine ⟨_, rfl, .event (.ite fun h => ?_)⟩
    simp only [Bool.and_eq_true, decide_eq_true_eq] at h
    exact .recovery h.1 h.2
  case channelSample c m => exact ⟨_, rfl, .event (.sample c _)⟩
  case shortReport c => exact ⟨_, rfl, .event (.ite (.short c))⟩
  case rundownTimeout c =>
    refine ⟨_, rfl, .event (.ite fun h => .rundownTimeout c ?_)⟩
    simp only [Bool.and_eq_true, decide_eq_true_eq] at h
    exact h.1
  case inrushWindowEnd c => exact ⟨_, rfl, .event (.ite (.windowEnd c))⟩
  case retryTimerExpiry c =>
    refine ⟨_, rfl, .event (.ite fun h => .retry c ?_)⟩
    simp only [Bool.and_eq_true, decide_eq_true_eq] at h
    exact h.1
  case goodRunTimerExpiry c =>
    refine ⟨_, rfl, .event (.ite fun h => .goodRun c ?_)⟩
    simp only [Bool.and_eq_true, decide_eq_true_eq] at h
    exact h.1
  case offTimerExpiry c =>
    refine ⟨_, rfl, .event (.ite fun h => ?_)⟩
    simp only [Bool.and_eq_true, decide_eq_true_eq, and_assoc] at h
    obtain ⟨hs, hp, ht⟩ := h
    exact .offTimer c hs hp ht
  case onTimerExpiry c =>
    refine ⟨_, rfl, .event (.ite fun h => ?_)⟩
    simp only [Bool.and_eq_true, decide_eq_true_eq, and_assoc] at h
    obtain ⟨hs, hp, -⟩ := h
    exact .onTimer c hs hp
  case checkTimerExpiry c r =>
    refine ⟨_, rfl, .event (.ite fun h => .check c r ?_)⟩
    simp only [Bool.and_eq_true, decide_eq_true_eq] at h
    exact h.1
  case excessTimerExpiry => exact ⟨_, rfl, .event (.ite .excess)⟩
  case restoreQuietExpiry => exact ⟨_, rfl, .event (.ite fun _ => .restoreQuiet)⟩
  case idleTimerExpiry n =>
    refine ⟨_, rfl, .event ?_⟩
    split
    · exact .idle n ‹_›
    · refine .ite fun h => .overtaken n ?_
      simp only [Bool.and_eq_true, decide_eq_true_eq] at h
      exact h.1
  case auxRawChange n level => exact ⟨_, rfl, .event (.auxRaw n level)⟩
  case stabilityPeriodEnd n =>
    refine ⟨_, rfl, .event (.ite fun _ => ?_)⟩
    dsimp only
    split
    · exact .transition n rfl
    · exact .acquired n
  case disconnectReserveUpdate => exact ⟨_, rfl, .event (State.event_disconnectTakesNext rfl)⟩
  case isolateDwellComplete => exact ⟨_, rfl, .event (.ite fun _ => State.event_disconnectTakesNext rfl)⟩
  case reconnectChargeComplete => exact ⟨_, rfl, .event (.ite fun _ => State.event_disconnectTakesNext rfl)⟩
  case relayPulseEnd =>
    refine ⟨_, rfl, .event (.ite fun _ => ?_)⟩
    dsimp only
    split
    · rename_i h
      simp only [Bool.and_eq_true, decide_eq_true_eq] at h
      exact .pulseEndEntersRun h.1 rfl
    · rename_i h
      simp only [Bool.and_eq_true, decide_eq_true_eq] at h
      exact .pulseEnd h
  case storeWriteComplete matched =>
    refine ⟨_, rfl, .event ?_⟩
    split
    · exact .nothing
    · exact .storeWrite _ matched ‹_›
  case gapTimerExpiry =>
    refine ⟨_, rfl, ?_⟩
    split
    · split <;> exact .line _ rfl
    · exact .line s.link rfl
  case frameRejected frame =>
    refine ⟨_, rfl, ?_⟩
    split
    · exact .line s.link rfl
    · split
      · exact .line s.link rfl
      · split <;> exact .line _ rfl
  case replyStart =>
    refine ⟨_, rfl, ?_⟩
    split
    · exact .line s.link rfl
    · exact .line _ rfl
    · exact .line s.link rfl
  case replyComplete =>
    refine ⟨_, rfl, ?_⟩
    split
    · exact .line s.link rfl
    · exact .line s.link rfl
    · exact .line _ rfl
  case restartReset =>
    refine ⟨_, rfl, ?_⟩
    split
    · rename_i h
      simp only [Bool.and_eq_true, decide_eq_true_eq] at h
      exact .reset rfl (.restart h.2)
    · exact .event .nothing
  case powerOnReset straps service => exact ⟨_, rfl, .reset rfl (.powerOn straps service rfl)⟩
  case brownoutReset straps => exact ⟨_, rfl, .reset rfl (.brownout straps rfl)⟩
  case byteReceived b err service => exact ⟨_, rfl, .byte b err service rfl⟩
  all_goals cases h

/-- Every command is a request that arrives, or does one of the things told above. -/
theorem exec_cases {i : Instr} {s t : State} (h : exec i s = .next t) :
    (∃ p ty body, requestOf i = some (p, ty, body) ∧ t = s.arrive p ty body) ∨ s.Does i t := by
  cases hr : requestOf i with
  | none =>
    obtain ⟨t', ht', hd⟩ := exec_does i s hr
    rw [ht', Host.Outcome.next.injEq] at h
    exact .inr (h ▸ hd)
  | some x =>
    obtain ⟨p, ty, body⟩ := x
    rw [exec_of_requestOf hr, Host.Outcome.next.injEq] at h
    exact .inl ⟨p, ty, body, rfl, h.symm⟩

/-- Settles O4: a request arrives, every other command does one of the things told above. -/
theorem noCommandStops : Obligations.NoCommandStops := by
  intro i s
  cases hr : requestOf i with
  | none =>
    obtain ⟨t, ht, -⟩ := exec_does i s hr
    exact ⟨t, ht⟩
  | some x => exact ⟨_, exec_of_requestOf (p := x.1) (ty := x.2.1) (body := x.2.2) hr s⟩

/-- Settles O1: the queue is taken apart by definition. -/
theorem stepRunsTheFrontCommand : Obligations.StepRunsTheFrontCommand := by
  intro s c q h
  rw [step, h]

/-! ### What a step keeps -/

/-- A predicate that the line, the owners' parts, the resets and the events of the blocks keep is kept by every command. -/
theorem exec_preserves {P : State → Prop} (hline : ∀ s service l, P s → P { s.setService service with link := l })
    (hown : ∀ (ty : ReqType) body s, P s → s.disc.device ≠ .start → ty.refusal body s = none → P (ty.own body s).state)
    (hreset : ∀ i s t, P s → s.ResetTo i t → P t) (hevent : ∀ i s t, P s → s.Event i t → P t) {i : Instr} {s t : State}
    (hs : P s) (h : exec i s = .next t) : P t := by
  have hstep : ∀ k t, s.LinkStep k t → P t := by
    rintro k t (⟨service, l⟩ | ⟨service, l, ty, body, hstart, hadm⟩)
    · exact hline s service l hs
    · exact hline _ _ l (hown ty body _ (hline s service _ hs) hstart hadm)
  rcases exec_cases h with ⟨p, ty, body, -, rfl⟩ | hd
  · obtain ⟨k, hk, -⟩ := s.linkStep_arrive p ty body
    exact hstep k _ hk
  · cases hd with
    | line l _ => exact hline s s.sys.service l hs
    | byte b err service =>
      obtain ⟨k, hk⟩ := s.linkStep_receiveByte b err service
      exact hstep k _ hk
    | reset _ h => exact hreset i s t hs h
    | event h => exact hevent i s t hs h

/-- A predicate that does not speak of the queue, and is kept by a millisecond and by every command, is kept by every
step. -/
theorem step_preserves {P : State → Prop} (hqueue : ∀ s q, P s → P (s.withPending q)) (htick : ∀ s, P s → P s.tick)
    (hexec : ∀ i s t, P s → exec i s = .next t → P t) {s t : State} (hs : P s) (h : step s = .next t) : P t := by
  unfold step at h
  split at h
  · rw [Host.Outcome.next.injEq] at h
    exact h ▸ htick s hs
  · exact hexec _ _ _ (hqueue s _ hs) h

end Sys2Proof.Machine
end

section
/-!
PROOF. What the owner of an admitted request can do, said once (`State.Owned`): nothing, or the effect of the rule it stands
for.
-/

namespace Sys2Proof.Machine

/-- The OCV table replaced in the working plan. -/
def State.setOcvTable (s : State) (o : Vector OcvPoint 8) : State := { s with plan := { s.plan with ocv := o } }

/-- The level table replaced in the working plan. -/
def State.setLevelTable (s : State) (x : LevelTable) : State := { s with plan := { s.plan with levels := x } }

/-- R3, R4: the battery profile replaced in the working plan, and what that does to the estimator. -/
def State.setProfile (s : State) (b : Battery) : State :=
  { s with plan := { s.plan with battery := b }, est := s.est.reprofile s.plan.battery b }

/-- An idle timer's record replaced in the working plan. -/
def State.setTimerRec (s : State) (n : TimerIx) (r : TimerRec) : State :=
  { s with plan := { s.plan with timers := s.plan.timers.set n r } }

/-- An auxiliary input's record replaced in the working plan. -/
def State.setAuxRec (s : State) (n : AuxIx) (r : AuxRec) : State :=
  { s with plan := { s.plan with aux := s.plan.aux.set n r } }

/-- R197: a restart stands due. -/
def State.setRestartPending (s : State) : State := { s with sys := { s.sys with restartPending := true } }

/-- R198: the reset-cause set emptied. -/
def State.clearCauses (s : State) : State := { s with sys := { s.sys with causes := ⟨false, false, false⟩ } }

/-- R157: an isolation that is already there goes on for STORAGE. -/
def State.storeIsolated (s : State) : State := { s with disc := { s.disc with reason := .storage, chargeCount := 0 } }

/-- R185: up to four notices taken from the ring. -/
def State.takeNotices (s : State) : State := { s with ring := s.ring.taken }

/-- R146, R107: what a SWITCH request for channel `c` does ahead of its action. -/
def State.switchTaken (s : State) (c : Chan) (noted : Bool) : State := (s.noteOvertaken c noted).panelActivity c

/-- R132: SWITCH ON of an OFF channel. -/
def State.request (s : State) (c : Chan) (forced : Bool) : State :=
  (s.setChan c { s.chan c with state := .waiting }).insertEntry c .request forced

/-- R58: what an accepted SET_CHANNEL makes of the table and the channel, ahead of the generation and the Planner. -/
inductive State.ChannelEdited (s : State) (c : Chan) (r : ChannelRec) : State → Prop where
  | deactivated (hd : deactivates (s.crec c) r = true) (h : (s.chan c).state = .off ∨ (s.chan c).state = .locked) :
      s.ChannelEdited c r ((s.setCrec c r).setChan c (s.chan c).deactivated)
  | carried (hd : deactivates (s.crec c) r = false) : s.ChannelEdited c r ((s.setCrec c r).carryEdit c (s.crec c) r)

/-- What the owner of a request of each type makes of a state. -/
inductive State.Owned (s : State) : ReqType → State → Prop where
  | nothing (ty : ReqType) : s.Owned ty s
  | notices : s.Owned .notices s.takeNotices
  | switched (c : Chan) (noted : Bool) : s.Owned .switch (s.switchTaken c noted)
  | requested (c : Chan) (noted forced : Bool) (hd : s.disc.device ≠ .isolated) (h : (s.chan c).state = .off) :
      s.Owned .switch ((s.switchTaken c noted).finish ((s.switchTaken c noted).request c forced) false)
  | forced (c : Chan) (noted forced : Bool) :
      s.Owned .switch ((s.switchTaken c noted).finish
        (if forced then (s.switchTaken c noted).forceEntry c else s.switchTaken c noted) false)
  | recalled (c : Chan) (noted : Bool) (h : (s.chan c).state = .rundown) :
      s.Owned .switch ((s.switchTaken c noted).setChan c { s.chan c with intent := .waitRequest })
  | switchedOff (c : Chan) (noted : Bool) :
      s.Owned .switch ((s.switchTaken c noted).finish ((s.switchTaken c noted).switchOff c) false)
  | clearedLockout (c : Chan) (h : (s.chan c).state = .locked) :
      s.Owned .clearLockout (s.setChan c { s.chan c with state := .off, retryCount := 0, reason := .panel })
  | checks (c : Chan) (h : (s.chan c).state = .off) (hd : s.disc.device = .run) :
      s.Owned .check (s.setChan c { s.chan c with state := .checking, checkTimer := Timer.ms checkMs })
  | reconnected (hd : s.disc.device = .isolated) : s.Owned .reconnect (s.reconnect .request)
  | clearedCauses : s.Owned .clearCauses s.clearCauses
  | editedChannel (c : Chan) (body : List Byte) (raw : RawChannel) (t : State)
      (hraw : channelFromBody (s.crec c) body = some raw) (hvalid : raw.valid = true) (h : s.ChannelEdited c raw.fields t) :
      s.Owned .setChannel (s.finish t.bumpGeneration true)
  | editedLevel (l : Level) (body : List Byte) (x : LevelTable) (hx : levelsFromBody s.plan.levels l body = some x)
      (hvalid : validLevels s.sys.straps.vsys x = true) :
      s.Owned .setLevel (s.finish (s.setLevelTable x).cancelDwell.bumpGeneration
        (s.levelEditTells (s.setLevelTable x).cancelDwell.bumpGeneration))
  | editedBattery (body : List Byte) (b : Battery) (hb : batteryFromBody s.plan.battery body = some b)
      (hvalid : validBattery s.sys.straps.vsys b = true) : s.Owned .setBattery (s.setProfile b).bumpGeneration
  | editedOcv (body : List Byte) (o : Vector OcvPoint 8) (ho : ocvFromBody s.plan.ocv body = some o)
      (hvalid : validOcv s.sys.straps.vsys o = true) : s.Owned .setOcv (s.setOcvTable o).bumpGeneration
  | editedTimer (n : TimerIx) (body : List Byte) (raw : RawTimer) (hraw : timerFromBody s.plan.timers[n] body = some raw)
      (hvalid : raw.valid = true) :
      s.Owned .setTimer
        (((s.setTimerRec n raw.toRec).setIdle n raw.toRec.fresh).dropOvertaken n).bumpGeneration
  | editedAux (n : AuxIx) (r : AuxRec) : s.Owned .setAux (s.setAuxRec n r).bumpGeneration
  | charged (r : Nat) : s.Owned .setCharge (s.manualSync r)
  | isolated (hd : s.disc.device = .run) : s.Owned .isolate (s.isolate .storage)
  | stored (hd : s.disc.device = .isolated) : s.Owned .isolate s.storeIsolated
  | saved : s.Owned .save s.startWrite
  | lockedPlan : s.Owned .lockPlan (s.setLock true).startWrite
  | restarts : s.Owned .restart s.setRestartPending

section
variable {s : State}

@[simp] theorem Answer.whole_state (t : State) (x : Status) (f : List Byte) : (Answer.whole t x f).state = t := rfl

@[simp] theorem Answer.plain_state (t : State) (x : Status) : (Answer.plain t x).state = t := rfl

/-- R177, R191: a plan edit is refused, and the state stands, or its owner accepts it and the generation increases. -/
theorem planEdit_state {P : State → Prop} (body : List Byte) (owner : List Byte → State × Status)
    (acts : State → State) (hnot : P s)
    (hok : ∀ t, owner (body.drop 2) = (t, .ok) → P (acts t.bumpGeneration)) :
    P (editAnswer (planEdit body s owner) acts).state := by
  unfold planEdit
  dsimp only
  split
  · exact hnot
  · split
    · rename_i t ht
      exact hok t ht
    · rename_i t x hx ht
      unfold editAnswer
      dsimp only [Answer.before_state]
      rw [if_neg]
      · exact hnot
      · rintro rfl
        exact hx rfl

theorem State.owned_switchOn (c : Chan) (noted forced : Bool) :
    s.Owned .switch (switchOnChannel (s.switchTaken c noted) c forced).state := by
  have hchan : (s.switchTaken c noted).chan c = s.chan c := by
    unfold State.switchTaken State.panelActivity State.activity State.noteOvertaken
    split <;> split <;> rfl
  have hdisc : (s.switchTaken c noted).disc = s.disc := by
    unfold State.switchTaken State.panelActivity State.activity State.noteOvertaken
    split <;> split <;> rfl
  unfold switchOnChannel
  split
  · exact .switched c noted
  · rename_i hnot
    simp only [Bool.or_eq_true, decide_eq_true_eq, not_or] at hnot
    split
    · rename_i hstate
      exact .requested c noted forced (hdisc ▸ hnot.2) (hchan ▸ hstate)
    · exact .forced c noted forced
    · exact .switched c noted
    · exact .switched c noted
    · exact .switched c noted
    · rename_i hstate
      dsimp only [Answer.plain_state]
      split
      · rw [hchan]
        exact .recalled c noted (hchan ▸ hstate)
      · exact .switched c noted
    · exact .switched c noted
    · exact .switched c noted
    · exact .switched c noted

theorem State.editChannel_ok {index : Nat} {body : List Byte} {t : State} (h : s.editChannel index body = (t, .ok)) :
    ∃ (c : Chan) (raw : RawChannel), channelFromBody (s.crec c) body = some raw ∧ raw.valid = true
      ∧ s.ChannelEdited c raw.fields t := by
  unfold State.editChannel at h
  split at h
  · rename_i hindex
    dsimp only at h
    split at h
    · cases h
    · rename_i raw hraw
      refine ⟨⟨index, hindex⟩, raw, hraw, ?_⟩
      split at h
      · cases h
      · rename_i hvalid
        rw [Bool.not_eq_true', Bool.not_eq_false] at hvalid
        refine ⟨hvalid, ?_⟩
        split at h
        · rename_i hd
          split at h
          · rename_i hoff
            simp only [Bool.or_eq_true, decide_eq_true_eq] at hoff
            rw [Prod.mk.injEq] at h
            exact h.1 ▸ .deactivated hd hoff
          · cases h
        · rename_i hd
          rw [Prod.mk.injEq] at h
          exact h.1 ▸ .carried (Bool.not_eq_true _ ▸ hd)
  · cases h

theorem State.owned_setChannel (body : List Byte) : s.Owned .setChannel (ownSetChannel body s).state := by
  refine planEdit_state body _ _ (.nothing _) fun t ht => ?_
  obtain ⟨c, raw, hraw, hvalid, h⟩ := State.editChannel_ok ht
  exact .editedChannel c _ raw t hraw hvalid h

theorem State.owned_setLevel (body : List Byte) : s.Owned .setLevel (ownSetLevel body s).state := by
  refine planEdit_state body _ _ (.nothing _) fun t ht => ?_
  unfold State.editLevel at ht
  split at ht
  · split at ht
    · cases ht
    · rename_i x hx
      split at ht
      · rename_i hvalid
        rw [Prod.mk.injEq] at ht
        exact ht.1 ▸ .editedLevel _ _ x hx hvalid
      · cases ht
  · cases ht

theorem State.owned_setBattery (body : List Byte) : s.Owned .setBattery (ownSetBattery body s).state := by
  refine planEdit_state body _ _ (.nothing _) fun t ht => ?_
  unfold State.editBattery at ht
  split at ht
  · cases ht
  · rename_i b hb
    split at ht
    · rename_i hvalid
      rw [Prod.mk.injEq] at ht
      exact ht.1 ▸ .editedBattery _ b hb hvalid
    · cases ht

theorem State.owned_setOcv (body : List Byte) : s.Owned .setOcv (ownSetOcv body s).state := by
  refine planEdit_state body _ _ (.nothing _) fun t ht => ?_
  unfold State.editOcv at ht
  split at ht
  · cases ht
  · rename_i o ho
    split at ht
    · rename_i hvalid
      rw [Prod.mk.injEq] at ht
      exact ht.1 ▸ .editedOcv _ o ho hvalid
    · cases ht

theorem State.owned_setTimer (body : List Byte) : s.Owned .setTimer (ownSetTimer body s).state := by
  refine planEdit_state body _ _ (.nothing _) fun t ht => ?_
  unfold State.editTimer at ht
  split at ht
  · rename_i hindex
    dsimp only at ht
    split at ht
    · cases ht
    · rename_i raw hraw
      split at ht
      · rename_i hvalid
        rw [Prod.mk.injEq] at ht
        exact ht.1 ▸ .editedTimer _ _ raw hraw hvalid
      · cases ht
  · cases ht

theorem State.owned_setAux (body : List Byte) : s.Owned .setAux (ownSetAux body s).state := by
  refine planEdit_state body _ _ (.nothing _) fun t ht => ?_
  unfold State.editAux at ht
  split at ht
  · rename_i hindex
    dsimp only at ht
    split at ht
    · cases ht
    · rename_i r _
      rw [Prod.mk.injEq] at ht
      exact ht.1 ▸ .editedAux ⟨_, hindex⟩ r
  · cases ht

/-- Every owner's part is one of the effects told above. -/
theorem ReqType.owned (ty : ReqType) (body : List Byte) (s : State) : s.Owned ty (ty.own body s).state := by
  cases ty
  case status => exact .nothing _
  case channel => dsimp only [ReqType.own, ownChannel]; split <;> exact .nothing _
  case standbyPage => dsimp only [ReqType.own, ownStandbyPage]; split <;> exact .nothing _
  case notices => exact .notices
  case configRead =>
    have hstate : (ownConfigRead body s).state = s := by
      unfold ownConfigRead
      dsimp only
      split <;> (try split) <;> rfl
    exact hstate.symm ▸ .nothing _
  case switch =>
    dsimp only [ReqType.own, ownSwitch]
    split
    · split
      · exact State.owned_switchOn _ _ _
      · exact .switchedOff _ _
    · exact .nothing _
  case clearLockout =>
    dsimp only [ReqType.own, ownClearLockout]
    split
    · split
      · exact .clearedLockout _ ‹_›
      · exact .nothing _
    · exact .nothing _
  case check =>
    dsimp only [ReqType.own, ownCheck]
    split
    · split
      · rename_i h
        simp only [Bool.and_eq_true, decide_eq_true_eq] at h
        exact .checks _ h.1.2 h.2
      · exact .nothing _
    · exact .nothing _
  case reconnect =>
    dsimp only [ReqType.own, ownReconnect]
    split
    · split
      · exact .nothing _
      · split
        · exact .reconnected ‹_›
        · exact .nothing _
    · split <;> exact .nothing _
    · exact .nothing _
  case clearCauses => exact .clearedCauses
  case setChannel => exact State.owned_setChannel body
  case setLevel => exact State.owned_setLevel body
  case setBattery => exact State.owned_setBattery body
  case setOcv => exact State.owned_setOcv body
  case setTimer => exact State.owned_setTimer body
  case setAux => exact State.owned_setAux body
  case setCharge => exact .charged _
  case isolate =>
    dsimp only [ReqType.own, ownIsolate]
    split
    · split
      · exact .nothing _
      · exact .isolated ‹_›
    · exact .stored ‹_›
    · exact .nothing _
  case save =>
    dsimp only [ReqType.own, ownSave]
    split
    · exact .nothing _
    · exact .saved
  case lockPlan =>
    dsimp only [ReqType.own, ownLockPlan]
    split
    · exact .nothing _
    · exact .lockedPlan
  case restart =>
    dsimp only [ReqType.own, ownRestart]
    split
    · exact .nothing _
    · exact .restarts

end

end Sys2Proof.Machine
end

section
/-!
PROOF. The frames of the blocks' operations: what each of them changes beside what the Planner and the Start Slot act on.
-/

namespace Sys2Proof.Machine

variable (s : State)

/-- R36: a level change touches the level and what the Planner acts on. -/
theorem plannerOnly_changeLevel (new : Level) (cause : Cause) :
    State.PlannerOnly { s with level := (s.changeLevel new cause).level } (s.changeLevel new cause) := by
  rw [State.changeLevel_level]
  exact (plannerOnly_push { s with level := { s.level with current := new, pending := .none, count := 0 } } .levelChange
    (some new.val) s.level.current.val cause.code).trans (plannerOnly_tellLevelChange _)

theorem plannerOnly_setLevelDirect (new : Level) (cause : Cause) :
    State.PlannerOnly { s with level := (s.setLevelDirect new cause).level } (s.setLevelDirect new cause) := by
  unfold State.setLevelDirect
  split
  · exact .refl _
  · exact plannerOnly_changeLevel s new cause

theorem plannerOnly_deepening (count : Nat) (deep : Level) (byReserve : Bool) :
    State.PlannerOnly { s with level := (s.deepening count deep byReserve).level } (s.deepening count deep byReserve) := by
  unfold State.deepening
  split
  · exact plannerOnly_changeLevel s deep _
  · exact .refl _

theorem plannerOnly_easing (count : Nat) : State.PlannerOnly { s with level := (s.easing count).level } (s.easing count) := by
  unfold State.easing
  split
  · exact plannerOnly_changeLevel s _ .ease
  · exact .refl _

theorem plannerOnly_runDwell (u : ReserveUpdate) :
    State.PlannerOnly { s with level := (s.runDwell u).level } (s.runDwell u) := by
  simp only [State.runDwell]
  split
  · exact plannerOnly_deepening s _ _ _
  · split
    · exact plannerOnly_easing s _
    · exact .refl _

/-- R31 to R38: an update taken by the Level Controller touches the level and what the Planner acts on. -/
theorem plannerOnly_levelTakes (u : ReserveUpdate) :
    State.PlannerOnly { s with level := (s.levelTakes u).level } (s.levelTakes u) := by
  unfold State.levelTakes
  dsimp only
  split
  · split
    · exact .refl _
    · exact plannerOnly_setLevelDirect { s.storeDeep u with level := { (s.storeDeep u).level with firstTaken := true } } _ _
  · split
    · exact plannerOnly_runDwell (s.storeDeep u) u
    · exact .refl _

/-- R42, R45: a rising event touches the Sag Monitor and the ring. -/
theorem plannerOnly_risingEvent (vb : Nat) : State.PlannerOnly { s with sag := (s.risingEvent vb).sag } (s.risingEvent vb) := by
  unfold State.risingEvent
  split
  · split <;> exact .refl _
  · exact plannerOnly_push s.startRecovery _ _ _ _
  · exact .refl _
  · exact .refl _

/-- R41: a voltage taken by the comparator touches the Sag Monitor and what the Planner acts on. -/
theorem plannerOnly_comparatorTakes (vb : Nat) :
    State.PlannerOnly { s with sag := (s.comparatorTakes vb).sag } (s.comparatorTakes vb) := by
  unfold State.comparatorTakes
  split
  · exact .refl _
  · split
    · unfold State.fallingEvent
      split <;> exact .refl _
    · split
      · have hfinish := plannerOnly_finish ((s.setSag { s.sag with high := true }).risingEvent vb) s
          (s.sag.state ≠ .clear && ((s.setSag { s.sag with high := true }).risingEvent vb).sag.state = .clear)
        have hrise := plannerOnly_risingEvent (s.setSag { s.sag with high := true }) vb
        dsimp only
        rw [hfinish.sag]
        exact .trans (t := (s.setSag { s.sag with high := true }).risingEvent vb) hrise hfinish
      · exact .refl _

/-- R43, R44: the answer to a sag shed touches the Sag Monitor and what the Planner acts on. -/
theorem plannerOnly_askSagShed : State.PlannerOnly { s with sag := s.askSagShed.sag } s.askSagShed := by
  have hshed := plannerOnly_sagShed s
  unfold State.askSagShed
  split
  · rename_i t c ht
    rw [ht] at hshed
    have hsettle := plannerOnly_settle (t.setSag { t.sag with sheds := t.sag.sheds + 1 }) settleRounds true
    rw [hsettle.sag]
    exact .trans (t := t.setSag { t.sag with sheds := t.sag.sheds + 1 })
      ⟨hshed.pending, hshed.est, hshed.mail, hshed.level, rfl, hshed.idle, hshed.aux, hshed.disc, hshed.link, hshed.plan,
        hshed.store, hshed.sys, hshed.overtaken⟩ hsettle
  · rename_i t ht
    rw [ht] at hshed
    split
    · exact ⟨hshed.pending, hshed.est, hshed.mail, hshed.level, rfl, hshed.idle, hshed.aux, hshed.disc, hshed.link,
        hshed.plan, hshed.store, hshed.sys, hshed.overtaken⟩
    · exact ⟨hshed.pending, hshed.est, hshed.mail, hshed.level, rfl, hshed.idle, hshed.aux, hshed.disc, hshed.link,
        hshed.plan, hshed.store, hshed.sys, hshed.overtaken⟩

/-- R43: the state at which the first sag shed of an episode is asked for. -/
def State.sagStarted (s : State) : State :=
  (s.setSag { s.sag with state := .sagShedding, releasePending := true, noReliefReported := false, sheds := 0
                         tolerance := s.toleranceTimer }).push .sagStart none s.est.vb s.plan.battery.vSag

theorem State.toleranceExpiry_of_sagging (h : s.sag.state = .sagging) : s.toleranceExpiry = s.sagStarted.askSagShed := by
  unfold State.toleranceExpiry
  rw [h]
  rfl

theorem State.toleranceExpiry_of_sagShedding (h : s.sag.state = .sagShedding) :
    s.toleranceExpiry = (s.setSag { s.sag with tolerance := s.toleranceTimer }).askSagShed := by
  unfold State.toleranceExpiry
  rw [h]

/-- R43: an expiry of the tolerance timer touches the Sag Monitor and what the Planner acts on. -/
theorem plannerOnly_toleranceExpiry : State.PlannerOnly { s with sag := s.toleranceExpiry.sag } s.toleranceExpiry := by
  cases h : s.sag.state with
  | sagging =>
    rw [State.toleranceExpiry_of_sagging s h]
    have hask := plannerOnly_askSagShed s.sagStarted
    exact ⟨hask.pending, hask.est, hask.mail, hask.level, rfl, hask.idle, hask.aux, hask.disc, hask.link, hask.plan,
      hask.store, hask.sys, hask.overtaken⟩
  | sagShedding =>
    rw [State.toleranceExpiry_of_sagShedding s h]
    exact plannerOnly_askSagShed (s.setSag { s.sag with tolerance := s.toleranceTimer })
  | clear =>
    unfold State.toleranceExpiry
    rw [h]
    exact .refl s
  | recovering =>
    unfold State.toleranceExpiry
    rw [h]
    exact .refl s

/-- R146, R147: an activity touches the idle timers alone. -/
theorem State.activity_eq (q : TimerRec → Bool) : s.activity q = { s with idle := (s.activity q).idle } := by
  unfold State.activity
  split <;> rfl

theorem State.currentActivity_eq (c : Chan) (m : Nat) :
    s.currentActivity c m = { s with idle := (s.currentActivity c m).idle } := by
  unfold State.currentActivity
  split
  · exact s.activity_eq _
  · rfl

theorem plannerOnly_doneTest (c : Chan) (m : Nat) : s.PlannerOnly (s.doneTest c m) := by
  unfold State.doneTest
  split
  · split
    · exact plannerOnly_endRundown s c
    · exact plannerOnly_setChan s c _
  · exact plannerOnly_setChan s c _

theorem plannerOnly_endSampleWindow (c : Chan) : s.PlannerOnly (s.endSampleWindow c) := by
  unfold State.endSampleWindow
  split
  · exact plannerOnly_endWindow s c
  · exact .refl s

theorem plannerOnly_testSample (c : Chan) (m : Nat) : s.PlannerOnly (s.testSample c m) := by
  have hstreak := (plannerOnly_setChan s c { s.chan c with ocStreak := (s.chan c).streakAfter (s.crec c) m }).trans
    (plannerOnly_endSampleWindow _ c)
  unfold State.testSample
  dsimp only
  split
  · exact plannerOnly_trip s c _
  · split
    · exact hstreak.trans (plannerOnly_doneTest _ c m)
    · exact hstreak

/-- R114: a channel sample touches the idle timers and what the Planner acts on. -/
theorem plannerOnly_takeSample (c : Chan) (m : Nat) :
    State.PlannerOnly { s with idle := (s.takeSample c m).idle } (s.takeSample c m) := by
  have htest : s.PlannerOnly
      (if ((s.setChan c { s.chan c with m := m }).chan c).closed then (s.setChan c { s.chan c with m := m }).testSample c m
        else s.setChan c { s.chan c with m := m }) := by
    split
    · exact (plannerOnly_setChan s c _).trans (plannerOnly_testSample _ c m)
    · exact plannerOnly_setChan s c _
  unfold State.takeSample
  dsimp only
  rw [State.currentActivity_eq]
  exact ⟨htest.pending, htest.est, htest.mail, htest.level, htest.sag, rfl, htest.aux, htest.disc, htest.link, htest.plan,
    htest.store, htest.sys, htest.overtaken⟩

/-- R148: the state that an idle expiry leaves to the slot and the Planner. -/
def State.idleTurned (s : State) (n : TimerIx) : State :=
  (((s.idleOffAll (s.affectedMembers s.plan.timers[n])).setIdle n ⟨.expired, 0⟩).dropOvertaken n).push .idleOff (some n)
    (s.affectedMembers s.plan.timers[n]).length s.plan.timers[n].terminal

theorem State.idleExpiry_eq (n : TimerIx) : s.idleExpiry n = s.finish (s.idleTurned n) false := rfl

/-- R107: the state that an overtaken expiry leaves to the slot and the Planner. -/
def State.overtakenTurned (s : State) (n : TimerIx) : State := (s.idleOffAll (s.overtakenMembers n)).dropOvertaken n

theorem State.overtakenExpiry_eq (n : TimerIx) : s.overtakenExpiry n = s.finish (s.overtakenTurned n) false := rfl

/-- R148: an idle expiry touches the idle timers, the overtaken expiries and what the Planner acts on. -/
theorem plannerOnly_idleTurned (n : TimerIx) :
    State.PlannerOnly
      { s with idle := s.idle.set n ⟨.expired, 0⟩, overtaken := s.overtaken.filter fun x => x.1 ≠ n } (s.idleTurned n) := by
  have hoff := plannerOnly_idleOffAll s (s.affectedMembers s.plan.timers[n])
  unfold State.idleTurned
  generalize s.idleOffAll (s.affectedMembers s.plan.timers[n]) = off at hoff ⊢
  exact ⟨hoff.pending, hoff.est, hoff.mail, hoff.level, hoff.sag, congrArg (fun x => x.set n ⟨.expired, 0⟩) hoff.idle,
    hoff.aux, hoff.disc, hoff.link, hoff.plan, hoff.store, hoff.sys,
    congrArg (fun l => l.filter fun x => decide (x.1 ≠ n)) hoff.overtaken⟩

/-- R107: an overtaken expiry touches the overtaken expiries and what the Planner acts on. -/
theorem plannerOnly_overtakenTurned (n : TimerIx) :
    State.PlannerOnly { s with overtaken := s.overtaken.filter fun x => x.1 ≠ n } (s.overtakenTurned n) := by
  have hoff := plannerOnly_idleOffAll s (s.overtakenMembers n)
  unfold State.overtakenTurned
  generalize s.idleOffAll (s.overtakenMembers n) = off at hoff ⊢
  exact ⟨hoff.pending, hoff.est, hoff.mail, hoff.level, hoff.sag, hoff.idle, hoff.aux, hoff.disc, hoff.link, hoff.plan,
    hoff.store, hoff.sys, congrArg (fun l => l.filter fun x => decide (x.1 ≠ n)) hoff.overtaken⟩

/-! ### The Disconnect Unit -/

theorem plannerOnly_mapChans (f : Chan → Channel → Channel) : s.PlannerOnly (s.mapChans f) where
  pending := s.mapChans_pending f
  est := s.mapChans_est f
  mail := s.mapChans_mail f
  level := s.mapChans_level f
  sag := s.mapChans_sag f
  idle := s.mapChans_idle f
  aux := s.mapChans_aux f
  disc := s.mapChans_disc f
  link := s.mapChans_link f
  plan := s.mapChans_plan f
  store := s.mapChans_store f
  sys := s.mapChans_sys f
  overtaken := s.mapChans_overtaken f

theorem plannerOnly_resumeAll : s.PlannerOnly s.resumeAll := by
  unfold State.resumeAll
  dsimp only
  split
  · exact .refl s
  · exact (plannerOnly_mapChans s _).trans (plannerOnly_setEntries _ _)

/-- R154: the device entered into RUN, with the reason NONE and the counts 0. -/
def Disconnect.entered (d : Disconnect) : Disconnect :=
  { d with device := .run, reason := .none, isolateCount := 0, chargeCount := 0, entryPending := false }

/-- R154: the entry to RUN touches the Disconnect Unit and what the Planner acts on. -/
theorem plannerOnly_enterRun : State.PlannerOnly { s with disc := s.disc.entered } s.enterRun :=
  .trans (t := State.resumeAll { s with disc := s.disc.entered }) (plannerOnly_resumeAll _) (plannerOnly_settle _ _ _)

/-- R162: the device reconnected. -/
def Disconnect.reconnected (d : Disconnect) : Disconnect :=
  { d with device := .run, reason := .none, isolateCount := 0, chargeCount := 0, pulse := some (.closeRelay, pulseMs)
           lastPulse := .closeRelay }

/-- R162 steps 1 to 3, R152: the reconnected state ahead of the RESUME event. -/
def State.rejoined (s : State) : State :=
  State.armIdle { s.closeRelay.setLevelDirect s.level.deep s.closeRelay.reconnectCause with
    disc := { (s.closeRelay.setLevelDirect s.level.deep s.closeRelay.reconnectCause).disc with device := .run } }

theorem State.reconnect_eq (k : Trigger) :
    s.reconnect k = (s.rejoined.resumeAll.settle settleRounds true).push .reconnected none k.code
      (s.rejoined.resumeAll.settle settleRounds true).disc.vc := rfl

/-- R162, R39, R152: the steps ahead of the RESUME event touch the Disconnect Unit, the level, the idle timers and what the
Planner acts on. -/
theorem plannerOnly_rejoined :
    State.PlannerOnly { s with disc := s.disc.reconnected, level := s.rejoined.level, idle := s.armIdle.idle } s.rejoined := by
  have h := plannerOnly_setLevelDirect s.closeRelay s.level.deep s.closeRelay.reconnectCause
  refine ⟨h.pending, h.est, h.mail, rfl, h.sag, ?_, h.aux, ?_, h.link, h.plan, h.store, h.sys, h.overtaken⟩
  · dsimp only [State.rejoined, State.armIdle]
    rw [h.plan, h.idle]
    rfl
  · exact congrArg (fun d : Disconnect => { d with device := .run }) h.disc

/-- R162: a reconnection touches the Disconnect Unit, the level, the idle timers and what the Planner acts on. -/
theorem plannerOnly_reconnect (k : Trigger) :
    State.PlannerOnly { s with disc := s.disc.reconnected, level := s.rejoined.level, idle := s.armIdle.idle }
      (s.reconnect k) := by
  rw [State.reconnect_eq]
  exact ((plannerOnly_rejoined s).trans (plannerOnly_resumeAll s.rejoined)).trans
    ((plannerOnly_settle s.rejoined.resumeAll _ _).trans (plannerOnly_push (s.rejoined.resumeAll.settle _ _) _ _ _ _))

theorem plannerOnly_emptyStandby : s.PlannerOnly s.emptyStandby := by
  unfold State.emptyStandby
  split
  · exact .refl s
  · exact plannerOnly_setEntries s []

/-- R158 steps 1 to 5: the channels cut, the slot and the Planner's timers cleared and the list emptied. -/
def State.cutAll (s : State) : State :=
  State.emptyStandby { (s.mapChans fun _ ch => ch.isolated) with slot := ⟨none, []⟩, planner := ⟨none, none, false⟩ }

theorem State.isolateBlocks_eq :
    s.isolateBlocks = ((s.cutAll.setSag SagMon.initial).cancelDwell.dropSagSamples).setOvertaken [] := rfl

theorem plannerOnly_cutAll : s.PlannerOnly s.cutAll := by
  exact (((plannerOnly_mapChans s fun _ ch => ch.isolated).trans (plannerOnly_slot _ ⟨none, []⟩)).trans
    (plannerOnly_planner _ ⟨none, none, false⟩)).trans (plannerOnly_emptyStandby _)

theorem plannerOnly_isolateBlocks :
    State.PlannerOnly
      { s with sag := SagMon.initial, level := s.cancelDwell.level, mail := s.dropSagSamples.mail, overtaken := [] }
      s.isolateBlocks := by
  have h := plannerOnly_cutAll s
  rw [State.isolateBlocks_eq]
  exact ⟨h.pending, h.est, congrArg (fun m : Mail => { m with sag := [] }) h.mail,
    congrArg (fun x : LevelCtl => { x with pending := .none, count := 0 }) h.level, rfl, h.idle, h.aux, h.disc, h.link,
    h.plan, h.store, h.sys, rfl⟩

/-- R158: an isolation touches the Disconnect Unit, the Sag Monitor with its queue, the dwell, the overtaken expiries and
what the Planner acts on. -/
theorem plannerOnly_isolate (reason : IsoReason) :
    State.PlannerOnly
      { s with
        disc := (s.isolateUnit reason).disc, sag := SagMon.initial, level := s.cancelDwell.level
        mail := s.dropSagSamples.mail, overtaken := [] }
      (s.isolate reason) := by
  have h := (plannerOnly_isolateBlocks s).trans (plannerOnly_pushAll s.isolateBlocks (s.abortNotices allChans))
  refine ⟨h.pending, h.est, h.mail, h.level, h.sag, h.idle, h.aux, ?_, h.link, h.plan, h.store, h.sys, h.overtaken⟩
  exact congrArg (fun d : Disconnect => { d with
    device := .isolated, reason := reason, isolateCount := 0, chargeCount := 0, entryPending := false
    pulse := some (.openRelay, pulseMs), lastPulse := .openRelay }) h.disc

/-! ### What stands at every event -/

/-- What neither the events of the blocks nor an isolation, a reconnection or an entry to RUN touch. -/
structure State.SystemKept (s t : State) : Prop where
  pending : t.pending = s.pending
  link : t.link = s.link
  plan : t.plan = s.plan
  sys : t.sys = s.sys

variable {s}

theorem State.SystemKept.refl : s.SystemKept s := ⟨rfl, rfl, rfl, rfl⟩

theorem State.SystemKept.trans {t u : State} (h : s.SystemKept t) (k : t.SystemKept u) : s.SystemKept u :=
  ⟨k.pending.trans h.pending, k.link.trans h.link, k.plan.trans h.plan, k.sys.trans h.sys⟩

theorem State.PlannerOnly.systemKept {t : State} (h : s.PlannerOnly t) : s.SystemKept t :=
  ⟨h.pending, h.link, h.plan, h.sys⟩

/-- The update whose frame is `h` leaves the queue, the link, the plan and the start-up block as they are in `s`. -/
theorem State.SystemKept.of_plannerOnly {r t : State} (h : r.PlannerOnly t) (hr : s.SystemKept r := by exact ⟨rfl, rfl, rfl, rfl⟩) :
    s.SystemKept t :=
  hr.trans h.systemKept

theorem systemKept_wakeEvent : s.SystemKept s.wakeEvent := by
  unfold State.wakeEvent
  split
  · split
    · exact .of_plannerOnly (plannerOnly_reconnect s _)
    · exact ⟨rfl, rfl, rfl, rfl⟩
  · exact .refl

theorem systemKept_transition (n : AuxIx) (level : Bool) : s.SystemKept (s.transition n level) := by
  have hact : s.SystemKept (s.auxActivity n) := by
    rw [State.auxActivity, State.activity_eq]
    exact ⟨rfl, rfl, rfl, rfl⟩
  unfold State.transition
  dsimp only
  split
  · split
    · exact hact.trans systemKept_wakeEvent
    · exact hact
  · exact .refl

theorem systemKept_disconnectTakes (u : ReserveUpdate) : s.SystemKept (s.disconnectTakes u) := by
  have hnote : s.SystemKept (s.noteUpdate u) := ⟨rfl, rfl, rfl, rfl⟩
  unfold State.disconnectTakes
  dsimp only
  split
  · unfold State.startTakes
    split
    · exact hnote.trans (.of_plannerOnly (plannerOnly_enterRun _))
    · exact hnote.trans ⟨rfl, rfl, rfl, rfl⟩
  · unfold State.runTakes
    split
    · exact hnote.trans (.of_plannerOnly (plannerOnly_isolate _ _))
    · split <;> exact hnote.trans ⟨rfl, rfl, rfl, rfl⟩
  · unfold State.isolatedTakes
    split
    · exact hnote.trans (.of_plannerOnly (plannerOnly_reconnect _ _))
    · exact hnote.trans ⟨rfl, rfl, rfl, rfl⟩

/-- R1: a battery sample touches the estimator, the queues and the ring. -/
theorem State.takeBatterySample_eq (s : State) (vb i : Int) :
    s.takeBatterySample vb i =
      { s with est := (s.sampleResult vb i).est, ring := (s.takeBatterySample vb i).ring
               mail := s.mail.publish (s.sampleResult vb i).est.update s.comparatorListens } := by
  unfold State.takeBatterySample
  dsimp only
  rw [State.pushAll_eq]

/-- No event of a block touches the queue, the link, the plan or the start-up block. -/
theorem State.Event.systemKept {i : Instr} {t : State} (h : s.Event i t) : s.SystemKept t := by
  cases h with
  | nothing => exact .refl
  | battery vb cur => rw [State.takeBatterySample_eq]; exact ⟨rfl, rfl, rfl, rfl⟩
  | temperature x valid => exact ⟨rfl, rfl, rfl, rfl⟩
  | level => exact .of_plannerOnly (plannerOnly_levelTakes _ _)
  | comparator => exact .of_plannerOnly (plannerOnly_comparatorTakes _ _)
  | tolerance => exact .of_plannerOnly (plannerOnly_toleranceExpiry s)
  | recovery =>
    exact .of_plannerOnly ((plannerOnly_releaseHeld (s.setSag _)).trans (plannerOnly_finish _ _ _))
  | sample c m =>
    exact (State.SystemKept.of_plannerOnly (plannerOnly_takeSample s c m)).trans (plannerOnly_finish _ _ _).systemKept
  | short c => exact ((plannerOnly_trip s c _).trans (plannerOnly_finish _ _ _)).systemKept
  | rundownTimeout c =>
    exact (((plannerOnly_push s _ _ _ _).trans (plannerOnly_endRundown _ c)).trans (plannerOnly_finish _ _ _)).systemKept
  | windowEnd c => exact ((plannerOnly_endWindow s c).trans (plannerOnly_finish _ _ _)).systemKept
  | retry c =>
    exact (((plannerOnly_setChan s c _).trans (plannerOnly_insertEntry _ c _ _)).trans
      (plannerOnly_finish _ _ _)).systemKept
  | goodRun c => exact (plannerOnly_setChan s c _).systemKept
  | offTimer c =>
    exact (((plannerOnly_setChan s c _).trans (plannerOnly_askSlot _ c)).trans (plannerOnly_finish _ _ _)).systemKept
  | onTimer c => exact ((plannerOnly_endRun s c).trans (plannerOnly_finish _ _ _)).systemKept
  | check c r => exact ((plannerOnly_setChan s c _).trans (plannerOnly_push _ _ _ _ _)).systemKept
  | excess => exact ((plannerOnly_planner s _).trans (plannerOnly_reevaluateThen _ _)).systemKept
  | restoreQuiet => exact ((plannerOnly_planner s _).trans (plannerOnly_settle _ _ _)).systemKept
  | idle n =>
    rw [State.idleExpiry_eq]
    exact (State.SystemKept.of_plannerOnly (plannerOnly_idleTurned s n)).trans (plannerOnly_finish _ _ _).systemKept
  | overtaken n =>
    rw [State.overtakenExpiry_eq]
    exact (State.SystemKept.of_plannerOnly (plannerOnly_overtakenTurned s n)).trans (plannerOnly_finish _ _ _).systemKept
  | auxRaw n level => exact ⟨rfl, rfl, rfl, rfl⟩
  | acquired n => exact ⟨rfl, rfl, rfl, rfl⟩
  | transition n =>
    have h : (s.setAuxIn n { s.aux[n] with level := some s.aux[n].raw, stability := none }).SystemKept
        ((s.setAuxIn n { s.aux[n] with level := some s.aux[n].raw, stability := none }).transition n s.aux[n].raw) :=
      systemKept_transition n _
    exact ⟨h.pending, h.link, h.plan, h.sys⟩
  | @disconnect u rest =>
    have h : (s.setDisconnectMail rest).SystemKept _ := systemKept_disconnectTakes u
    exact ⟨h.pending, h.link, h.plan, h.sys⟩
  | pulseEnd => exact ⟨rfl, rfl, rfl, rfl⟩
  | pulseEndEntersRun => exact .of_plannerOnly (plannerOnly_enterRun _)
  | storeWrite p matched => exact ⟨rfl, rfl, rfl, rfl⟩

end Sys2Proof.Machine
end

section
/-!
PROOF. Which commands change the plan and the device state (R190, R154): the frames of the owners' parts and of the resets.
-/

namespace Sys2Proof.Machine

section
variable (s : State)

/-- R107, R146: the activity of a SWITCH request touches the idle timers and the overtaken expiries. -/
theorem State.switchTaken_eq (c : Chan) (noted : Bool) :
    s.switchTaken c noted =
      { s with idle := (s.switchTaken c noted).idle, overtaken := (s.switchTaken c noted).overtaken } := by
  unfold State.switchTaken State.panelActivity
  rw [State.activity_eq, State.noteOvertaken_eq]

theorem plannerOnly_repositionEntry (c : Chan) : s.PlannerOnly (s.repositionEntry c) := by
  unfold State.repositionEntry
  split
  · exact .refl s
  · exact plannerOnly_setEntries s _

theorem plannerOnly_carryEdit (c : Chan) (old new : ChannelRec) : s.PlannerOnly (s.carryEdit c old new) := by
  unfold State.carryEdit
  split
  · exact plannerOnly_repositionEntry s c
  · split
    · exact plannerOnly_editUnthrottle s c
    · exact .refl s

/-- R58: an accepted SET_CHANNEL touches the record and what the Planner acts on. -/
theorem plannerOnly_channelEdited {c : Chan} {r : ChannelRec} {t : State} (h : s.ChannelEdited c r t) :
    (s.setCrec c r).PlannerOnly t := by
  cases h with
  | deactivated => exact plannerOnly_setChan _ c _
  | carried => exact plannerOnly_carryEdit _ c _ r

theorem plannerOnly_realign (old : Plan) (cs : List Chan) : s.PlannerOnly (s.realign old cs) := by
  induction cs generalizing s with
  | nil => exact .refl s
  | cons c cs ih =>
    unfold State.realign
    split
    · exact (plannerOnly_editUnthrottle s c).trans (ih _)
    · exact ih s

/-- R197: the restarted state with its notices, before the kept channels are brought into line. -/
def State.restarted (s : State) : State :=
  (((s.restartBlocks (loadPlan s.store.image s.sys.straps).plan).pushReset 3).pushAll
    (loadPlan s.store.image s.sys.straps).notice).pushAll (s.abortNotices (loadPlan s.store.image s.sys.straps).plan.cuts)

theorem State.restart_eq : s.restart = (s.restarted.realign s.plan allChans).settle settleRounds true := rfl

theorem plannerOnly_restarted :
    (s.restartBlocks (loadPlan s.store.image s.sys.straps).plan).PlannerOnly s.restarted :=
  ((plannerOnly_push _ _ _ _ _).trans (plannerOnly_pushAll _ _)).trans (plannerOnly_pushAll _ _)

/-- R197: beside what it sets in every block, a RESTART touches what the Planner acts on. -/
theorem plannerOnly_restart :
    (s.restartBlocks (loadPlan s.store.image s.sys.straps).plan).PlannerOnly s.restart := by
  rw [State.restart_eq]
  exact ((plannerOnly_restarted s).trans (plannerOnly_realign s.restarted s.plan allChans)).trans
    (plannerOnly_settle _ _ _)

end

section
variable {s t : State}

/-! ### The plan (R190) -/

/-- R190: of the owners only those of the plan edits and of LOCK_PLAN touch the plan. -/
theorem State.Owned.plan {ty : ReqType} (h : s.Owned ty t) (hedit : ty.isPlanEdit = false) (hlock : ty ≠ .lockPlan) :
    t.plan = s.plan := by
  have taken : ∀ c noted, (s.switchTaken c noted).plan = s.plan := fun c noted => by rw [State.switchTaken_eq]
  cases h with
  | switched c noted => exact taken c noted
  | requested c noted forced =>
    exact ((plannerOnly_finish _ _ _).plan.trans
      ((plannerOnly_setChan _ c _).trans (plannerOnly_insertEntry _ c _ _)).plan).trans (taken c noted)
  | forced c noted forced =>
    refine ((plannerOnly_finish _ _ _).plan.trans ?_).trans (taken c noted)
    split
    · exact (plannerOnly_forceEntry _ c).plan
    · rfl
  | recalled c noted => exact taken c noted
  | switchedOff c noted =>
    exact ((plannerOnly_finish _ _ _).plan.trans (plannerOnly_switchOff _ c).plan).trans (taken c noted)
  | reconnected => exact (plannerOnly_reconnect s _).plan
  | isolated => exact (plannerOnly_isolate s _).plan
  | lockedPlan => exact absurd rfl hlock
  | editedChannel => cases hedit
  | editedLevel => cases hedit
  | editedBattery => cases hedit
  | editedOcv => cases hedit
  | editedTimer => cases hedit
  | editedAux => cases hedit
  | nothing => rfl
  | notices => rfl
  | clearedLockout => rfl
  | checks => rfl
  | clearedCauses => rfl
  | charged => rfl
  | stored => rfl
  | saved => rfl
  | restarts => rfl

/-- R173: the type of a request command whose type byte is outside the catalogue is none. -/
theorem reqTypeOf_of_typeUnknown {ty : Byte} (h : typeUnknown ty = true) : reqTypeOf ty = none := by
  unfold reqTypeOf
  rw [List.find?_eq_none]
  intro k hk heq
  rw [decide_eq_true_eq] at heq
  subst heq
  cases k <;> exact absurd h (by decide)

/-- The plan edits and LOCK_PLAN are commands that may change the plan. -/
theorem mayChangePlan_of_request {i : Instr} {p : Peer} {ty : Byte} {body : List Byte} {k : ReqType} (hwf : i.wf = true)
    (hr : requestOf i = some (p, ty, body)) (hk : reqTypeOf ty = some k) (h : k.isPlanEdit = true ∨ k = .lockPlan) :
    mayChangePlan i = true := by
  cases i <;> simp only [requestOf, Option.some.injEq, Prod.mk.injEq, reduceCtorEq] at hr
  case unknownTypeRequest p' ty' body' =>
    obtain ⟨-, rfl, -⟩ := hr
    simp only [Instr.wf, Bool.and_eq_true] at hwf
    rw [reqTypeOf_of_typeUnknown hwf.1] at hk
    cases hk
  all_goals
    obtain ⟨-, rfl, -⟩ := hr
    rw [reqTypeOf_code, Option.some.injEq] at hk
    subst hk
    revert h
    simp [mayChangePlan, ReqType.isPlanEdit, ReqType.code]

theorem mayChangePlan_of_isReset {i : Instr} (hi : isReset i = true) : mayChangePlan i = true := by
  unfold isReset at hi
  split at hi
  case h_4 => cases hi
  all_goals rfl

/-- Settles O17: the events of the blocks leave the plan, and of the owners only the plan edits' and LOCK_PLAN's do not. -/
theorem onlyEditsAndResetsChangeThePlan : Obligations.OnlyEditsAndResetsChangeThePlan := by
  intro i s t hwf hexec hne
  rcases exec_cases hexec with ⟨p, ty, body, hr, rfl⟩ | hd
  · obtain ⟨k, hk, hty⟩ := s.linkStep_arrive p ty body
    generalize s.arrive p ty body = u at hk hne
    cases hk with
    | quiet => exact absurd rfl hne
    | owned service l k body' =>
      refine mayChangePlan_of_request hwf hr (hty k rfl) ?_
      by_contra hnot
      rw [not_or, Bool.not_eq_true] at hnot
      have hkept := State.Owned.plan (ReqType.owned k body' ((s.setService service).setRx .hold [])) hnot.1 hnot.2
      exact hne hkept
  · cases hd with
    | line => exact absurd rfl hne
    | byte b err service hi => rw [hi]; rfl
    | reset hi => exact mayChangePlan_of_isReset hi
    | event h => exact absurd h.systemKept.plan hne

/-! ### The device state (R154) -/

/-- R154: of the owners only those of RECONNECT and ISOLATE touch the device state. -/
theorem State.Owned.device {ty : ReqType} (h : s.Owned ty t) (hty : ty ≠ .reconnect ∧ ty ≠ .isolate) :
    t.disc.device = s.disc.device := by
  have taken : ∀ c noted, (s.switchTaken c noted).disc = s.disc := fun c noted => by rw [State.switchTaken_eq]
  cases h with
  | switched c noted => rw [taken c noted]
  | requested c noted forced =>
    rw [(plannerOnly_finish _ _ _).disc, State.request,
      ((plannerOnly_setChan _ c _).trans (plannerOnly_insertEntry _ c _ _)).disc, taken c noted]
  | forced c noted forced =>
    rw [(plannerOnly_finish _ _ _).disc]
    split
    · rw [(plannerOnly_forceEntry _ c).disc, taken c noted]
    · rw [taken c noted]
  | recalled c noted => exact congrArg Disconnect.device (taken c noted)
  | switchedOff c noted => rw [(plannerOnly_finish _ _ _).disc, (plannerOnly_switchOff _ c).disc, taken c noted]
  | reconnected => exact absurd rfl hty.1
  | isolated => exact absurd rfl hty.2
  | stored => exact absurd rfl hty.2
  | editedChannel c body raw u hraw hvalid hu =>
    exact congrArg Disconnect.device ((plannerOnly_finish _ _ _).disc.trans (plannerOnly_channelEdited s hu).disc)
  | editedLevel => exact congrArg Disconnect.device (plannerOnly_finish _ _ _).disc
  | editedBattery => rfl
  | editedOcv => rfl
  | editedTimer => rfl
  | editedAux => rfl
  | lockedPlan => rfl
  | nothing => rfl
  | notices => rfl
  | clearedLockout => rfl
  | checks => rfl
  | clearedCauses => rfl
  | charged => rfl
  | saved => rfl
  | restarts => rfl

/-- R154: of the events of the blocks only the Disconnect Unit's own touch the device state. -/
theorem State.Event.device {i : Instr} (h : s.Event i t) (hi : mayChangeDevice i = false) : t.disc = s.disc ∨ t = s.endPulse := by
  have finish : ∀ u : State, u.disc = s.disc → ∀ tell, (s.finish u tell).disc = s.disc :=
    fun u hu tell => (plannerOnly_finish _ _ _).disc.trans hu
  cases h with
  | nothing => exact .inl rfl
  | battery vb cur => rw [State.takeBatterySample_eq]; exact .inl rfl
  | temperature x valid => exact .inl rfl
  | @level u rest => exact .inl (plannerOnly_levelTakes (s.setLevelMail rest) u).disc
  | @comparator vb rest => exact .inl (plannerOnly_comparatorTakes (s.setSagMail rest) vb).disc
  | tolerance => exact .inl (plannerOnly_toleranceExpiry s).disc
  | recovery => 
    refine .inl (finish _ ?_ _)
    exact (plannerOnly_releaseHeld (s.setSag _)).disc
  | sample c m => exact .inl (finish _ (plannerOnly_takeSample s c m).disc _)
  | short c => exact .inl (finish _ (plannerOnly_trip s c _).disc _)
  | rundownTimeout c => exact .inl (finish _ ((plannerOnly_push s _ _ _ _).trans (plannerOnly_endRundown _ c)).disc _)
  | windowEnd c => exact .inl (finish _ (plannerOnly_endWindow s c).disc _)
  | retry c => exact .inl (finish _ (by rfl) _)
  | goodRun c => exact .inl rfl
  | offTimer c => exact .inl (finish _ (plannerOnly_askSlot (s.setChan c _) c).disc _)
  | onTimer c => exact .inl (finish _ (plannerOnly_endRun s c).disc _)
  | check c r => exact .inl rfl
  | excess => exact .inl (plannerOnly_reevaluateThen s.stopExcess _).disc
  | restoreQuiet => exact .inl (plannerOnly_settle s.stopQuiet _ _).disc
  | idle n => rw [State.idleExpiry_eq]; exact .inl (finish _ (plannerOnly_idleTurned s n).disc _)
  | overtaken n => rw [State.overtakenExpiry_eq]; exact .inl (finish _ (plannerOnly_overtakenTurned s n).disc _)
  | auxRaw n level => exact .inl rfl
  | acquired n => exact .inl rfl
  | transition n hd => rw [hd] at hi; cases hi
  | disconnect h hd => rw [hd] at hi; cases hi
  | pulseEnd => exact .inr rfl
  | pulseEndEntersRun h hd => rw [hd] at hi; cases hi
  | storeWrite p matched => exact .inl rfl

/-- RECONNECT and ISOLATE are commands that may change the device state. -/
theorem mayChangeDevice_of_request {i : Instr} {p : Peer} {ty : Byte} {body : List Byte} {k : ReqType} (hwf : i.wf = true)
    (hr : requestOf i = some (p, ty, body)) (hk : reqTypeOf ty = some k) (h : k = .reconnect ∨ k = .isolate) :
    mayChangeDevice i = true := by
  cases i <;> simp only [requestOf, Option.some.injEq, Prod.mk.injEq, reduceCtorEq] at hr
  case unknownTypeRequest p' ty' body' =>
    obtain ⟨-, rfl, -⟩ := hr
    simp only [Instr.wf, Bool.and_eq_true] at hwf
    rw [reqTypeOf_of_typeUnknown hwf.1] at hk
    cases hk
  all_goals
    obtain ⟨-, rfl, -⟩ := hr
    rw [reqTypeOf_code, Option.some.injEq] at hk
    subst hk
    revert h
    simp [mayChangeDevice]

/-- Settles O18: beside the Disconnect Unit's own events, RECONNECT, ISOLATE and two of the resets, the device state
stands. -/
theorem onlyTheDisconnectUnitChangesTheDevice : Obligations.OnlyTheDisconnectUnitChangesTheDevice := by
  intro i s t hwf hexec hne
  rcases exec_cases hexec with ⟨p, ty, body, hr, rfl⟩ | hd
  · obtain ⟨k, hk, hty⟩ := s.linkStep_arrive p ty body
    generalize s.arrive p ty body = u at hk hne
    cases hk with
    | quiet => exact absurd rfl hne
    | owned service l k body' =>
      refine mayChangeDevice_of_request hwf hr (hty k rfl) ?_
      by_contra hnot
      rw [not_or] at hnot
      have hkept := State.Owned.device (ReqType.owned k body' ((s.setService service).setRx .hold [])) hnot
      exact hne hkept
  · cases hd with
    | line => exact absurd rfl hne
    | byte b err service hi => rw [hi]; rfl
    | reset hi h =>
      cases h with
      | powerOn _ _ hd => exact hd
      | brownout _ hd => exact hd
      | restart => exact absurd (congrArg Disconnect.device (plannerOnly_restart s).disc) hne
    | event h =>
      by_contra hi
      rcases h.device (Bool.not_eq_true _ ▸ hi) with hdisc | rfl
      · exact hne (congrArg Disconnect.device hdisc)
      · exact hne rfl

end

end Sys2Proof.Machine
end

section
/-!
PROOF. The working plan stays valid under the straps (R190, R194): what the clamping leaves, what a load gives, and what each
edit makes of a valid plan.
-/

namespace Sys2Proof.Machine

/-! ### Clamping (R194) -/

theorem clamp_clamp {lo hi : Nat} (h : lo ≤ hi) (n : Nat) : clamp lo hi (clamp lo hi n) = clamp lo hi n := by
  unfold clamp
  omega

theorem clampChannel_clampChannel (r : ChannelRec) : clampChannel (clampChannel r) = clampChannel r := by
  simp [clampChannel, clamp_clamp]

theorem clampSettings_clampSettings (x : LevelSettings) : clampSettings (clampSettings x) = clampSettings x := by
  simp [clampSettings, clamp_clamp]

theorem clampBattery_clampBattery (b : Battery) : clampBattery (clampBattery b) = clampBattery b := by
  simp [clampBattery, clamp_clamp]

/-- R194: the clamped fields of a plan lie in their ranges exactly when those of each of its parts do. -/
theorem clampPlan_eq_self_iff (p : Plan) :
    clampPlan p = p ↔
      (∀ c : Chan, clampChannel p.channels[c] = p.channels[c]) ∧ clampSettings p.levels.settings = p.levels.settings
        ∧ clampBattery p.battery = p.battery ∧ ∀ n : TimerIx, clamp 1 1440 p.timers[n].terminal = p.timers[n].terminal := by
  constructor
  · intro h
    refine ⟨fun c => ?_, congrArg (fun q : Plan => q.levels.settings) h, congrArg (fun q : Plan => q.battery) h, fun n => ?_⟩
    · have hc := congrArg (fun q : Plan => q.channels[c]) h
      simpa [clampPlan] using hc
    · have hn := congrArg (fun q : Plan => q.timers[n].terminal) h
      simpa [clampPlan] using hn
  · rintro ⟨hchannels, hsettings, hbattery, htimers⟩
    have hc : (Vector.ofFn fun c : Chan => clampChannel p.channels[c]) = p.channels := by
      ext1 n hn
      simpa using hchannels ⟨n, hn⟩
    have ht : (Vector.ofFn fun n : TimerIx => { p.timers[n] with terminal := clamp 1 1440 p.timers[n].terminal })
        = p.timers := by
      ext1 n hn
      have hterminal : clamp 1 1440 p.timers[n].terminal = p.timers[n].terminal := htimers ⟨n, hn⟩
      simp [hterminal]
    unfold clampPlan
    rw [hsettings, hbattery, hc, ht]

theorem clampPlan_clampPlan (p : Plan) : clampPlan (clampPlan p) = clampPlan p := by
  rw [clampPlan_eq_self_iff]
  refine ⟨fun c => ?_, clampSettings_clampSettings _, clampBattery_clampBattery _, fun n => ?_⟩
  · simp [clampPlan, clampChannel_clampChannel]
  · simp [clampPlan, clamp_clamp]

/-- R194: the rules that a plan's contents meet, one by one. -/
theorem validPlan_iff (p : Plan) :
    validPlan p = true ↔
      validLevels p.vsys p.levels = true ∧ validOcv p.vsys p.ocv = true ∧ validBattery p.vsys p.battery = true
        ∧ (∀ c : Chan, validRecord p.channels[c] = true) ∧ p.generation ≤ 65534 := by
  have hall : p.channels.toList.all validRecord = true ↔ ∀ c : Chan, validRecord p.channels[c] = true := by
    rw [List.all_eq_true]
    constructor
    · exact fun h c => h _ (by simp)
    · intro h r hr
      obtain ⟨n, hn, rfl⟩ := Vector.getElem_of_mem (Vector.mem_toList_iff.1 hr)
      exact h ⟨n, hn⟩
  simp only [validPlan, Bool.and_eq_true, hall, decide_eq_true_eq, and_assoc]

/-! ### Loading (R194) -/

/-- R190, R194: a plan that is valid, in its ranges, and made for the straps. -/
def Plan.FitsStraps (p : Plan) (straps : Straps) : Prop :=
  validPlan p = true ∧ clampPlan p = p ∧ p.vsys = straps.vsys ∧ p.chem = straps.chem

theorem validPlan_factoryPlan (v : SystemVoltage) (c : Chemistry) : validPlan (factoryPlan v c) = true := by
  cases v <;> cases c <;> decide

theorem clampPlan_factoryPlan (v : SystemVoltage) (c : Chemistry) : clampPlan (factoryPlan v c) = factoryPlan v c := by
  cases v <;> cases c <;> decide

/-- R195: the factory plan fits the straps it is made for. -/
theorem factoryPlan_fitsStraps (straps : Straps) : (factoryPlan straps.vsys straps.chem).FitsStraps straps :=
  ⟨validPlan_factoryPlan _ _, clampPlan_factoryPlan _ _, rfl, rfl⟩

/-- R194: whatever the stored image, the plan that is loaded fits the straps. -/
theorem loadPlan_fitsStraps (image : StoredImage) (straps : Straps) : (loadPlan image straps).plan.FitsStraps straps := by
  cases image with
  | badCheck => exact factoryPlan_fitsStraps straps
  | badCode => exact factoryPlan_fitsStraps straps
  | plan p =>
    unfold loadPlan
    dsimp only
    split
    · exact factoryPlan_fitsStraps straps
    · rename_i hvalid
      rw [Bool.not_eq_true', Bool.not_eq_false] at hvalid
      split
      · rename_i hfit
        simp only [Bool.and_eq_true, decide_eq_true_eq] at hfit
        exact ⟨hvalid, clampPlan_clampPlan p, hfit.1, hfit.2⟩
      · exact factoryPlan_fitsStraps straps

/-- R193: the lock is no part of the validity of a plan. -/
theorem Plan.FitsStraps.setLock {p : Plan} {straps : Straps} (h : p.FitsStraps straps) (b : Bool) :
    ({ p with lock := b } : Plan).FitsStraps straps := by
  obtain ⟨hvalid, hclamp, hvsys, hchem⟩ := h
  refine ⟨hvalid, ?_, hvsys, hchem⟩
  rw [clampPlan_eq_self_iff] at hclamp ⊢
  exact hclamp

/-! ### Edits (R190) -/

theorem clampChannel_of_channelFromBody {cur : ChannelRec} {body : List Byte} {raw : RawChannel}
    (h : channelFromBody cur body = some raw) : clampChannel raw.fields = raw.fields := by
  unfold channelFromBody at h
  split at h
  · rw [Option.some.injEq] at h
    rw [← h]
    exact clampChannel_clampChannel _
  · cases h
  · cases h

theorem validRecord_of_valid {raw : RawChannel} (h : raw.valid = true) : validRecord raw.fields = true := by
  simp only [RawChannel.valid, validChannel, Bool.and_eq_true] at h
  exact h.2.1

theorem clampSettings_of_levelsFromBody {cur x : LevelTable} {l : Level} {body : List Byte}
    (hcur : clampSettings cur.settings = cur.settings) (h : levelsFromBody cur l body = some x) :
    clampSettings x.settings = x.settings := by
  unfold levelsFromBody at h
  split at h
  · obtain ⟨f, -, rfl⟩ := Option.map_eq_some_iff.1 h
    exact clampSettings_clampSettings _
  · obtain ⟨f, -, rfl⟩ := Option.map_eq_some_iff.1 h
    exact hcur

theorem clampBattery_of_batteryFromBody {cur b : Battery} {body : List Byte} (h : batteryFromBody cur body = some b) :
    clampBattery b = b := by
  obtain ⟨f, -, rfl⟩ := Option.map_eq_some_iff.1 h
  exact clampBattery_clampBattery _

theorem clamp_terminal_of_timerFromBody {cur : TimerRec} {raw : RawTimer} {body : List Byte}
    (h : timerFromBody cur body = some raw) : clamp 1 1440 raw.toRec.terminal = raw.toRec.terminal := by
  obtain ⟨f, -, rfl⟩ := Option.map_eq_some_iff.1 h
  exact clamp_clamp (by decide) _

theorem nextGeneration_le {g : Nat} (h : g ≤ 65534) : nextGeneration g ≤ 65534 := by
  unfold nextGeneration
  split <;> omega

section
variable {p : Plan} {straps : Straps} (h : p.FitsStraps straps)
include h

theorem Plan.FitsStraps.bump : ({ p with generation := nextGeneration p.generation } : Plan).FitsStraps straps := by
  obtain ⟨hvalid, hclamp, hvsys, hchem⟩ := h
  rw [validPlan_iff] at hvalid
  obtain ⟨hlevels, hocv, hbattery, hchannels, hgen⟩ := hvalid
  refine ⟨(validPlan_iff _).2 ⟨hlevels, hocv, hbattery, hchannels, nextGeneration_le hgen⟩, ?_, hvsys, hchem⟩
  rw [clampPlan_eq_self_iff] at hclamp ⊢
  exact hclamp

theorem Plan.FitsStraps.setChannel {c : Chan} {r : ChannelRec} (hr : validRecord r = true) (hclampr : clampChannel r = r) :
    ({ p with channels := p.channels.set c r } : Plan).FitsStraps straps := by
  obtain ⟨hvalid, hclamp, hvsys, hchem⟩ := h
  rw [validPlan_iff] at hvalid
  obtain ⟨hlevels, hocv, hbattery, hchannels, hgen⟩ := hvalid
  have hget : ∀ d : Chan, (p.channels.set c r)[d] = if c = d then r else p.channels[d] := fun d => by
    simp [Vector.getElem_set, Fin.ext_iff]
  refine ⟨(validPlan_iff _).2 ⟨hlevels, hocv, hbattery, fun d => ?_, hgen⟩, ?_, hvsys, hchem⟩
  · rw [hget d]
    split
    · exact hr
    · exact hchannels d
  · rw [clampPlan_eq_self_iff] at hclamp ⊢
    obtain ⟨hc, hrest⟩ := hclamp
    refine ⟨fun d => ?_, hrest⟩
    rw [hget d]
    split
    · exact hclampr
    · exact hc d

theorem Plan.FitsStraps.setLevels {x : LevelTable} (hx : validLevels straps.vsys x = true)
    (hclampx : clampSettings x.settings = x.settings) : ({ p with levels := x } : Plan).FitsStraps straps := by
  obtain ⟨hvalid, hclamp, hvsys, hchem⟩ := h
  rw [validPlan_iff] at hvalid
  obtain ⟨-, hrest⟩ := hvalid
  refine ⟨(validPlan_iff _).2 ⟨hvsys ▸ hx, hrest⟩, ?_, hvsys, hchem⟩
  rw [clampPlan_eq_self_iff] at hclamp ⊢
  exact ⟨hclamp.1, hclampx, hclamp.2.2⟩

theorem Plan.FitsStraps.setBattery {b : Battery} (hb : validBattery straps.vsys b = true) (hclampb : clampBattery b = b) :
    ({ p with battery := b } : Plan).FitsStraps straps := by
  obtain ⟨hvalid, hclamp, hvsys, hchem⟩ := h
  rw [validPlan_iff] at hvalid
  obtain ⟨hlevels, hocv, -, hrest⟩ := hvalid
  refine ⟨(validPlan_iff _).2 ⟨hlevels, hocv, hvsys ▸ hb, hrest⟩, ?_, hvsys, hchem⟩
  rw [clampPlan_eq_self_iff] at hclamp ⊢
  obtain ⟨hc, hl, -, ht⟩ := hclamp
  exact ⟨hc, hl, hclampb, ht⟩

theorem Plan.FitsStraps.setOcv {o : Vector OcvPoint 8} (ho : validOcv straps.vsys o = true) :
    ({ p with ocv := o } : Plan).FitsStraps straps := by
  obtain ⟨hvalid, hclamp, hvsys, hchem⟩ := h
  rw [validPlan_iff] at hvalid
  obtain ⟨hlevels, -, hrest⟩ := hvalid
  refine ⟨(validPlan_iff _).2 ⟨hlevels, hvsys ▸ ho, hrest⟩, ?_, hvsys, hchem⟩
  rw [clampPlan_eq_self_iff] at hclamp ⊢
  exact hclamp

theorem Plan.FitsStraps.setTimer {n : TimerIx} {r : TimerRec} (hr : clamp 1 1440 r.terminal = r.terminal) :
    ({ p with timers := p.timers.set n r } : Plan).FitsStraps straps := by
  obtain ⟨hvalid, hclamp, hvsys, hchem⟩ := h
  refine ⟨(validPlan_iff _).2 ((validPlan_iff p).1 hvalid), ?_, hvsys, hchem⟩
  rw [clampPlan_eq_self_iff] at hclamp ⊢
  obtain ⟨hc, hl, hb, ht⟩ := hclamp
  refine ⟨hc, hl, hb, fun k => ?_⟩
  have hget : (p.timers.set n r)[k] = if n = k then r else p.timers[k] := by simp [Vector.getElem_set, Fin.ext_iff]
  rw [hget]
  split
  · exact hr
  · exact ht k

theorem Plan.FitsStraps.setAux (a : Vector AuxRec 4) : ({ p with aux := a } : Plan).FitsStraps straps := by
  obtain ⟨hvalid, hclamp, hvsys, hchem⟩ := h
  refine ⟨(validPlan_iff _).2 ((validPlan_iff p).1 hvalid), ?_, hvsys, hchem⟩
  rw [clampPlan_eq_self_iff] at hclamp ⊢
  exact hclamp

end

/-! ### Every step -/

section
variable {s t : State}

theorem State.planOk_iff : s.PlanOk ↔ s.plan.FitsStraps s.sys.straps := Iff.rfl

/-- R169, R194: no owner touches the straps. -/
theorem State.Owned.straps {ty : ReqType} (h : s.Owned ty t) : t.sys.straps = s.sys.straps := by
  have taken : ∀ c noted, (s.switchTaken c noted).sys = s.sys := fun c noted => by rw [State.switchTaken_eq]
  have finish : ∀ u : State, u.sys = s.sys → ∀ tell, (s.finish u tell).sys.straps = s.sys.straps :=
    fun u hu tell => by rw [(plannerOnly_finish _ _ _).sys, hu]
  cases h with
  | switched c noted => rw [taken c noted]
  | requested c noted forced =>
    rw [(plannerOnly_finish _ _ _).sys, State.request,
      ((plannerOnly_setChan _ c _).trans (plannerOnly_insertEntry _ c _ _)).sys, taken c noted]
  | forced c noted forced =>
    rw [(plannerOnly_finish _ _ _).sys]
    split
    · rw [(plannerOnly_forceEntry _ c).sys, taken c noted]
    · rw [taken c noted]
  | recalled c noted => exact congrArg Startup.straps (taken c noted)
  | switchedOff c noted => rw [(plannerOnly_finish _ _ _).sys, (plannerOnly_switchOff _ c).sys, taken c noted]
  | reconnected => rw [(plannerOnly_reconnect s _).sys]
  | isolated => rw [(plannerOnly_isolate s _).sys]
  | editedChannel c body raw u hraw hvalid hu =>
    refine finish u.bumpGeneration ?_ _
    exact (plannerOnly_channelEdited s hu).sys
  | editedLevel => exact finish _ (by rfl) _
  | lockedPlan => rfl
  | editedBattery => rfl
  | editedOcv => rfl
  | editedTimer => rfl
  | editedAux => rfl
  | nothing => rfl
  | notices => rfl
  | clearedLockout => rfl
  | checks => rfl
  | clearedCauses => rfl
  | charged => rfl
  | stored => rfl
  | saved => rfl
  | restarts => rfl

/-- R190: every owner's part leaves a plan that fits the straps. -/
theorem State.Owned.fitsStraps {ty : ReqType} (h : s.Owned ty t) (hs : s.plan.FitsStraps s.sys.straps) :
    t.plan.FitsStraps s.sys.straps := by
  by_cases hedit : ty.isPlanEdit = false ∧ ty ≠ .lockPlan
  · rw [h.plan hedit.1 hedit.2]
    exact hs
  have hvalid := hs
  obtain ⟨-, hclamp, -, -⟩ := hvalid
  rw [clampPlan_eq_self_iff] at hclamp
  obtain ⟨-, hclampl, -, -⟩ := hclamp
  cases h with
  | editedChannel c body raw u hraw hok hu =>
    rw [(plannerOnly_finish _ _ _).plan]
    have hset := hs.setChannel (c := c) (validRecord_of_valid hok) (clampChannel_of_channelFromBody hraw)
    have hplan : u.plan = { s.plan with channels := s.plan.channels.set c raw.fields } :=
      (plannerOnly_channelEdited s hu).plan
    rw [← hplan] at hset
    exact hset.bump
  | editedLevel l body x hx hok =>
    rw [(plannerOnly_finish _ _ _).plan]
    exact (hs.setLevels hok (clampSettings_of_levelsFromBody hclampl hx)).bump
  | editedBattery body b hb hok => exact (hs.setBattery hok (clampBattery_of_batteryFromBody hb)).bump
  | editedOcv body o ho hok => exact (hs.setOcv hok).bump
  | editedTimer n body raw hraw hok => exact (hs.setTimer (clamp_terminal_of_timerFromBody hraw)).bump
  | editedAux n r => exact (hs.setAux _).bump
  | lockedPlan => exact hs.setLock true
  | nothing => exact hs
  | _ => exact absurd ⟨rfl, nofun⟩ hedit

/-- R196, R197: every reset loads a plan that fits the straps it finds. -/
theorem State.ResetTo.planOk {i : Instr} (h : s.ResetTo i t) : t.PlanOk := by
  cases h with
  | powerOn straps service =>
    have hload := (loadPlan_fitsStraps s.store.image straps).setLock
      ((loadPlan s.store.image straps).plan.lock && !service)
    have hkept := (plannerOnly_push (s.powerOnBlocks straps service) .reset none 1
      (s.powerOnBlocks straps service).sys.causes.code).trans (plannerOnly_pushAll _ (loadPlan s.store.image straps).notice)
    unfold State.PlanOk State.powerOn State.pushReset
    rw [hkept.plan, hkept.sys]
    exact hload
  | brownout straps =>
    have hkept := ((plannerOnly_push ((s.brownoutSystem straps).brownoutIsolation) .reset none 2
      ((s.brownoutSystem straps).brownoutIsolation).sys.causes.code).trans
        (plannerOnly_pushAll _ (loadPlan s.store.image straps).notice)).trans
          (plannerOnly_push _ .isolated none IsoReason.brownout.code 0)
    have hblocks := plannerOnly_isolateBlocks (s.brownoutSystem straps)
    unfold State.PlanOk State.brownout State.pushReset
    rw [hkept.plan, hkept.sys]
    have hplan : ((s.brownoutSystem straps).brownoutIsolation).plan = (s.brownoutSystem straps).plan := hblocks.plan
    have hsys : ((s.brownoutSystem straps).brownoutIsolation).sys = (s.brownoutSystem straps).sys := hblocks.sys
    rw [hplan, hsys]
    exact loadPlan_fitsStraps s.store.image straps
  | restart =>
    have hkept := plannerOnly_restart s
    unfold State.PlanOk
    rw [hkept.plan, hkept.sys]
    exact loadPlan_fitsStraps s.store.image s.sys.straps

theorem exec_planOk {i : Instr} (hs : s.PlanOk) (h : exec i s = .next t) : t.PlanOk := by
  refine exec_preserves (P := State.PlanOk) (fun _ _ _ h => h) ?_ (fun i s t _ h => h.planOk) ?_ hs h
  · intro ty body s hs _ _
    have howned := ty.owned body s
    unfold State.PlanOk
    rw [howned.straps]
    exact howned.fitsStraps hs
  · intro i s t hs h
    unfold State.PlanOk
    rw [h.systemKept.plan, h.systemKept.sys]
    exact hs

theorem tick_straps (s : State) : s.tick.sys.straps = s.sys.straps := by
  unfold State.tick Startup.tick
  dsimp only
  split <;> rfl

/-- Settles O6: a load gives a plan that fits the straps, an edit keeps it so, and nothing else touches plan or straps. -/
theorem workingPlanStaysValid : Obligations.WorkingPlanStaysValid := by
  intro s t hs h
  refine step_preserves (P := State.PlanOk) (fun _ _ h => h) ?_ (fun _ _ _ => exec_planOk) hs h
  intro s hs
  unfold State.PlanOk
  rw [tick_straps]
  exact hs

end

end Sys2Proof.Machine
end

section
/-!
PROOF. The estimator stays in its bounds (R5 to R11): each stage of a sample, the syncs, the temperature and the edits of the
profile keep them.
-/

namespace Sys2Proof.Machine

/-- R5 to R8: Q and the remainder in their ranges, and Q_use by its formula. -/
def Estimator.Bounded (e : Estimator) (b : Battery) : Prop :=
  e.q ≤ b.qNom ∧ e.rem ≤ 999 ∧ e.qUse = usable b e.temp

/-- R5 to R8, R10: what `State.EstimatorOk` says of an estimator under a profile. -/
def Estimator.InBounds (e : Estimator) (b : Battery) : Prop := e.Bounded b ∧ e.r = reserveOf e.q e.qUse

theorem State.estimatorOk_iff (s : State) : s.EstimatorOk ↔ s.est.InBounds s.plan.battery := by
  simp only [State.EstimatorOk, Estimator.InBounds, Estimator.Bounded, and_assoc]

section
variable {e : Estimator} {b : Battery} {ocv : Vector OcvPoint 8}

/-- R7: a sync to a reserve of 0..1000 leaves Q in its range. -/
theorem Estimator.Bounded.syncTo (h : e.Bounded b) {r : Nat} (hr : r ≤ 1000) : (e.syncTo r).Bounded b := by
  obtain ⟨-, -, huse⟩ := h
  have hle : (e.syncTo r).q ≤ b.qNom := (e.syncTo_q_le r hr).trans (huse ▸ usable_le b e.temp)
  exact ⟨hle, Nat.zero_le _, huse⟩

theorem Estimator.Bounded.count (h : e.Bounded b) (i : Int) : (e.count b i).Bounded b := by
  obtain ⟨hq, hrem, huse⟩ := h
  refine ⟨e.count_q_le b i hq, e.count_rem_le b i hrem, ?_⟩
  rcases le_or_gt i 0 with hi | hi
  · rw [e.count_of_nonpos b i hi]
    exact huse
  · rw [e.count_of_pos b i hi]
    exact huse

theorem Estimator.Bounded.stagesAC (h : e.Bounded b) (hocv : ∀ x, ocvLookup ocv x ≤ 1000) (vb : Nat) (i : Int) :
    (e.stagesAC b ocv vb i).Bounded b := by
  have hread : ({ e with vb := vb, i := i, vc := compensated b vb i } : Estimator).Bounded b := h
  unfold Estimator.stagesAC
  dsimp only
  split
  · exact hread.syncTo (hocv _)
  · exact hread.count i

theorem Estimator.Bounded.stageD (h : e.Bounded b) : (e.stageD b).Bounded b := h

theorem Estimator.Bounded.stageE (h : e.Bounded b) (hocv : ∀ x, ocvLookup ocv x ≤ 1000) : (e.stageE b ocv).1.Bounded b := by
  unfold Estimator.stageE
  dsimp only
  split
  · split
    · split
      · exact h.syncTo (hocv _)
      · exact h
    · exact h
  · exact h

theorem Estimator.Bounded.stageF (h : e.Bounded b) : (e.stageF b).1.Bounded b := by
  unfold Estimator.stageF
  split
  · exact h
  · split
    · split
      · exact ⟨le_rfl, Nat.zero_le _, h.2.2⟩
      · exact h
    · exact h

theorem Estimator.Bounded.stageG (h : e.Bounded b) (hanchor : b.rAnchor ≤ 1000) : (e.stageG b).1.Bounded b := by
  unfold Estimator.stageG
  split
  · exact h
  · split
    · split
      · dsimp only
        split
        · exact h.syncTo hanchor
        · exact h
      · exact h
    · exact h

theorem Estimator.Bounded.stageH (h : e.Bounded b) : e.stageH.InBounds b := ⟨h, rfl⟩

/-- R1: a sample leaves the estimator in its bounds: stage H computes R from the Q that the stages before it bound. -/
theorem Estimator.Bounded.sample (h : e.Bounded b) (hocv : ∀ x, ocvLookup ocv x ≤ 1000) (hanchor : b.rAnchor ≤ 1000)
    (vb i : Int) : (e.sample b ocv vb i).est.InBounds b := by
  rw [Estimator.sample]
  exact (((((h.stagesAC hocv _ _).stageD).stageE hocv).stageF).stageG hanchor).stageH

/-! A term `rfl` for these would have the kernel compare Q_use with Q_nom's numeral; the equation does not. -/

theorem Estimator.recompute_q (e : Estimator) (b : Battery) : (e.recompute b).q = e.q := by
  rw [Estimator.recompute]

theorem Estimator.recompute_rem (e : Estimator) (b : Battery) : (e.recompute b).rem = e.rem := by
  rw [Estimator.recompute]

theorem Estimator.recompute_temp (e : Estimator) (b : Battery) : (e.recompute b).temp = e.temp := by
  rw [Estimator.recompute]

theorem Estimator.recompute_qUse (e : Estimator) (b : Battery) : (e.recompute b).qUse = usable b e.temp := by
  rw [Estimator.recompute]

theorem Estimator.recompute_r (e : Estimator) (b : Battery) : (e.recompute b).r = reserveOf e.q (usable b e.temp) := by
  rw [Estimator.recompute]

/-- R8, R10: Q_use and R recomputed under a profile. -/
theorem Estimator.inBounds_recompute (hq : e.q ≤ b.qNom) (hrem : e.rem ≤ 999) : (e.recompute b).InBounds b := by
  rw [Estimator.InBounds, Estimator.Bounded, Estimator.recompute_q, Estimator.recompute_rem, Estimator.recompute_temp,
    Estimator.recompute_qUse, Estimator.recompute_r]
  exact ⟨⟨hq, hrem, Eq.refl _⟩, Eq.refl _⟩

/-- R2: so does a temperature sample. -/
theorem Estimator.InBounds.takeTemperature (h : e.InBounds b) (x : Int) (valid : Bool) :
    (e.takeTemperature b x valid).InBounds b := by
  obtain ⟨⟨hq, hrem, -⟩, -⟩ := id h
  unfold Estimator.takeTemperature
  split
  · exact Estimator.inBounds_recompute (e := { e with temp := x, tempValid := true }) hq hrem
  · exact h

/-- R22: a capacity edit scales Q with Q_nom. -/
theorem qNom_mul_div_le {new old : Battery} {q : Nat} (h : q ≤ old.qNom) : new.qNom * q / old.qNom ≤ new.qNom :=
  Nat.div_le_of_le_mul (by rw [Nat.mul_comm old.qNom]; exact Nat.mul_le_mul_left _ h)

theorem Estimator.InBounds.rescale {old new : Battery} (h : e.InBounds old) : (e.rescale old new).InBounds new :=
  Estimator.inBounds_recompute (qNom_mul_div_le h.1.1) (Nat.zero_le _)

/-- R6, R8: the bounds read only C_nom and k of the profile. -/
theorem Estimator.InBounds.of_profile {old new : Battery} (h : e.InBounds old) (hnom : new.cNom = old.cNom)
    (hk : new.k = old.k) : e.InBounds new := by
  obtain ⟨⟨hq, hrem, huse⟩, hr⟩ := h
  have hqNom : new.qNom = old.qNom := by rw [Battery.qNom, Battery.qNom, hnom]
  exact ⟨⟨by rwa [hqNom], hrem, by rw [huse, usable, usable, hqNom, hk]⟩, hr⟩

theorem Estimator.InBounds.withTimers (h : e.InBounds b) (tail empty rest : Nat) :
    ({ e with tailTimer := tail, emptyTimer := empty, restTimer := rest } : Estimator).InBounds b := h

/-- R4, R22: a replaced profile leaves the estimator in the bounds of the new one. -/
theorem Estimator.InBounds.reprofile {old new : Battery} (h : e.InBounds old) : (e.reprofile old new).InBounds new := by
  unfold Estimator.reprofile
  refine Estimator.InBounds.withTimers ?_ _ _ _
  split
  · exact h.rescale
  · rename_i hnom
    rw [ne_eq, not_not] at hnom
    obtain ⟨⟨hq, hrem, -⟩, -⟩ := id h
    split
    · exact Estimator.inBounds_recompute (by rwa [Battery.qNom, hnom, ← Battery.qNom]) hrem
    · rename_i hk
      exact h.of_profile hnom (not_not.1 hk)

theorem Estimator.powerOn_inBounds (b : Battery) : (Estimator.powerOn b).InBounds b :=
  ⟨⟨Nat.zero_le _, Nat.zero_le _, rfl⟩, by simp [Estimator.powerOn, reserveOf]⟩

end

/-! ### Every step -/

section
variable {s t : State}

/-- R3, R14: what a valid plan says of the syncs' reserves. -/
theorem State.PlanOk.reserves_le (h : s.PlanOk) :
    (∀ x, ocvLookup s.plan.ocv x ≤ 1000) ∧ s.plan.battery.rAnchor ≤ 1000 := by
  obtain ⟨hvalid, hclamp, -, -⟩ := h
  obtain ⟨-, hocv, -, -, -⟩ := (validPlan_iff _).1 hvalid
  obtain ⟨-, -, hbattery, -⟩ := (clampPlan_eq_self_iff _).1 hclamp
  refine ⟨fun x => ocvLookup_le hocv x, ?_⟩
  have hanchor : min 200 s.plan.battery.rAnchor = s.plan.battery.rAnchor := congrArg Battery.rAnchor hbattery
  omega

/-- The operation leaves the estimator and the battery profile as they were. -/
def State.EstKept (s t : State) : Prop := t.est = s.est ∧ t.plan.battery = s.plan.battery

theorem State.PlannerOnly.estKept (h : s.PlannerOnly t) : s.EstKept t := ⟨h.est, congrArg Plan.battery h.plan⟩

theorem State.EstKept.trans {u : State} (h : s.EstKept t) (k : t.EstKept u) : s.EstKept u :=
  ⟨k.1.trans h.1, k.2.trans h.2⟩

theorem State.EstKept.estimatorOk (h : s.EstKept t) (hs : s.EstimatorOk) : t.EstimatorOk := by
  rw [State.estimatorOk_iff] at hs ⊢
  rw [h.1, h.2]
  exact hs

theorem State.estKept_switchTaken (c : Chan) (noted : Bool) : s.EstKept (s.switchTaken c noted) := by
  rw [State.switchTaken_eq]
  exact ⟨rfl, rfl⟩

/-- R20: the manual sync of SET_CHARGE stays in the bounds. -/
theorem State.manualSync_estimatorOk (hs : s.EstimatorOk) (r : Nat) : (s.manualSync r).EstimatorOk := by
  rw [State.estimatorOk_iff] at hs ⊢
  exact ⟨hs.1.syncTo (Nat.min_le_left 1000 r), rfl⟩

theorem State.Owned.estimatorOk {ty : ReqType} (h : s.Owned ty t) (hs : s.EstimatorOk) : t.EstimatorOk := by
  have taken : ∀ c noted, s.EstKept (s.switchTaken c noted) := fun c noted => State.estKept_switchTaken c noted
  have finish : ∀ u tell, s.EstKept u → (s.finish u tell).EstimatorOk :=
    fun u tell hu => (hu.trans (plannerOnly_finish _ _ _).estKept).estimatorOk hs
  cases h with
  | switched c noted => exact (taken c noted).estimatorOk hs
  | requested c noted forced =>
    exact ((taken c noted).trans ((((plannerOnly_setChan _ c _).trans (plannerOnly_insertEntry _ c _ _)).trans
      (plannerOnly_finish _ _ _)).estKept)).estimatorOk hs
  | forced c noted forced =>
    refine ((taken c noted).trans (.trans ?_ (plannerOnly_finish _ _ _).estKept)).estimatorOk hs
    split
    · exact (plannerOnly_forceEntry _ c).estKept
    · exact ⟨rfl, rfl⟩
  | recalled c noted => exact ((taken c noted).trans (plannerOnly_setChan _ c _).estKept).estimatorOk hs
  | switchedOff c noted =>
    exact ((taken c noted).trans (((plannerOnly_switchOff _ c).trans (plannerOnly_finish _ _ _)).estKept)).estimatorOk hs
  | reconnected => exact State.EstKept.estimatorOk ⟨(plannerOnly_reconnect s _).est,
      congrArg Plan.battery (plannerOnly_reconnect s _).plan⟩ hs
  | isolated => exact State.EstKept.estimatorOk ⟨(plannerOnly_isolate s _).est,
      congrArg Plan.battery (plannerOnly_isolate s _).plan⟩ hs
  | editedChannel c body raw u hraw hok hu =>
    have hu' := plannerOnly_channelEdited s hu
    have hb : u.plan.battery = (s.setCrec c raw.fields).plan.battery := congrArg Plan.battery hu'.plan
    exact finish u.bumpGeneration _ ⟨hu'.est, hb⟩
  | editedLevel l body x => exact finish (s.setLevelTable x).cancelDwell.bumpGeneration _ ⟨rfl, rfl⟩
  | editedBattery body b =>
    rw [State.estimatorOk_iff] at hs ⊢
    exact hs.reprofile
  | charged r => exact s.manualSync_estimatorOk hs r
  | nothing => exact hs
  | _ => exact hs

theorem State.Event.estimatorOk {i : Instr} (h : s.Event i t) (hplan : s.PlanOk) (hs : s.EstimatorOk) : t.EstimatorOk := by
  have finish : ∀ u tell, s.EstKept u → (s.finish u tell).EstimatorOk :=
    fun u tell hu => (hu.trans (plannerOnly_finish _ _ _).estKept).estimatorOk hs
  have hbattery : t.plan.battery = s.plan.battery := congrArg Plan.battery h.systemKept.plan
  have kept : t.est = s.est → t.EstimatorOk := fun he => State.EstKept.estimatorOk ⟨he, hbattery⟩ hs
  cases h with
  | nothing => exact hs
  | battery vb cur =>
    obtain ⟨hocv, hanchor⟩ := hplan.reserves_le
    rw [State.estimatorOk_iff] at hs ⊢
    rw [State.takeBatterySample_eq]
    exact hs.1.sample hocv hanchor vb cur
  | temperature x valid =>
    rw [State.estimatorOk_iff] at hs ⊢
    exact hs.takeTemperature x valid
  | @level u rest => exact kept (plannerOnly_levelTakes (s.setLevelMail rest) u).est
  | @comparator vb rest => exact kept (plannerOnly_comparatorTakes (s.setSagMail rest) vb).est
  | tolerance => exact kept (plannerOnly_toleranceExpiry s).est
  | recovery =>
    refine finish _ _ ?_
    exact ⟨(plannerOnly_releaseHeld (s.setSag _)).est, congrArg Plan.battery (plannerOnly_releaseHeld (s.setSag _)).plan⟩
  | sample c m =>
    exact finish _ _ ⟨(plannerOnly_takeSample s c m).est, congrArg Plan.battery (plannerOnly_takeSample s c m).plan⟩
  | short c => exact finish _ _ (plannerOnly_trip s c _).estKept
  | rundownTimeout c => exact finish _ _ ((plannerOnly_push s _ _ _ _).trans (plannerOnly_endRundown _ c)).estKept
  | windowEnd c => exact finish _ _ (plannerOnly_endWindow s c).estKept
  | retry c => exact finish _ _ ((plannerOnly_setChan s c _).trans (plannerOnly_insertEntry _ c _ _)).estKept
  | goodRun c => exact hs
  | offTimer c => exact finish _ _ ((plannerOnly_setChan s c _).trans (plannerOnly_askSlot _ c)).estKept
  | onTimer c => exact finish _ _ (plannerOnly_endRun s c).estKept
  | check c r => exact hs
  | excess => exact kept (plannerOnly_reevaluateThen s.stopExcess _).est
  | restoreQuiet => exact kept (plannerOnly_settle s.stopQuiet _ _).est
  | idle n =>
    rw [State.idleExpiry_eq]
    exact finish _ _ ⟨(plannerOnly_idleTurned s n).est, congrArg Plan.battery (plannerOnly_idleTurned s n).plan⟩
  | overtaken n =>
    rw [State.overtakenExpiry_eq]
    exact finish _ _ ⟨(plannerOnly_overtakenTurned s n).est, congrArg Plan.battery (plannerOnly_overtakenTurned s n).plan⟩
  | auxRaw n level => exact hs
  | acquired n => exact hs
  | transition n =>
    refine kept ?_
    unfold State.transition State.auxActivity State.wakeEvent
    dsimp only
    split
    · split
      · split
        · split
          · rw [(plannerOnly_reconnect _ _).est, State.activity_eq]
            rfl
          · rw [State.activity_eq]
            rfl
        · rw [State.activity_eq]
          rfl
      · rw [State.activity_eq]
        rfl
    · rfl
  | @disconnect u rest =>
    refine kept ?_
    unfold State.disconnectTakes State.startTakes State.runTakes State.isolatedTakes
    dsimp only
    split
    · split
      · rw [(plannerOnly_enterRun _).est]
        rfl
      · rfl
    · split
      · rw [(plannerOnly_isolate _ _).est]
        rfl
      · split <;> rfl
    · split
      · rw [(plannerOnly_reconnect _ _).est]
        rfl
      · rfl
  | pulseEnd => exact hs
  | pulseEndEntersRun => exact kept (plannerOnly_enterRun s.endPulse).est
  | storeWrite p matched => exact hs

/-- R24 to R26: so does every reset. -/
theorem State.ResetTo.estimatorOk {i : Instr} (h : s.ResetTo i t) (hs : s.EstimatorOk) : t.EstimatorOk := by
  rw [State.estimatorOk_iff] at hs ⊢
  cases h with
  | powerOn straps service =>
    have hkept := (plannerOnly_push (s.powerOnBlocks straps service) .reset none 1
      (s.powerOnBlocks straps service).sys.causes.code).trans (plannerOnly_pushAll _ (loadPlan s.store.image straps).notice)
    unfold State.powerOn State.pushReset
    rw [hkept.plan, hkept.est]
    exact Estimator.powerOn_inBounds _
  | brownout straps =>
    have hkept := ((plannerOnly_push ((s.brownoutSystem straps).brownoutIsolation) .reset none 2
      ((s.brownoutSystem straps).brownoutIsolation).sys.causes.code).trans
        (plannerOnly_pushAll _ (loadPlan s.store.image straps).notice)).trans
          (plannerOnly_push _ .isolated none IsoReason.brownout.code 0)
    have hblocks := plannerOnly_isolateBlocks (s.brownoutSystem straps)
    have hplan : ((s.brownoutSystem straps).brownoutIsolation).plan = (s.brownoutSystem straps).plan := hblocks.plan
    have hest : ((s.brownoutSystem straps).brownoutIsolation).est = (s.brownoutSystem straps).est := hblocks.est
    unfold State.brownout State.pushReset
    rw [hkept.plan, hkept.est, hplan, hest]
    exact hs.reprofile
  | restart =>
    have hkept := plannerOnly_restart s
    rw [hkept.plan, hkept.est]
    exact hs.reprofile

/-- Settles O7: the invariant is kept together with the validity of the plan, whose OCV table and anchor reserve bound the
syncs. -/
theorem estimatorStaysInBounds : Obligations.EstimatorStaysInBounds := by
  intro s t hplan hs h
  have hboth : t.PlanOk ∧ t.EstimatorOk := by
    refine step_preserves (P := fun s => s.PlanOk ∧ s.EstimatorOk) (fun _ _ h => h) ?_ ?_ ⟨hplan, hs⟩ h
    · intro s hs
      refine ⟨?_, hs.2⟩
      unfold State.PlanOk
      rw [tick_straps]
      exact hs.1
    · intro i s t hs h
      refine exec_preserves (P := fun s => s.PlanOk ∧ s.EstimatorOk) (fun _ _ _ h => h) ?_
        (fun i s t hs h => ⟨h.planOk, h.estimatorOk hs.2⟩) ?_ hs h
      · intro ty body s hs _ _
        have howned := ty.owned body s
        refine ⟨?_, howned.estimatorOk hs.2⟩
        unfold State.PlanOk
        rw [howned.straps]
        exact howned.fitsStraps hs.1
      · intro i s t hs h
        refine ⟨?_, h.estimatorOk hs.1 hs.2⟩
        unfold State.PlanOk
        rw [h.systemKept.plan, h.systemKept.sys]
        exact hs.1
  exact hboth.2

end

end Sys2Proof.Machine
end

section
/-!
PROOF. What the Planner and the Start Slot do, as a run of single acts (`State.Act`) that at most one admission ends: a
property that each act keeps is kept by everything that follows an event.
-/

namespace Sys2Proof.Machine

/-- The excess timer and the overload flag replaced. -/
def State.setExcess (s : State) (x : Timer) (b : Bool) : State :=
  { s with planner := { s.planner with excess := x, overloadReported := b } }

/-- One act of the Planner (R70 to R76, R82, R129) or of the Start Slot (R88), less the admissions. -/
inductive State.Act (s : State) : State → Prop where
  | sheds (c : Chan) (hd : s.disc.device = .run) (h : s.isShedCandidate c = true) : s.Act (s.shedStep c)
  | reports (hd : s.disc.device = .run) : s.Act ((s.push .overload none s.totalP s.ceiling).setOverload true)
  | timer (x : Timer) (b : Bool) (hd : s.disc.device = .run) : s.Act (s.setExcess x b)
  | unthrottles (c : Chan) (hm : s.mayAdmit = true) (h : (s.chan c).state = .throttled) : s.Act (s.unthrottleChoice c)
  | serves (c : Chan) (hfree : s.slot.holder = none) (hsag : s.sag.state.servesSlot = true) (h : c ∈ s.slot.waiting) :
      s.Act (s.grantSlot c)

/-- A run of acts. -/
inductive State.Acts : State → State → Prop where
  | refl (s : State) : s.Acts s
  | head {s t u : State} (h : s.Act t) (k : t.Acts u) : s.Acts u

/-- A run of acts, and an admission or none at its end (R84: an admission takes the slot, after which nothing is left to
do). -/
inductive State.Works (s : State) : State → Prop where
  | acts {t : State} (h : s.Acts t) : s.Works t
  | admits {m : State} (h : s.Acts m) (e : Entry) (k : Nat) (hm : m.mayAdmit = true) (he : e ∈ m.unheld) :
      s.Works (m.admitEntry e.channel k)

section
variable {s t u : State}

theorem State.Acts.trans (h : s.Acts t) (k : t.Acts u) : s.Acts u := by
  induction h with
  | refl => exact k
  | head h _ ih => exact .head h (ih k)

theorem State.Act.acts (h : s.Act t) : s.Acts t := .head h (.refl t)

theorem State.Acts.works (h : s.Acts t) (k : t.Works u) : s.Works u := by
  cases k with
  | acts k => exact .acts (h.trans k)
  | admits k e n hm he => exact .admits (h.trans k) e n hm he

theorem State.Works.refl (s : State) : s.Works s := .acts (.refl s)

/-- A property that every act keeps is kept by a run of them. -/
theorem State.Acts.keeps {P : State → Prop} (hact : ∀ s t, P s → s.Act t → P t) (h : s.Acts t) (hs : P s) : P t := by
  induction h with
  | refl => exact hs
  | head h _ ih => exact ih (hact _ _ hs h)

/-- A property that every act and every admission keeps is kept by all that follows an event. -/
theorem State.Works.keeps {P : State → Prop} (hact : ∀ s t, P s → s.Act t → P t)
    (hadmit : ∀ s e k, P s → s.mayAdmit = true → e ∈ s.unheld → P (s.admitEntry e.channel k)) (h : s.Works t) (hs : P s) :
    P t := by
  cases h with
  | acts h => exact h.keeps hact hs
  | admits h e k hm he => exact hadmit _ e k (h.keeps hact hs) hm he

/-- R84: an admission leaves the slot held. -/
theorem State.admitEntry_holder (c : Chan) (k : Nat) : (s.admitEntry c k).slot.holder = some c := by
  unfold State.admitEntry State.startFromWaiting State.removeEntry
  dsimp only
  split <;> rfl

/-- R77, R89: after a run that an admission ends the Start Slot does not act. -/
theorem State.Works.acts_of_slotActs {before : State} (h : s.Works t) (k : slotActs before t = true) : s.Acts t := by
  cases h with
  | acts h => exact h
  | @admits m h e n hm he =>
    rw [slotActs_iff, State.admitEntry_holder] at k
    cases k.1

end

/-! ### The Planner's operations are such runs -/

section
variable {s : State}

theorem mem_unheld_of_firstChoice {e : Entry} (h : s.firstChoice = some (.entry e)) : e ∈ s.unheld := by
  unfold State.firstChoice at h
  split at h <;> (try split at h) <;> grind [List.mem_of_mem_head?]

theorem bestThrottled_of_firstChoice {c : Chan} (h : s.firstChoice = some (.throttled c)) : s.bestThrottled = some c := by
  unfold State.firstChoice at h
  split at h <;> (try split at h) <;> grind

theorem mem_unheld_of_behind {x : Contender} {e : Entry} (h : e ∈ s.behind x) : e ∈ s.unheld := by
  unfold State.behind at h
  split at h
  · exact List.mem_of_mem_drop h
  · exact h

theorem isShedCandidate_of_shedCandidate {c : Chan} (h : s.shedCandidate = some c) : s.isShedCandidate c = true :=
  (List.mem_filter.1 (pickFirst_mem _ _ _ h)).2

theorem isSagCandidate_of_sagCandidate {c : Chan} (h : s.sagCandidate = some c) : s.isSagCandidate c = true :=
  (List.mem_filter.1 (pickFirst_mem _ _ _ h)).2

theorem state_of_bestThrottled {c : Chan} (h : s.bestThrottled = some c) : (s.chan c).state = .throttled := by
  simpa using (List.mem_filter.1 (pickFirst_mem _ _ _ h)).2

theorem mem_waiting_of_nextServed {c : Chan} (h : s.nextServed = some c) : c ∈ s.slot.waiting := pickFirst_mem _ _ _ h

/-- R80: admissions are made in RUN, with the slot free and nobody waiting for it, P at or below D, and the sag CLEAR. -/
theorem State.mayAdmit_iff : s.mayAdmit = true ↔
    s.disc.device = .run ∧ s.slot.holder = none ∧ s.slot.waiting = [] ∧ s.totalP ≤ s.ceiling ∧ s.sag.state = .clear
      ∧ s.planner.restoreQuiet = none := by
  simp only [State.mayAdmit, Bool.and_eq_true, decide_eq_true_eq, List.isEmpty_iff, and_assoc]

theorem acts_endPass (hd : s.disc.device = .run) : s.Acts s.endPass := by
  unfold State.endPass
  split
  · exact (State.Act.reports hd).acts
  · exact .refl s

theorem acts_shedPass (hd : s.disc.device = .run) (n : Nat) : s.Acts (s.shedPass n) := by
  induction n generalizing s with
  | zero => exact acts_endPass hd
  | succ n ih =>
    unfold State.shedPass
    split
    · exact .refl s
    · split
      · exact acts_endPass hd
      · rename_i c hc
        refine .head (.sheds c hd (isShedCandidate_of_shedCandidate hc)) (ih ?_)
        rw [(plannerOnly_shedStep s c).disc]
        exact hd

theorem acts_stopExcess (hd : s.disc.device = .run) : s.Acts s.stopExcess :=
  (State.Act.timer none s.planner.overloadReported hd).acts

theorem acts_stageB (hd : s.disc.device = .run) (k : Call) : s.Acts (s.stageB k) := by
  have stopped : s.Acts (s.stopExcess.shedPass passSteps) :=
    (acts_stopExcess hd).trans (acts_shedPass (s := s.stopExcess) hd passSteps)
  unfold State.stageB
  split
  · split
    · exact acts_stopExcess hd
    · split
      · exact .refl s
      · split
        · exact acts_shedPass hd passSteps
        · exact (State.Act.timer _ s.planner.overloadReported hd).acts
  · exact stopped
  · exact stopped

theorem acts_stageC (hd : s.disc.device = .run) : s.Acts s.stageC := by
  unfold State.stageC
  split
  · exact (State.Act.timer s.planner.excess false hd).acts
  · exact .refl s

/-- R80 to R84: stage D unthrottles, and ends with an admission or without one. -/
theorem works_admission (n : Nat) : s.Works (s.admission n) := by
  induction n generalizing s with
  | zero => exact .refl s
  | succ n ih =>
    unfold State.admission
    split
    · rename_i hm
      split
      · exact .refl s
      · rename_i x hx
        split
        · split
          · rename_i e _
            exact .admits (.refl s) e 1 hm (mem_unheld_of_firstChoice hx)
          · rename_i c _
            exact (State.Act.unthrottles c hm (state_of_bestThrottled (bestThrottled_of_firstChoice hx))).acts.works ih
        · split
          · exact .refl s
          · rename_i e he
            exact .admits (.refl s) e 2 hm (mem_unheld_of_behind (List.mem_of_find?_eq_some he))
    · exact .refl s

/-- R69: a re-evaluation is a run of acts. -/
theorem works_reevaluate (k : Call) : s.Works (s.reevaluate k) := by
  unfold State.reevaluate
  split
  · rename_i hd
    have hd' : (s.stageB k).disc.device = .run := by rw [(plannerOnly_stageB s k).disc]; exact hd
    exact ((acts_stageB hd k).trans (acts_stageC hd')).works (works_admission _)
  · exact .refl s

/-- R88: so is the service of the waiting set. -/
theorem acts_serveSlot : s.Acts s.serveSlot := by
  unfold State.serveSlot
  split
  · rename_i h
    simp only [Bool.and_eq_true, decide_eq_true_eq] at h
    split
    · exact .refl s
    · rename_i c hc
      exact (State.Act.serves c h.1 h.2 (mem_waiting_of_nextServed hc)).acts
  · exact .refl s

/-- R68, R77, R88, R89: and all that follows an event. -/
theorem works_settle (n : Nat) (need : Bool) : s.Works (s.settle n need) := by
  induction n generalizing s need with
  | zero => exact .refl s
  | succ n ih =>
    unfold State.settle
    dsimp only
    split
    · have hround := acts_serveSlot.works (works_reevaluate (s := s.serveSlot) .ordinary)
      split
      · rename_i hacts
        exact (hround.acts_of_slotActs hacts).works (ih _)
      · exact hround
    · exact .acts acts_serveSlot

theorem works_finish (before : State) (tell : Bool) : s.Works (before.finish s tell) := works_settle _ _

theorem works_reevaluateThen (k : Call) : s.Works (s.reevaluateThen k) := by
  unfold State.reevaluateThen
  dsimp only
  split
  · rename_i hacts
    exact ((works_reevaluate k).acts_of_slotActs hacts).works (works_settle _ _)
  · exact works_reevaluate k

end

/-- No act touches anything but what the Planner and the Start Slot act on. -/
theorem State.Act.plannerOnly {s t : State} (h : s.Act t) : s.PlannerOnly t := by
  cases h with
  | sheds c => exact plannerOnly_shedStep s c
  | reports => exact (plannerOnly_push s _ _ _ _).trans (plannerOnly_planner _ _)
  | timer x b => exact plannerOnly_planner s _
  | unthrottles c => exact plannerOnly_unthrottleChoice s c
  | serves c => exact plannerOnly_grantSlot s c

theorem State.Works.plannerOnly {s t : State} (h : s.Works t) : s.PlannerOnly t :=
  h.keeps (P := s.PlannerOnly) (fun _ _ hs h => hs.trans h.plannerOnly)
    (fun _ _ _ hs _ _ => hs.trans (plannerOnly_admitEntry _ _ _)) (.refl s)

/-! ### The notices an event pushes -/

/-- R184: notices have been pushed, and nothing else has happened to the ring. -/
def State.Pushes (s t : State) : Prop := ∃ more : List Notice, t.ring = more.foldl Ring.push s.ring

section
variable {s t u : State}

theorem State.Pushes.refl (s : State) : s.Pushes s := ⟨[], rfl⟩

/-- An operation that leaves the ring. -/
theorem State.Pushes.of_eq (h : t.ring = s.ring) : s.Pushes t := ⟨[], h⟩

theorem State.Pushes.trans (h : s.Pushes t) (k : t.Pushes u) : s.Pushes u := by
  obtain ⟨ns, hns⟩ := h
  obtain ⟨ms, hms⟩ := k
  exact ⟨ns ++ ms, by rw [hms, hns, List.foldl_append]⟩

theorem State.Pushes.push (h : s.Pushes t) (k : NoticeKind) (j : Option Nat) (a b : Nat) : s.Pushes (t.push k j a b) :=
  h.trans ⟨[t.notice k j a b], rfl⟩

theorem State.pushes_pushAll (l : List (NoticeKind × Option Nat × Nat × Nat)) : s.Pushes (s.pushAll l) :=
  ⟨_, State.pushAll_ring s l⟩

/-- R183: pushes keep the ring within thirty-two notices. -/
theorem State.Pushes.ringOk (h : s.Pushes t) (hs : s.RingOk) : t.RingOk := by
  obtain ⟨ns, hns⟩ := h
  unfold State.RingOk
  rw [hns]
  exact Ring.pushes_length_le ns s.ring hs

/-- Notices pushed first, and what follows them. -/
theorem State.Pushes.pushed {ns : List Notice} (hu : u.ring = ns.foldl Ring.push s.ring) (h : u.Pushes t) : s.Pushed ns t := by
  obtain ⟨ms, hms⟩ := h
  exact ⟨ms, by rw [hms, hu, List.foldl_append]⟩

theorem pushes_setChan (c : Chan) (ch : Channel) : s.Pushes (s.setChan c ch) := .of_eq rfl

theorem releaseSlot_ring (c : Chan) : (s.releaseSlot c).ring = s.ring := by rw [State.releaseSlot_eq]

theorem removeEntry_ring (c : Chan) : (s.removeEntry c).ring = s.ring := by
  unfold State.removeEntry
  split <;> rfl

theorem cutTo_ring (c : Chan) (st : ChState) (r : Reason) : (s.cutTo c st r).ring = s.ring := releaseSlot_ring c

theorem shedChannel_ring (c : Chan) (o : Origin) (r : Reason) (i : Intent) : (s.shedChannel c o r i).ring = s.ring := by
  unfold State.shedChannel
  split
  · rfl
  · exact cutTo_ring c _ _

theorem startFromWaiting_ring (c : Chan) : (s.startFromWaiting c).ring = s.ring := removeEntry_ring c

theorem grantSlot_ring (c : Chan) : (s.grantSlot c).ring = s.ring := by
  unfold State.grantSlot
  split <;> rfl

theorem askSlot_ring (c : Chan) : (s.askSlot c).ring = s.ring := by
  unfold State.askSlot
  split
  · exact grantSlot_ring c
  · split <;> rfl

theorem unthrottle_ring (c : Chan) : (s.unthrottle c).ring = s.ring := by
  unfold State.unthrottle
  split <;> rfl

theorem pushes_shedStep (c : Chan) : s.Pushes (s.shedStep c) := by
  unfold State.shedStep
  dsimp only
  split
  · exact (State.Pushes.refl s).push _ _ _ _
  · exact (State.Pushes.of_eq (shedChannel_ring c _ _ _)).push _ _ _ _

theorem State.Act.pushes (h : s.Act t) : s.Pushes t := by
  cases h with
  | sheds c => exact pushes_shedStep c
  | reports => exact (State.Pushes.refl s).push _ _ _ _
  | timer x b => exact .of_eq rfl
  | unthrottles c => exact (State.Pushes.of_eq (unthrottle_ring c)).push _ _ _ _
  | serves c => exact .of_eq (grantSlot_ring c)

theorem pushes_admitEntry (c : Chan) (k : Nat) : s.Pushes (s.admitEntry c k) :=
  (State.Pushes.of_eq (startFromWaiting_ring c)).push _ _ _ _

/-- All that follows an event pushes notices and does nothing else to the ring. -/
theorem State.Works.pushes (h : s.Works t) : s.Pushes t :=
  h.keeps (P := s.Pushes) (fun _ _ hs h => hs.trans h.pushes) (fun _ _ _ hs _ _ => hs.trans (pushes_admitEntry _ _)) (.refl s)

end

end Sys2Proof.Machine
end

section
/-!
PROOF. The level changes, the sag sheds and the notices of the events, as runs of acts; the ring stays within thirty-two
notices (R183).
-/

namespace Sys2Proof.Machine

section
variable {s t : State}

/-! ### Level changes -/

/-- R36, R71: a level change as the Planner is told of it. -/
def State.releveled (s : State) (new : Level) (cause : Cause) : State :=
  (State.push { s with level := { s.level with current := new, pending := .none, count := 0 } } .levelChange
    (some new.val) s.level.current.val cause.code).startQuiet

theorem works_tellLevelChange : s.startQuiet.Works s.tellLevelChange := by
  unfold State.tellLevelChange
  split
  · rename_i hd
    have hstop : s.startQuiet.Act s.startQuiet.stopExcess := .timer none s.planner.overloadReported hd
    exact hstop.acts.works (works_reevaluateThen _)
  · exact .refl _

theorem works_changeLevel (new : Level) (cause : Cause) : (s.releveled new cause).Works (s.changeLevel new cause) :=
  works_tellLevelChange

/-- R33 to R38: what an update makes of the Level Controller: its level block alone changes, or the level does. -/
def State.Releveled (s t : State) : Prop :=
  (∃ x, t = { s with level := x }) ∨ ∃ x new cause, t = State.changeLevel { s with level := x } new cause

theorem State.releveled_of_changeLevel (x : LevelCtl) (new : Level) (cause : Cause) :
    s.Releveled (State.changeLevel { s with level := x } new cause) := .inr ⟨x, new, cause, rfl⟩

theorem releveled_setLevelDirect (x : LevelCtl) (new : Level) (cause : Cause) :
    s.Releveled (State.setLevelDirect { s with level := x } new cause) := by
  unfold State.setLevelDirect
  split
  · exact .inl ⟨x, rfl⟩
  · exact State.releveled_of_changeLevel x new cause

theorem releveled_deepening (x : LevelCtl) (count : Nat) (deep : Level) (byReserve : Bool) :
    s.Releveled (State.deepening { s with level := x } count deep byReserve) := by
  unfold State.deepening
  split
  · exact State.releveled_of_changeLevel x _ _
  · exact .inl ⟨_, rfl⟩

theorem releveled_easing (x : LevelCtl) (count : Nat) : s.Releveled (State.easing { s with level := x } count) := by
  unfold State.easing
  split
  · exact State.releveled_of_changeLevel x _ _
  · exact .inl ⟨_, rfl⟩

theorem releveled_runDwell (x : LevelCtl) (u : ReserveUpdate) : s.Releveled (State.runDwell { s with level := x } u) := by
  unfold State.runDwell
  dsimp only
  split
  · exact releveled_deepening x _ _ _
  · split
    · exact releveled_easing x _
    · exact .inl ⟨_, rfl⟩

theorem releveled_levelTakes (u : ReserveUpdate) : s.Releveled (s.levelTakes u) := by
  unfold State.levelTakes
  dsimp only
  split
  · split
    · exact .inl ⟨_, rfl⟩
    · exact releveled_setLevelDirect _ _ _
  · split
    · exact releveled_runDwell _ u
    · exact .inl ⟨_, rfl⟩

theorem pushes_releveled (new : Level) (cause : Cause) : s.Pushes (s.releveled new cause) :=
  .push (.of_eq (s := s) (t := { s with level := { s.level with current := new, pending := .none, count := 0 } }) rfl) _ _ _ _

theorem State.Releveled.pushes (h : s.Releveled t) : s.Pushes t := by
  rcases h with ⟨x, rfl⟩ | ⟨x, new, cause, rfl⟩
  · exact .of_eq rfl
  · exact .trans (t := State.releveled { s with level := x } new cause) (pushes_releveled (s := { s with level := x }) new cause)
      (works_changeLevel new cause).pushes

/-! ### The Sag Monitor -/

/-- R41, R45: the state that a rising event leaves to the slot and the Planner. -/
def State.risen (s : State) (vb : Nat) : State := (s.setSag { s.sag with high := true }).risingEvent vb

/-- R41, R42: the state after a voltage below V_sag. -/
def State.fallen (s : State) : State := (s.setSag { s.sag with high := false }).fallingEvent

theorem comparatorTakes_of_falls (vb : Nat) (hd : s.disc.device ≠ .isolated) (hhigh : s.sag.high = true)
    (hvb : vb < s.plan.battery.vSag) : s.comparatorTakes vb = s.fallen := by
  unfold State.comparatorTakes
  rw [if_neg hd, if_pos (by simp [hhigh, hvb])]
  rfl

theorem comparatorTakes_of_rises (vb : Nat) (hd : s.disc.device ≠ .isolated) (hlow : s.sag.high = false)
    (hvb : s.plan.battery.vSag + s.plan.battery.hs < vb) :
    s.comparatorTakes vb = s.finish (s.risen vb) (s.sag.state ≠ .clear && (s.risen vb).sag.state = .clear) := by
  unfold State.comparatorTakes
  rw [if_neg hd, if_neg (by simp [hlow]), if_pos (by simp [hlow, hvb])]
  rfl

/-- R41, R45, R47: the comparator leaves the state, or raises a falling or a rising event. -/
theorem comparatorTakes_cases (vb : Nat) :
    s.comparatorTakes vb = s
      ∨ (s.disc.device ≠ .isolated ∧ s.sag.high = true ∧ s.comparatorTakes vb = s.fallen)
      ∨ (s.disc.device ≠ .isolated ∧ s.sag.high = false ∧ (s.risen vb).Works (s.comparatorTakes vb)) := by
  by_cases hd : s.disc.device = .isolated
  · unfold State.comparatorTakes
    rw [if_pos hd]
    exact .inl rfl
  · cases hhigh : s.sag.high with
    | true =>
      by_cases hvb : vb < s.plan.battery.vSag
      · exact .inr (.inl ⟨hd, rfl, comparatorTakes_of_falls vb hd hhigh hvb⟩)
      · left
        unfold State.comparatorTakes
        rw [if_neg hd, if_neg (by simp [hvb]), if_neg (by simp [hhigh])]
    | false =>
      by_cases hvb : s.plan.battery.vSag + s.plan.battery.hs < vb
      · rw [comparatorTakes_of_rises vb hd hhigh hvb]
        exact .inr (.inr ⟨hd, rfl, works_finish _ _⟩)
      · left
        unfold State.comparatorTakes
        rw [if_neg hd, if_neg (by simp [hhigh]), if_neg (by simp [hvb])]

theorem fallen_ring : s.fallen.ring = s.ring := by
  unfold State.fallen State.fallingEvent
  split <;> rfl

theorem pushes_risen (vb : Nat) : s.Pushes (s.risen vb) := by
  unfold State.risen State.risingEvent
  split
  · split <;> exact .of_eq rfl
  · exact .push (t := (s.setSag { s.sag with high := true }).startRecovery) (.of_eq rfl) _ _ _ _
  · exact .of_eq rfl
  · exact .of_eq rfl

theorem pushes_comparatorTakes (vb : Nat) : s.Pushes (s.comparatorTakes vb) := by
  rcases comparatorTakes_cases (s := s) vb with h | ⟨-, -, h⟩ | ⟨-, -, h⟩
  · rw [h]
    exact .refl s
  · rw [h]
    exact .of_eq fallen_ring
  · exact (pushes_risen vb).trans h.pushes

/-- R78: the state after the sag shed of candidate `c`. -/
def State.sagShedStep (s : State) (c : Chan) : State :=
  ((s.shedChannel c .sag .sag .waitSag).push .shed (some c) 3 (s.shedChannel c .sag .sag .waitSag).totalP).startQuiet

/-- R44: one more shed counted. -/
def State.countShed (s : State) : State := s.setSag { s.sag with sheds := s.sag.sheds + 1 }

/-- R79: the lack of relief reported. -/
def State.reportNoRelief (s : State) : State :=
  (s.push .sagNoRelief none s.est.vb s.sag.sheds).setSag { s.sag with noReliefReported := true }

theorem sagShed_of_candidate {c : Chan} (hd : s.disc.device = .run) (hc : s.sagCandidate = some c) :
    s.sagShed = (s.sagShedStep c, some c) := by
  unfold State.sagShed
  rw [if_pos hd, hc]
  rfl

theorem sagShed_of_none (h : s.disc.device = .run → s.sagCandidate = none) : s.sagShed = (s, none) := by
  unfold State.sagShed
  split
  · rw [h ‹_›]
  · rfl

theorem askSagShed_of_candidate {c : Chan} (hd : s.disc.device = .run) (hc : s.sagCandidate = some c) :
    s.askSagShed = (s.sagShedStep c).countShed.settle settleRounds true := by
  unfold State.askSagShed
  rw [sagShed_of_candidate hd hc]
  rfl

theorem askSagShed_of_none (h : s.disc.device = .run → s.sagCandidate = none) :
    s.askSagShed = if s.sag.noReliefReported then s else s.reportNoRelief := by
  unfold State.askSagShed
  rw [sagShed_of_none h]
  rfl

theorem exists_sagCandidate_or : (∃ c, s.disc.device = .run ∧ s.sagCandidate = some c)
    ∨ (s.disc.device = .run → s.sagCandidate = none) := by
  cases hc : s.sagCandidate with
  | none => exact .inr fun _ => rfl
  | some c =>
    by_cases hd : s.disc.device = .run
    · exact .inl ⟨c, hd, rfl⟩
    · exact .inr fun h => absurd h hd

theorem sagShedStep_ring (c : Chan) :
    (s.sagShedStep c).ring = s.ring.push (s.notice .shed (some c) 3 (s.shedChannel c .sag .sag .waitSag).totalP) := by
  unfold State.sagShedStep
  have hsys : (s.shedChannel c .sag .sag .waitSag).sys = s.sys := (plannerOnly_shedChannel s c _ _ _).sys
  have hring := shedChannel_ring (s := s) c .sag .sag .waitSag
  generalize s.shedChannel c .sag .sag .waitSag = shed at hsys hring ⊢
  show shed.ring.push ⟨_, shed.sys.uptime, _, _, _⟩ = _
  rw [hsys, hring]
  rfl

theorem pushes_askSagShed : s.Pushes s.askSagShed := by
  rcases exists_sagCandidate_or (s := s) with ⟨c, hd, hc⟩ | h
  · rw [askSagShed_of_candidate hd hc]
    have hstep : s.Pushes (s.sagShedStep c).countShed := ⟨[_], sagShedStep_ring c⟩
    exact hstep.trans (works_settle _ _).pushes
  · rw [askSagShed_of_none h]
    split
    · exact .refl s
    · exact (State.Pushes.refl s).push _ _ _ _

theorem pushes_toleranceExpiry : s.Pushes s.toleranceExpiry := by
  cases h : s.sag.state with
  | sagging =>
    rw [State.toleranceExpiry_of_sagging s h]
    have hstart : s.Pushes s.sagStarted := .push (t := s.setSag _) (.of_eq rfl) _ _ _ _
    exact hstart.trans pushes_askSagShed
  | sagShedding =>
    rw [State.toleranceExpiry_of_sagShedding s h]
    have hstart : s.Pushes (s.setSag { s.sag with tolerance := s.toleranceTimer }) := .of_eq rfl
    exact hstart.trans pushes_askSagShed
  | clear =>
    unfold State.toleranceExpiry
    rw [h]
    exact .refl s
  | recovering =>
    unfold State.toleranceExpiry
    rw [h]
    exact .refl s

/-! ### The channels' events -/

theorem pushes_trip (c : Chan) (r : Reason) : s.Pushes (s.trip c r) := by
  unfold State.trip
  dsimp only
  split
  · exact .push (.of_eq (releaseSlot_ring c)) _ _ _ _
  · exact .push (.push (.of_eq (releaseSlot_ring c)) _ _ _ _) _ _ _ _

theorem endWindow_ring (c : Chan) : (s.endWindow c).ring = s.ring := releaseSlot_ring c

theorem endRundown_ring (c : Chan) : (s.endRundown c).ring = s.ring := by
  unfold State.endRundown
  dsimp only
  split <;> rfl

theorem endSampleWindow_ring (c : Chan) : (s.endSampleWindow c).ring = s.ring := by
  unfold State.endSampleWindow
  split
  · exact endWindow_ring c
  · rfl

theorem doneTest_ring (c : Chan) (m : Nat) : (s.doneTest c m).ring = s.ring := by
  unfold State.doneTest
  split
  · split
    · exact endRundown_ring c
    · rfl
  · rfl

theorem pushes_testSample (c : Chan) (m : Nat) : s.Pushes (s.testSample c m) := by
  unfold State.testSample
  dsimp only
  split
  · exact pushes_trip c _
  · split
    · exact .of_eq ((doneTest_ring c m).trans (endSampleWindow_ring c))
    · exact .of_eq (endSampleWindow_ring c)

theorem pushes_takeSample (c : Chan) (m : Nat) : s.Pushes (s.takeSample c m) := by
  unfold State.takeSample
  dsimp only
  rw [State.currentActivity_eq]
  split
  · exact .trans (t := s.setChan c { s.chan c with m := m }) (.of_eq rfl) (pushes_testSample c m)
  · exact .of_eq rfl

theorem endRun_ring (c : Chan) : (s.endRun c).ring = s.ring := releaseSlot_ring c

theorem idleOff_ring (c : Chan) : (s.idleOff c).ring = s.ring := by
  unfold State.idleOff
  split
  · split
    · rfl
    · exact cutTo_ring c _ _
  · exact cutTo_ring c _ _
  · exact cutTo_ring c _ _
  · exact (removeEntry_ring c).trans (cutTo_ring c _ _)
  all_goals rfl

theorem idleOffAll_ring (cs : List Chan) : (s.idleOffAll cs).ring = s.ring := by
  induction cs generalizing s with
  | nil => rfl
  | cons c cs ih => exact ih.trans (idleOff_ring c)

theorem pushes_idleTurned (n : TimerIx) : s.Pushes (s.idleTurned n) :=
  .push (.of_eq (idleOffAll_ring (s.affectedMembers s.plan.timers[n]))) _ _ _ _

theorem switchOff_ring (c : Chan) : (s.switchOff c).ring = s.ring := by
  unfold State.switchOff
  split
  · exact (removeEntry_ring c).trans (cutTo_ring c _ _)
  · exact cutTo_ring c _ _
  · split
    · rfl
    · exact cutTo_ring c _ _
  · exact cutTo_ring c _ _
  all_goals rfl

/-! ### Isolation, reconnection and the entry to RUN -/

theorem resumeAll_ring : s.resumeAll.ring = s.ring := by
  unfold State.resumeAll
  dsimp only
  split
  · rfl
  · exact s.mapChans_ring fun c ch => if s.resumes c then { ch with state := .waiting } else ch

theorem pushes_enterRun : s.Pushes s.enterRun := by
  have hresume : s.Pushes (State.resumeAll { s with disc := s.disc.entered }) := .of_eq resumeAll_ring
  exact hresume.trans (works_settle _ _).pushes

theorem pushes_rejoined : s.Pushes s.rejoined := by
  have hset := (releveled_setLevelDirect (s := s.closeRelay) s.level s.level.deep s.closeRelay.reconnectCause).pushes
  exact hset

theorem pushes_reconnect (k : Trigger) : s.Pushes (s.reconnect k) := by
  rw [State.reconnect_eq]
  have hresume : s.rejoined.Pushes s.rejoined.resumeAll := .of_eq resumeAll_ring
  exact ((pushes_rejoined.trans hresume).trans (works_settle _ _).pushes).push _ _ _ _

theorem emptyStandby_ring : s.emptyStandby.ring = s.ring := by
  unfold State.emptyStandby
  split <;> rfl

theorem cutAll_ring : s.cutAll.ring = s.ring := by
  have hmap := s.mapChans_ring fun _ ch => ch.isolated
  unfold State.cutAll
  generalize s.mapChans (fun _ ch => ch.isolated) = cut at hmap ⊢
  exact emptyStandby_ring.trans hmap

theorem isolateBlocks_ring : s.isolateBlocks.ring = s.ring := cutAll_ring

theorem pushes_isolate (reason : IsoReason) : s.Pushes (s.isolate reason) := by
  unfold State.isolate
  have hblocks : s.Pushes s.isolateBlocks := .of_eq isolateBlocks_ring
  have habort : s.isolateBlocks.Pushes (s.isolateBlocks.pushAll (s.abortNotices allChans)) := State.pushes_pushAll _
  exact .push (t := (s.isolateBlocks.pushAll (s.abortNotices allChans)).isolateUnit reason) (hblocks.trans habort) _ _ _ _

theorem pushes_wakeEvent : s.Pushes s.wakeEvent := by
  unfold State.wakeEvent
  split
  · split
    · exact pushes_reconnect _
    · exact (State.Pushes.refl s).push _ _ _ _
  · exact .refl s

theorem auxActivity_ring (n : AuxIx) : (s.auxActivity n).ring = s.ring := by
  rw [State.auxActivity, State.activity_eq]

theorem pushes_transition (n : AuxIx) (level : Bool) : s.Pushes (s.transition n level) := by
  unfold State.transition
  dsimp only
  split
  · split
    · exact .trans (.of_eq (auxActivity_ring n)) pushes_wakeEvent
    · exact .of_eq (auxActivity_ring n)
  · exact .refl s

theorem pushes_disconnectTakes (u : ReserveUpdate) : s.Pushes (s.disconnectTakes u) := by
  have hnote : s.Pushes (s.noteUpdate u) := .of_eq rfl
  refine hnote.trans ?_
  unfold State.disconnectTakes
  dsimp only
  split
  · unfold State.startTakes
    split
    · exact pushes_enterRun
    · exact .of_eq rfl
  · unfold State.runTakes
    split
    · exact pushes_isolate _
    · split <;> exact .of_eq rfl
  · unfold State.isolatedTakes
    split
    · exact pushes_reconnect _
    · exact .of_eq rfl

theorem releaseHeld_ring : s.releaseHeld.ring = s.ring := by
  unfold State.releaseHeld
  split <;> rfl

/-- R184: every event of a block pushes notices and does nothing else to the ring. -/
theorem State.Event.pushes {i : Instr} (h : s.Event i t) : s.Pushes t := by
  cases h with
  | nothing => exact .refl s
  | battery vb cur =>
    unfold State.takeBatterySample
    exact .trans (t := State.pushAll { s with est := (s.sampleResult vb cur).est }
      ((s.sampleResult vb cur).syncs.map syncNotice)) ⟨_, State.pushAll_ring _ _⟩ (.of_eq rfl)
  | temperature x valid => exact .of_eq rfl
  | @level u rest => exact .trans (t := s.setLevelMail rest) (.of_eq rfl) (releveled_levelTakes u).pushes
  | @comparator vb rest => exact .trans (t := s.setSagMail rest) (.of_eq rfl) (pushes_comparatorTakes vb)
  | tolerance => exact pushes_toleranceExpiry
  | recovery =>
    exact .trans (t := (s.setSag { s.sag with state := .clear, recovery := none, releasePending := false }).releaseHeld)
      (.of_eq releaseHeld_ring) (works_finish _ _).pushes
  | sample c m => exact (pushes_takeSample c m).trans (works_finish _ _).pushes
  | short c => exact (pushes_trip c _).trans (works_finish _ _).pushes
  | rundownTimeout c =>
    exact (((State.Pushes.refl s).push _ _ _ _).trans (.of_eq (endRundown_ring c))).trans (works_finish _ _).pushes
  | windowEnd c => exact .trans (.of_eq (endWindow_ring c)) (works_finish _ _).pushes
  | retry c => exact .trans (.of_eq rfl) (works_finish _ _).pushes
  | goodRun c => exact .of_eq rfl
  | offTimer c =>
    have hask := askSlot_ring (s := s.setChan c { s.chan c with offTimer := none }) c
    exact .trans (.of_eq hask) (works_finish _ _).pushes
  | onTimer c => exact .trans (.of_eq (endRun_ring c)) (works_finish _ _).pushes
  | check c r => exact .push (t := s.setChan c _) (.of_eq rfl) _ _ _ _
  | excess => exact .trans (t := s.stopExcess) (.of_eq rfl) (works_reevaluateThen _).pushes
  | restoreQuiet => exact .trans (t := s.stopQuiet) (.of_eq rfl) (works_settle _ _).pushes
  | idle n =>
    rw [State.idleExpiry_eq]
    exact (pushes_idleTurned n).trans (works_finish _ _).pushes
  | overtaken n =>
    rw [State.overtakenExpiry_eq]
    exact .trans (t := s.overtakenTurned n) (.of_eq (idleOffAll_ring _)) (works_finish _ _).pushes
  | auxRaw n level => exact .of_eq rfl
  | acquired n => exact .of_eq rfl
  | transition n =>
    exact .trans (t := s.setAuxIn n { s.aux[n] with level := some s.aux[n].raw, stability := none }) (.of_eq rfl)
      (pushes_transition n _)
  | @disconnect u rest => exact .trans (t := s.setDisconnectMail rest) (.of_eq rfl) (pushes_disconnectTakes u)
  | pulseEnd => exact .of_eq rfl
  | pulseEndEntersRun => exact .trans (t := s.endPulse) (.of_eq rfl) pushes_enterRun
  | storeWrite p matched => exact .push (t := s.endWrite matched p) (.of_eq rfl) _ _ _ _

/-! ### The ring -/

theorem switchTaken_ring (c : Chan) (noted : Bool) : (s.switchTaken c noted).ring = s.ring := by
  rw [State.switchTaken_eq]

theorem forceEntry_ring (c : Chan) : (s.forceEntry c).ring = s.ring := by
  unfold State.forceEntry
  split
  · rfl
  · split <;> rfl

theorem repositionEntry_ring (c : Chan) : (s.repositionEntry c).ring = s.ring := by
  unfold State.repositionEntry
  split <;> rfl

theorem editUnthrottle_ring (c : Chan) : (s.editUnthrottle c).ring = s.ring := by
  unfold State.editUnthrottle
  dsimp only
  split
  · split <;> rfl
  · exact askSlot_ring c

theorem channelEdited_ring {c : Chan} {r : ChannelRec} (h : s.ChannelEdited c r t) : t.ring = s.ring := by
  cases h with
  | deactivated => rfl
  | carried =>
    unfold State.carryEdit
    split
    · exact repositionEntry_ring c
    · split
      · exact editUnthrottle_ring c
      · rfl

/-- R184, R185: an owner's part pushes notices, or takes up to four from the ring. -/
theorem State.Owned.pushes {ty : ReqType} (h : s.Owned ty t) : s.Pushes t ∨ t = s.takeNotices := by
  have taken : ∀ c noted, s.Pushes (s.switchTaken c noted) := fun c noted => .of_eq (switchTaken_ring c noted)
  cases h with
  | notices => exact .inr rfl
  | switched c noted => exact .inl (taken c noted)
  | requested c noted forced => exact .inl (.trans (.of_eq (switchTaken_ring c noted)) (works_finish _ _).pushes)
  | forced c noted forced =>
    refine .inl ((taken c noted).trans (.trans ?_ (works_finish _ _).pushes))
    split
    · exact .of_eq (forceEntry_ring c)
    · exact .refl _
  | recalled c noted => exact .inl (.of_eq (switchTaken_ring c noted))
  | switchedOff c noted =>
    exact .inl ((taken c noted).trans (.trans (.of_eq (switchOff_ring c)) (works_finish _ _).pushes))
  | reconnected => exact .inl (pushes_reconnect _)
  | editedChannel c body raw u hraw hvalid hu =>
    have hring := channelEdited_ring hu
    exact .inl (.trans (t := u.bumpGeneration) (.of_eq hring) (works_finish _ _).pushes)
  | editedLevel l body x =>
    exact .inl (.trans (t := (s.setLevelTable x).cancelDwell.bumpGeneration) (.of_eq rfl) (works_finish _ _).pushes)
  | charged r => exact .inl ⟨[_], rfl⟩
  | isolated => exact .inl (pushes_isolate _)
  | _ => exact .inl (.of_eq rfl)

theorem realign_ring (old : Plan) (cs : List Chan) : (s.realign old cs).ring = s.ring := by
  induction cs generalizing s with
  | nil => rfl
  | cons c cs ih =>
    refine ih.trans ?_
    split
    · exact editUnthrottle_ring c
    · rfl

theorem brownoutIsolation_ring : s.brownoutIsolation.ring = s.ring := by
  unfold State.brownoutIsolation
  exact (State.mapChans_ring _ fun c ch => ch.afterBrownout (s.crec c)).trans isolateBlocks_ring

theorem State.ResetTo.ringOk {i : Instr} (h : s.ResetTo i t) (hs : s.RingOk) : t.RingOk := by
  cases h with
  | powerOn straps service =>
    have hblocks : (s.powerOnBlocks straps service).RingOk := Nat.zero_le _
    exact (((State.Pushes.refl _).push _ _ _ _).trans (State.pushes_pushAll _)).ringOk hblocks
  | brownout straps =>
    have hring : s.Pushes (s.brownoutSystem straps).brownoutIsolation := .of_eq (brownoutIsolation_ring)
    exact (((hring.push _ _ _ _).trans (State.pushes_pushAll _)).push _ _ _ _).ringOk hs
  | restart =>
    rw [State.restart_eq]
    have hrestarted : s.Pushes s.restarted :=
      .trans (.trans (.push (t := s.restartBlocks (loadPlan s.store.image s.sys.straps).plan) (.of_eq rfl) _ _ _ _)
        (State.pushes_pushAll _)) (State.pushes_pushAll _)
    exact ((hrestarted.trans (.of_eq (realign_ring s.plan allChans))).trans (works_settle _ _).pushes).ringOk hs

/-- Settles O8. -/
theorem ringStaysWithinThirtyTwo : Obligations.RingStaysWithinThirtyTwo := by
  intro s t hs h
  refine step_preserves (P := State.RingOk) (fun _ _ h => h) (fun _ h => h) ?_ hs h
  intro i s t hs h
  refine exec_preserves (P := State.RingOk) (fun _ _ _ h => h) ?_ (fun _ _ _ hs h => h.ringOk hs)
    (fun _ _ _ hs h => h.pushes.ringOk hs) hs h
  intro ty body s hs _ _
  rcases (ty.owned body s).pushes with h | h
  · exact h.ringOk hs
  · unfold State.RingOk
    rw [h, State.takeNotices, Ring.taken_length]
    omega

end

end Sys2Proof.Machine
end

section
/-!
PROOF. The events and the owners' parts by the blocks they touch; the Sag Monitor, the level dwell and the idle timers stay
coherent (R33, R37, R41 to R47, R144 to R153).
-/

namespace Sys2Proof.Machine

/-! ### The events by the blocks they touch -/

/-- What an event does, the channels, the slot, the list, the Planner's timers and the ring left aside where they are not
what it is about. -/
inductive State.Block (s : State) : State → Prop where
  | planner {t : State} (h : s.PlannerOnly t) : s.Block t
  | battery (vb cur : Int) : s.Block (s.takeBatterySample vb cur)
  | temperature (x : Int) (valid : Bool) : s.Block { s with est := s.est.takeTemperature s.plan.battery x valid }
  | level {u : ReserveUpdate} {rest : List ReserveUpdate} (h : s.mail.level = u :: rest) :
      s.Block ((s.setLevelMail rest).levelTakes u)
  | comparator {vb : Nat} {rest : List Nat} (h : s.mail.sag = vb :: rest) : s.Block ((s.setSagMail rest).comparatorTakes vb)
  | tolerance (h : s.sag.tolerance.isSome = true) : s.Block s.toleranceExpiry
  | recovery {t : State} (hs : s.sag.state = .recovering)
      (h : State.PlannerOnly (s.setSag { s.sag with state := .clear, recovery := none, releasePending := false }) t) :
      s.Block t
  | sample (c : Chan) (m : Nat) {t : State} (h : State.PlannerOnly { s with idle := (s.currentActivity c m).idle } t) :
      s.Block t
  | idle (n : TimerIx) (l : List (TimerIx × Chan)) {t : State} (hn : s.idleDue n = true)
      (h : State.PlannerOnly { s with idle := s.idle.set n ⟨.expired, 0⟩, overtaken := l } t) : s.Block t
  | overtaken (l : List (TimerIx × Chan)) {t : State} (h : State.PlannerOnly { s with overtaken := l } t) : s.Block t
  | auxInput (n : AuxIx) (a : AuxInput) : s.Block (s.setAuxIn n a)
  | transition (n : AuxIx) (a : AuxInput) (level : Bool) : s.Block ((s.setAuxIn n a).transition n level)
  | disconnect (u : ReserveUpdate) (rest : List ReserveUpdate) : s.Block ((s.setDisconnectMail rest).disconnectTakes u)
  | pulseEnd (h : ¬(s.disc.device = .start ∧ s.disc.entryPending = true)) : s.Block s.endPulse
  | pulseEndEntersRun (h : s.disc.device = .start) : s.Block s.endPulse.enterRun
  | store (x : Store) {t : State} (h : State.PlannerOnly { s with store := x } t) : s.Block t

section
variable {s t : State}

theorem activity_congr {r : State} (q : TimerRec → Bool) (hdisc : t.disc = r.disc) (hplan : t.plan = r.plan)
    (hidle : t.idle = r.idle) : (t.activity q).idle = (r.activity q).idle := by
  unfold State.activity
  rw [hdisc]
  split
  · dsimp only
    rw [hplan, hidle]
  · exact hidle

theorem currentActivity_congr {r : State} (h : r.PlannerOnly t) (c : Chan) (m : Nat) :
    (t.currentActivity c m).idle = (r.currentActivity c m).idle := by
  unfold State.currentActivity
  have hcrec : t.crec c = r.crec c := by rw [State.crec, h.plan, State.crec]
  rw [hcrec]
  split
  · exact activity_congr _ h.disc h.plan h.idle
  · exact h.idle

/-- R114, R146: the sample's own work, ahead of its activity. -/
def State.sampleWork (s : State) (c : Chan) (m : Nat) : State :=
  if ((s.setChan c { s.chan c with m := m }).chan c).closed then (s.setChan c { s.chan c with m := m }).testSample c m
  else s.setChan c { s.chan c with m := m }

theorem State.takeSample_eq (c : Chan) (m : Nat) : s.takeSample c m = (s.sampleWork c m).currentActivity c m := rfl

theorem plannerOnly_sampleWork (c : Chan) (m : Nat) : s.PlannerOnly (s.sampleWork c m) := by
  unfold State.sampleWork
  split
  · exact (plannerOnly_setChan s c _).trans (plannerOnly_testSample _ c m)
  · exact plannerOnly_setChan s c _

theorem takeSample_idle (c : Chan) (m : Nat) : (s.takeSample c m).idle = (s.currentActivity c m).idle :=
  currentActivity_congr (plannerOnly_sampleWork c m) c m

theorem State.Event.block {i : Instr} (h : s.Event i t) : s.Block t := by
  cases h with
  | nothing => exact .planner (.refl s)
  | battery vb cur => exact .battery vb cur
  | temperature x valid => exact .temperature x valid
  | level h => exact .level h
  | comparator h => exact .comparator h
  | tolerance h => exact .tolerance h
  | recovery h hs => exact .recovery hs ((plannerOnly_releaseHeld (s.setSag _)).trans (plannerOnly_finish _ _ _))
  | sample c m =>
    have h := plannerOnly_takeSample s c m
    rw [takeSample_idle] at h
    exact .sample c m (h.trans (plannerOnly_finish _ _ _))
  | short c => exact .planner ((plannerOnly_trip s c _).trans (plannerOnly_finish _ _ _))
  | rundownTimeout c =>
    exact .planner (((plannerOnly_push s _ _ _ _).trans (plannerOnly_endRundown _ c)).trans (plannerOnly_finish _ _ _))
  | windowEnd c => exact .planner ((plannerOnly_endWindow s c).trans (plannerOnly_finish _ _ _))
  | retry c =>
    exact .planner (((plannerOnly_setChan s c _).trans (plannerOnly_insertEntry _ c _ _)).trans (plannerOnly_finish _ _ _))
  | goodRun c => exact .planner (plannerOnly_setChan s c _)
  | offTimer c =>
    exact .planner (((plannerOnly_setChan s c _).trans (plannerOnly_askSlot _ c)).trans (plannerOnly_finish _ _ _))
  | onTimer c => exact .planner ((plannerOnly_endRun s c).trans (plannerOnly_finish _ _ _))
  | check c r => exact .planner ((plannerOnly_setChan s c _).trans (plannerOnly_push _ _ _ _ _))
  | excess => exact .planner ((plannerOnly_planner s _).trans (plannerOnly_reevaluateThen _ _))
  | restoreQuiet => exact .planner ((plannerOnly_planner s _).trans (plannerOnly_settle _ _ _))
  | idle n h =>
    rw [State.idleExpiry_eq]
    exact .idle n _ h ((plannerOnly_idleTurned s n).trans (plannerOnly_finish _ _ _))
  | overtaken n =>
    rw [State.overtakenExpiry_eq]
    exact .overtaken _ ((plannerOnly_overtakenTurned s n).trans (plannerOnly_finish _ _ _))
  | auxRaw n level => exact .auxInput n _
  | acquired n => exact .auxInput n _
  | transition n => exact .transition n _ _
  | disconnect => exact .disconnect _ _
  | pulseEnd h => exact .pulseEnd h
  | pulseEndEntersRun h => exact .pulseEndEntersRun h
  | storeWrite p matched => exact .store _ (plannerOnly_push (s.endWrite matched p) _ _ _ _)

/-- R156, R159: a disconnect block that counts, with the device, its reason and its relay as they were; an entry to RUN is
noted in START behind a pulse. -/
structure Disconnect.Counts (d e : Disconnect) : Prop where
  device : e.device = d.device
  reason : e.reason = d.reason
  pulse : e.pulse = d.pulse
  lastPulse : e.lastPulse = d.lastPulse
  entry : e.entryPending = true → d.entryPending = true ∨ (d.device = .start ∧ d.pulse.isSome = true)

/-- R154, R156, R159: what the Disconnect Unit makes of an update. -/
theorem disconnectTakes_cases (u : ReserveUpdate) :
    (∃ d, s.disc.Counts d ∧ s.disconnectTakes u = { s with disc := d })
      ∨ (s.disc.device = .start ∧ s.disconnectTakes u = (s.noteUpdate u).enterRun)
      ∨ (s.disc.device = .run ∧ ∃ r, r ≠ .none ∧ s.disconnectTakes u = (s.noteUpdate u).isolate r)
      ∨ (s.disc.device = .isolated ∧ s.disconnectTakes u = (s.noteUpdate u).reconnect .charge) := by
  have hdevice : (s.noteUpdate u).disc.device = s.disc.device := rfl
  cases hd : s.disc.device with
  | start =>
    have htakes : s.disconnectTakes u = (s.noteUpdate u).startTakes := by
      simp only [State.disconnectTakes, hdevice, hd]
    rw [htakes, State.startTakes]
    split
    · exact .inr (.inl ⟨rfl, rfl⟩)
    · rename_i hpulse
      have hsome : s.disc.pulse.isSome = true := 
        Option.isSome_iff_ne_none.2 fun k => hpulse (Option.isNone_iff_eq_none.2 k)
      exact .inl ⟨{ (s.noteUpdate u).disc with entryPending := true }, ⟨rfl, rfl, rfl, rfl, fun _ => .inr ⟨hd, hsome⟩⟩, rfl⟩
  | run =>
    have htakes : s.disconnectTakes u = (s.noteUpdate u).runTakes u := by simp only [State.disconnectTakes, hdevice, hd]
    rw [htakes, State.runTakes]
    split
    · refine .inr (.inr (.inl ⟨rfl, _, ?_, rfl⟩))
      split <;> nofun
    · split
      · exact .inl ⟨{ (s.noteUpdate u).disc with
          isolateCount := s.disc.isolateCount + 1, isolateLen := s.isolateLenAt },
          ⟨rfl, rfl, rfl, rfl, fun h => .inl h⟩, rfl⟩
      · exact .inl ⟨{ (s.noteUpdate u).disc with isolateCount := 0 },
          ⟨rfl, rfl, rfl, rfl, fun h => .inl h⟩, rfl⟩
  | isolated =>
    have htakes : s.disconnectTakes u = (s.noteUpdate u).isolatedTakes u := by
      simp only [State.disconnectTakes, hdevice, hd]
    rw [htakes, State.isolatedTakes]
    split
    · exact .inr (.inr (.inr ⟨rfl, rfl⟩))
    · exact .inl ⟨{ (s.noteUpdate u).disc with
          chargeCount := if (s.noteUpdate u).chargeCounts u then s.disc.chargeCount + 1 else 0 },
          ⟨rfl, rfl, rfl, rfl, fun h => .inl h⟩, rfl⟩

/-- R141, R160: a transition is an activity at most, followed in ISOLATED by a reconnection or a refusal of it. -/
theorem transition_cases (n : AuxIx) (level : Bool) :
    s.transition n level = s ∨ s.transition n level = s.auxActivity n
      ∨ (s.disc.device = .isolated ∧ s.transition n level = s.reconnect .wake)
      ∨ (s.disc.device = .isolated ∧ s.transition n level =
          s.push .reconnectRefused none s.disc.vc (s.plan.battery.vCut + s.plan.battery.reconnectMargin)) := by
  unfold State.transition
  dsimp only
  split
  · split
    · unfold State.wakeEvent
      have hdisc : (s.auxActivity n).disc = s.disc := by rw [State.auxActivity, State.activity_eq]
      split
      · rename_i h
        simp only [Bool.and_eq_true, decide_eq_true_eq, hdisc] at h
        have hact : s.auxActivity n = s := by
          unfold State.auxActivity State.activity
          rw [if_neg (by rw [h.1]; decide)]
        rw [hact]
        split
        · exact .inr (.inr (.inl ⟨h.1, rfl⟩))
        · exact .inr (.inr (.inr ⟨h.1, rfl⟩))
      · exact .inr (.inl rfl)
    · exact .inr (.inl rfl)
  · exact .inl rfl

/-! ### The owners' parts by the blocks they touch -/

/-- The owners' parts of every type but RECONNECT and ISOLATE leave the Sag Monitor, the queues, the Disconnect Unit and,
but for the dwell that SET_LEVEL cancels, the Level Controller. -/
theorem State.Owned.blocks {ty : ReqType} (h : s.Owned ty t) :
    (t.sag = s.sag ∧ t.mail = s.mail ∧ t.disc = s.disc ∧ (t.level = s.level ∨ t.level = s.cancelDwell.level))
      ∨ (s.disc.device = .isolated ∧ t = s.reconnect .request) ∨ (s.disc.device = .run ∧ t = s.isolate .storage)
      ∨ (s.disc.device = .isolated ∧ t = s.storeIsolated) := by
  have taken : ∀ c noted, State.PlannerOnly
      { s with idle := (s.switchTaken c noted).idle, overtaken := (s.switchTaken c noted).overtaken }
      (s.switchTaken c noted) := fun c noted => by
    have h := State.switchTaken_eq s c noted
    generalize s.switchTaken c noted = r at h ⊢
    rw [h]
    exact .refl _
  have kept : ∀ {x o}, State.PlannerOnly { s with idle := x, overtaken := o } t →
      t.sag = s.sag ∧ t.mail = s.mail ∧ t.disc = s.disc ∧ (t.level = s.level ∨ t.level = s.cancelDwell.level) :=
    fun h => ⟨h.sag, h.mail, h.disc, .inl h.level⟩
  cases h with
  | switched c noted => exact .inl (kept (taken c noted))
  | requested c noted forced =>
    exact .inl (kept ((taken c noted).trans (((plannerOnly_setChan _ c _).trans (plannerOnly_insertEntry _ c _ _)).trans
      (plannerOnly_finish _ _ _))))
  | forced c noted forced =>
    refine .inl (kept ((taken c noted).trans (.trans ?_ (plannerOnly_finish _ _ _))))
    split
    · exact plannerOnly_forceEntry _ c
    · exact .refl _
  | recalled c noted => exact .inl (kept ((taken c noted).trans (plannerOnly_setChan _ c _)))
  | switchedOff c noted =>
    exact .inl (kept ((taken c noted).trans ((plannerOnly_switchOff _ c).trans (plannerOnly_finish _ _ _))))
  | reconnected hd => exact .inr (.inl ⟨hd, rfl⟩)
  | isolated hd => exact .inr (.inr (.inl ⟨hd, rfl⟩))
  | stored hd => exact .inr (.inr (.inr ⟨hd, rfl⟩))
  | editedChannel c body raw u hraw hvalid hu =>
    have hu' := plannerOnly_channelEdited s hu
    have hfinish := plannerOnly_finish u.bumpGeneration s true
    exact .inl ⟨hfinish.sag.trans hu'.sag, hfinish.mail.trans hu'.mail, hfinish.disc.trans hu'.disc,
      .inl (hfinish.level.trans hu'.level)⟩
  | editedLevel l body x =>
    have hfinish := plannerOnly_finish (s.setLevelTable x).cancelDwell.bumpGeneration s
      (s.levelEditTells (s.setLevelTable x).cancelDwell.bumpGeneration)
    exact .inl ⟨hfinish.sag, hfinish.mail, hfinish.disc, .inr hfinish.level⟩
  | _ => exact .inl ⟨rfl, rfl, rfl, .inl rfl⟩

/-! ### The Sag Monitor -/

/-- R41 to R47: what the comparator output, the timers and release pending are by the sag state. -/
structure SagMon.Ok (g : SagMon) : Prop where
  high : g.high = true ↔ g.state = .clear ∨ g.state = .recovering
  tolerance : g.tolerance.isSome = true ↔ g.state = .sagging ∨ g.state = .sagShedding
  recovery : g.recovery.isSome = true ↔ g.state = .recovering
  clear : g.state = .clear → g.releasePending = false
  pending : g.state = .sagShedding ∨ g.state = .recovering → g.releasePending = true

theorem State.sagOk_iff : s.SagOk ↔ s.sag.Ok ∧ (s.disc.device = .isolated → s.sag = SagMon.initial ∧ s.mail.sag = []) := by
  constructor
  · rintro ⟨hhigh, htol, hrec, hclear, hpending, hiso⟩
    exact ⟨⟨hhigh, htol, hrec, hclear, hpending⟩, hiso⟩
  · rintro ⟨⟨hhigh, htol, hrec, hclear, hpending⟩, hiso⟩
    exact ⟨hhigh, htol, hrec, hclear, hpending, hiso⟩

theorem SagMon.initial_ok : SagMon.initial.Ok := by
  constructor <;> decide

theorem SagMon.Ok.count {g : SagMon} (h : g.Ok) (n : Nat) (b : Bool) : SagMon.Ok { g with sheds := n, noReliefReported := b } :=
  ⟨h.high, h.tolerance, h.recovery, h.clear, h.pending⟩

/-- What leaves the Sag Monitor, the device and the raw voltages that wait leaves their agreement. -/
theorem State.SagOk.of_kept (hs : s.SagOk) (hsag : t.sag = s.sag) (hdevice : t.disc.device = s.disc.device)
    (hmail : t.mail.sag = s.mail.sag) : t.SagOk := by
  rw [State.sagOk_iff] at hs ⊢
  rw [hsag, hdevice, hmail]
  exact hs

theorem State.SagOk.of_run (hs : s.SagOk) (hsag : t.sag = s.sag) (hdevice : t.disc.device = .run) : t.SagOk := by
  rw [State.sagOk_iff] at hs ⊢
  rw [hsag]
  exact ⟨hs.1, fun h => by rw [hdevice] at h; cases h⟩

theorem State.sagOk_of_initial (hsag : t.sag = SagMon.initial) (hmail : t.disc.device = .isolated → t.mail.sag = []) :
    t.SagOk := by
  rw [State.sagOk_iff, hsag]
  exact ⟨SagMon.initial_ok, fun h => ⟨rfl, hmail h⟩⟩

theorem isolate_sagOk (r : IsoReason) : (s.isolate r).SagOk :=
  State.sagOk_of_initial (plannerOnly_isolate s r).sag fun _ => congrArg Mail.sag (plannerOnly_isolate s r).mail

theorem State.SagOk.reconnect (hs : s.SagOk) (k : Trigger) : (s.reconnect k).SagOk :=
  hs.of_run (plannerOnly_reconnect s k).sag (congrArg Disconnect.device (plannerOnly_reconnect s k).disc)

theorem State.SagOk.enterRun (hs : s.SagOk) : s.enterRun.SagOk :=
  hs.of_run (plannerOnly_enterRun s).sag (congrArg Disconnect.device (plannerOnly_enterRun s).disc)

/-- R42: a falling event. -/
theorem fallen_sag_ok (h : s.sag.Ok) (hhigh : s.sag.high = true) : s.fallen.sag.Ok := by
  unfold State.fallen State.fallingEvent
  have hstate := h.high.1 hhigh
  have hrec := h.recovery
  have hpending := h.pending
  split <;> rename_i hc <;> change s.sag.state = _ at hc
  · refine ⟨by simp [State.setSag], by simp [State.setSag, State.toleranceTimer, Timer.ms], ?_, by simp [State.setSag],
      by simp [State.setSag]⟩
    simp only [State.setSag, hrec, hc, reduceCtorEq]
  · exact ⟨by simp [State.setSag], by simp [State.setSag, State.toleranceTimer, Timer.ms], by simp [State.setSag],
      by simp [State.setSag], by simp [State.setSag]⟩
  · rw [hc] at hstate
    simp at hstate
  · rw [hc] at hstate
    simp at hstate

/-- R45: a rising event. -/
theorem risen_sag_ok (h : s.sag.Ok) (hlow : s.sag.high = false) (vb : Nat) : (s.risen vb).sag.Ok := by
  have hstate : ¬(s.sag.state = .clear ∨ s.sag.state = .recovering) := fun k => by
    rw [h.high.2 k] at hlow
    cases hlow
  have hrecovery : s.sag.releasePending = true →
      (s.setSag { s.sag with high := true }).startRecovery.sag.Ok := fun hp =>
    ⟨by simp [State.startRecovery, State.setSag], by simp [State.startRecovery, State.setSag],
      by simp [State.startRecovery, State.setSag, Timer.s, Timer.ms], by simp [State.startRecovery, State.setSag],
      fun _ => hp⟩
  unfold State.risen State.risingEvent
  split <;> rename_i hc <;> change s.sag.state = _ at hc
  · split
    · exact hrecovery ‹_›
    · rename_i hp
      refine ⟨by simp [State.setSag], by simp [State.setSag], ?_, fun _ => by simpa [State.setSag] using hp,
        by simp [State.setSag]⟩
      have hrec := h.recovery
      simpa [State.setSag, hc] using hrec
  · exact hrecovery (h.pending (.inl hc))
  · exact absurd (.inl hc) hstate
  · exact absurd (.inr hc) hstate

theorem fallen_disc : s.fallen.disc = s.disc := by
  unfold State.fallen State.fallingEvent
  split <;> rfl

theorem State.SagOk.comparatorTakes (hs : s.SagOk) (vb : Nat) : (s.comparatorTakes vb).SagOk := by
  rcases comparatorTakes_cases (s := s) vb with h | ⟨hd, hhigh, h⟩ | ⟨hd, hlow, h⟩
  · rw [h]
    exact hs
  · rw [h]
    rw [State.sagOk_iff] at hs ⊢
    refine ⟨fallen_sag_ok hs.1 hhigh, fun k => ?_⟩
    rw [fallen_disc] at k
    exact absurd k hd
  · have hframe := plannerOnly_comparatorTakes s vb
    have hsag : (s.comparatorTakes vb).sag = (s.risen vb).sag :=
      h.keeps (P := fun t => t.sag = (s.risen vb).sag) (fun _ _ ht k => k.plannerOnly.sag.trans ht)
        (fun _ _ _ ht _ _ => (plannerOnly_admitEntry _ _ _).sag.trans ht) rfl
    rw [State.sagOk_iff] at hs ⊢
    rw [hsag]
    refine ⟨risen_sag_ok hs.1 hlow vb, fun k => ?_⟩
    rw [hframe.disc] at k
    exact absurd k hd

/-- R43, R44: an answer to a sag shed counts it, or notes that no relief was reported. -/
theorem askSagShed_sag : ∃ n b, s.askSagShed.sag = { s.sag with sheds := n, noReliefReported := b } := by
  rcases exists_sagCandidate_or (s := s) with ⟨c, hd, hc⟩ | h
  · rw [askSagShed_of_candidate hd hc, (plannerOnly_settle _ _ _).sag]
    have hstep : (s.sagShedStep c).sag = s.sag := (plannerOnly_shedChannel s c _ _ _).sag
    exact ⟨_, _, congrArg (fun g : SagMon => { g with sheds := g.sheds + 1 }) hstep⟩
  · rw [askSagShed_of_none h]
    split
    · exact ⟨_, _, rfl⟩
    · exact ⟨_, _, rfl⟩

theorem State.SagOk.toleranceExpiry (hs : s.SagOk) (h : s.sag.tolerance.isSome = true) : s.toleranceExpiry.SagOk := by
  have hframe := plannerOnly_toleranceExpiry s
  have hok := (State.sagOk_iff.1 hs).1
  have hiso := (State.sagOk_iff.1 hs).2
  rw [State.sagOk_iff]
  refine ⟨?_, fun hd => ?_⟩
  · rcases hok.tolerance.1 h with hstate | hstate
    · rw [State.toleranceExpiry_of_sagging s hstate]
      obtain ⟨n, b, hsag⟩ := askSagShed_sag (s := s.sagStarted)
      rw [hsag]
      refine SagMon.Ok.count ⟨?_, ?_, ?_, ?_, ?_⟩ n b
      · have hhigh := hok.high
        rw [hstate] at hhigh
        simpa [State.sagStarted, State.push, State.setSag] using hhigh
      · simp [State.sagStarted, State.push, State.setSag, State.toleranceTimer, Timer.ms]
      · have hrec := hok.recovery
        rw [hstate] at hrec
        simpa [State.sagStarted, State.push, State.setSag] using hrec
      · simp [State.sagStarted, State.push, State.setSag]
      · simp [State.sagStarted, State.push, State.setSag]
    · rw [State.toleranceExpiry_of_sagShedding s hstate]
      obtain ⟨n, b, hsag⟩ := askSagShed_sag (s := s.setSag { s.sag with tolerance := s.toleranceTimer })
      rw [hsag]
      have htimer : SagMon.Ok { s.sag with tolerance := s.toleranceTimer } := by
        refine ⟨hok.high, ?_, hok.recovery, hok.clear, hok.pending⟩
        simp [hstate, State.toleranceTimer, Timer.ms]
      exact htimer.count n b
  · rw [hframe.disc] at hd
    rw [(hiso hd).1] at h
    cases h

theorem State.Block.sagOk (h : s.Block t) (hs : s.SagOk) : t.SagOk := by
  cases h with
  | planner h => exact hs.of_kept h.sag (congrArg _ h.disc) (congrArg _ h.mail)
  | battery vb cur =>
    rw [State.takeBatterySample_eq, State.sagOk_iff] at *
    refine ⟨hs.1, fun hd => ⟨(hs.2 hd).1, ?_⟩⟩
    have hdeaf : s.comparatorListens = false := by
      change s.disc.device = .isolated at hd
      simp [State.comparatorListens, hd]
    simp only [Mail.publish, hdeaf]
    exact (hs.2 hd).2
  | temperature x valid => exact hs.of_kept rfl rfl rfl
  | @level u rest =>
    have h := plannerOnly_levelTakes (s.setLevelMail rest) u
    have hmail := congrArg Mail.sag h.mail
    exact hs.of_kept h.sag (congrArg _ h.disc) hmail
  | @comparator vb rest hmail =>
    have hrest : (s.setSagMail rest).SagOk := by
      rw [State.sagOk_iff] at hs ⊢
      refine ⟨hs.1, fun hd => ?_⟩
      have := (hs.2 hd).2
      rw [hmail] at this
      cases this
    exact hrest.comparatorTakes vb
  | tolerance h => exact hs.toleranceExpiry h
  | recovery hstate h =>
    rw [State.sagOk_iff] at hs ⊢
    rw [h.sag, h.disc]
    have htol := hs.1.tolerance
    have hhigh := hs.1.high
    rw [hstate] at htol hhigh
    refine ⟨⟨?_, ?_, by simp [State.setSag], fun _ => rfl, by simp [State.setSag]⟩, fun hd => ?_⟩
    · simpa [State.setSag] using hhigh
    · simpa [State.setSag] using htol
    · rw [(hs.2 hd).1] at hstate
      cases hstate
  | sample c m h => exact hs.of_kept h.sag (congrArg _ h.disc) (congrArg _ h.mail)
  | idle n l hn h => exact hs.of_kept h.sag (congrArg _ h.disc) (congrArg _ h.mail)
  | overtaken l h => exact hs.of_kept h.sag (congrArg _ h.disc) (congrArg _ h.mail)
  | auxInput n a => exact hs.of_kept rfl rfl rfl
  | transition n a level =>
    have hset : (s.setAuxIn n a).SagOk := hs.of_kept rfl rfl rfl
    rcases transition_cases (s := s.setAuxIn n a) n level with h | h | ⟨-, h⟩ | ⟨-, h⟩
    · rw [h]
      exact hset
    · rw [h, State.auxActivity, State.activity_eq]
      exact hset.of_kept rfl rfl rfl
    · rw [h]
      exact hset.reconnect _
    · rw [h]
      exact hset.of_kept rfl rfl rfl
  | disconnect u rest =>
    have hset : (s.setDisconnectMail rest).SagOk := hs.of_kept rfl rfl rfl
    have hnote : ((s.setDisconnectMail rest).noteUpdate u).SagOk := hs.of_kept rfl rfl rfl
    rcases disconnectTakes_cases (s := s.setDisconnectMail rest) u with ⟨d, hd, h⟩ | ⟨-, h⟩ | ⟨-, r, -, h⟩ | ⟨-, h⟩
    · rw [h]
      exact hset.of_kept rfl hd.device rfl
    · rw [h]
      exact hnote.enterRun
    · rw [h]
      exact isolate_sagOk r
    · rw [h]
      exact hnote.reconnect _
  | pulseEnd => exact hs.of_kept rfl rfl rfl
  | pulseEndEntersRun =>
    have hend : s.endPulse.SagOk := hs.of_kept rfl rfl rfl
    exact hend.enterRun
  | store x h => exact hs.of_kept h.sag (congrArg _ h.disc) (congrArg _ h.mail)

/-- R164, R40: the isolation of a BROWNOUT touches the Disconnect Unit, the Sag Monitor with its queue, the level, the
overtaken expiries and what the Planner acts on. -/
theorem plannerOnly_brownoutIsolation (s : State) :
    State.PlannerOnly
      { s with
        sag := SagMon.initial, mail := s.dropSagSamples.mail, overtaken := []
        level := { s.cancelDwell.level with current := 7, deep := 7, byReserve := false }
        disc := { (s.isolateUnit .brownout).disc with vc := 0, i := 0, isolateLen := 0 } }
      s.brownoutIsolation := by
  have h := plannerOnly_isolateBlocks s
  have hmap := plannerOnly_mapChans (s.isolateBlocks.isolateUnit .brownout) fun c ch => ch.afterBrownout (s.crec c)
  unfold State.brownoutIsolation
  dsimp only
  generalize State.mapChans (s.isolateBlocks.isolateUnit .brownout) (fun c ch => ch.afterBrownout (s.crec c)) = cut at hmap ⊢
  refine ⟨hmap.pending.trans h.pending, hmap.est.trans h.est, hmap.mail.trans h.mail, ?_, hmap.sag.trans h.sag,
    hmap.idle.trans h.idle, hmap.aux.trans h.aux, ?_, hmap.link.trans h.link, hmap.plan.trans h.plan,
    hmap.store.trans h.store, hmap.sys.trans h.sys, hmap.overtaken.trans h.overtaken⟩
  · exact congrArg (fun x : LevelCtl => { x with current := 7, deep := 7, byReserve := false }) (hmap.level.trans h.level)
  · refine (congrArg (fun d : Disconnect => { d with vc := 0, i := 0, isolateLen := 0 }) hmap.disc).trans ?_
    exact congrArg (fun d : Disconnect => { d with
      device := .isolated, reason := .brownout, isolateCount := 0, chargeCount := 0, entryPending := false
      pulse := some (.openRelay, pulseMs), lastPulse := .openRelay, vc := 0, i := 0, isolateLen := 0 }) h.disc

theorem State.ResetTo.sagOk {i : Instr} (h : s.ResetTo i t) (hs : s.SagOk) : t.SagOk := by
  cases h with
  | powerOn straps service =>
    have hframe : (s.powerOnBlocks straps service).PlannerOnly (s.powerOn straps service) :=
      (plannerOnly_push _ _ _ _ _).trans (plannerOnly_pushAll _ _)
    exact State.sagOk_of_initial hframe.sag fun _ => by rw [hframe.mail]; rfl
  | brownout straps =>
    have hframe : (s.brownoutSystem straps).brownoutIsolation.PlannerOnly (s.brownout straps) :=
      ((plannerOnly_push _ _ _ _ _).trans (plannerOnly_pushAll _ _)).trans (plannerOnly_push _ _ _ _ _)
    have hblocks := plannerOnly_brownoutIsolation (s.brownoutSystem straps)
    exact State.sagOk_of_initial (hframe.sag.trans hblocks.sag) fun _ => by rw [hframe.mail, hblocks.mail]; rfl
  | restart =>
    have hframe := plannerOnly_restart s
    refine State.sagOk_of_initial hframe.sag fun hd => ?_
    rw [hframe.disc] at hd
    rw [hframe.mail]
    exact ((State.sagOk_iff.1 hs).2 hd).2

theorem State.tick_sagOk (hs : s.SagOk) : s.tick.SagOk := by
  rw [State.sagOk_iff] at hs ⊢
  obtain ⟨⟨hhigh, htol, hrec, hclear, hpending⟩, hiso⟩ := hs
  refine ⟨⟨hhigh, ?_, ?_, hclear, hpending⟩, fun hd => ?_⟩
  · simpa [State.tick, Timer.tick] using htol
  · simpa [State.tick, Timer.tick] using hrec
  · obtain ⟨hsag, hmail⟩ := hiso hd
    refine ⟨?_, hmail⟩
    simp [State.tick, hsag, SagMon.initial, Timer.tick]

theorem State.Owned.sagOk {ty : ReqType} (h : s.Owned ty t) (hs : s.SagOk) : t.SagOk := by
  rcases h.blocks with ⟨hsag, hmail, hdisc, -⟩ | ⟨-, rfl⟩ | ⟨-, rfl⟩ | ⟨-, rfl⟩
  · exact hs.of_kept hsag (congrArg _ hdisc) (congrArg _ hmail)
  · exact hs.reconnect _
  · exact isolate_sagOk _
  · exact hs.of_kept rfl rfl rfl

/-- Settles O10. -/
theorem sagMonitorStaysCoherent : Obligations.SagMonitorStaysCoherent := by
  intro s t hs h
  refine step_preserves (P := State.SagOk) (fun _ _ h => h) (fun _ h => State.tick_sagOk h) ?_ hs h
  intro i s t hs h
  exact exec_preserves (P := State.SagOk) (fun _ _ _ h => h) (fun ty body s hs _ _ => (ty.owned body s).sagOk hs)
    (fun _ _ _ hs h => h.sagOk hs) (fun _ _ _ hs h => h.block.sagOk hs) hs h

end

end Sys2Proof.Machine
end

section
/-!
PROOF. The level dwell (R33, R37), the idle timers (R144 to R153) and the receiver of the Panel Link (R166, R168, R170)
stay coherent.
-/

namespace Sys2Proof.Machine

section
variable {s t : State}

/-! ### The level dwell -/

theorem changeLevel_dwell (new : Level) (cause : Cause) :
    (s.changeLevel new cause).level.pending = .none ∧ (s.changeLevel new cause).level.count = 0 := by
  rw [State.changeLevel_level]
  exact ⟨rfl, rfl⟩

/-- R36: a direct setting leaves no dwell, or the dwell as it was. -/
theorem setLevelDirect_dwell (new : Level) (cause : Cause) :
    ((s.setLevelDirect new cause).level.pending = .none ∧ (s.setLevelDirect new cause).level.count = 0)
      ∨ (s.setLevelDirect new cause).level = s.level := by
  unfold State.setLevelDirect
  split
  · exact .inr rfl
  · exact .inl (changeLevel_dwell new cause)

theorem deepening_dwell (count : Nat) (deep : Level) (byReserve : Bool)
    (h : (s.deepening count deep byReserve).level.pending = .none) : (s.deepening count deep byReserve).level.count = 0 := by
  unfold State.deepening at h ⊢
  split
  · exact (changeLevel_dwell _ _).2
  · rw [if_neg ‹_›] at h
    cases h

theorem easing_dwell (count : Nat) (h : (s.easing count).level.pending = .none) : (s.easing count).level.count = 0 := by
  unfold State.easing at h ⊢
  split
  · exact (changeLevel_dwell _ _).2
  · rw [if_neg ‹_›] at h
    cases h

/-- R33: in RUN a dwell is pending, or there is none and no count. -/
theorem runDwell_dwell (u : ReserveUpdate) (h : (s.runDwell u).level.pending = .none) : (s.runDwell u).level.count = 0 := by
  unfold State.runDwell at h ⊢
  dsimp only at h ⊢
  split
  · rw [if_pos ‹_›] at h
    exact deepening_dwell _ _ _ h
  · rw [if_neg ‹_›] at h
    split
    · rw [if_pos ‹_›] at h
      exact easing_dwell _ h
    · rfl

theorem levelTakes_dwell (u : ReserveUpdate) (hs : s.LevelOk) : (s.levelTakes u).LevelOk := by
  have hdisc := (plannerOnly_levelTakes s u).disc
  unfold State.LevelOk
  rw [hdisc]
  unfold State.levelTakes
  dsimp only
  split
  · split
    · exact hs
    · rcases setLevelDirect_dwell (s := { s.storeDeep u with level := { (s.storeDeep u).level with firstTaken := true } })
        (s.plan.levels.deepOf u) (deepeningCause (s.plan.levels.deepByReserve u)) with h | h
      · exact ⟨fun _ => h.2, fun _ => h.1⟩
      · rw [h]
        exact hs
  · split
    · rename_i hd
      exact ⟨runDwell_dwell u, fun h => absurd hd h⟩
    · exact hs

theorem State.LevelOk.of_kept (hs : s.LevelOk) (hlevel : t.level = s.level) (hdevice : t.disc.device = s.disc.device) :
    t.LevelOk := by
  unfold State.LevelOk
  rw [hlevel, hdevice]
  exact hs

theorem State.levelOk_of_cancelled (hlevel : t.level = s.cancelDwell.level) : t.LevelOk := by
  unfold State.LevelOk
  rw [hlevel]
  exact ⟨fun _ => rfl, fun _ => rfl⟩

theorem State.levelOk_of_run (hs : s.level.pending = .none → s.level.count = 0) (hlevel : t.level = s.level)
    (hdevice : t.disc.device = .run) : t.LevelOk := by
  unfold State.LevelOk
  rw [hlevel]
  exact ⟨hs, fun h => absurd hdevice h⟩

theorem isolate_levelOk (r : IsoReason) : (s.isolate r).LevelOk := State.levelOk_of_cancelled (plannerOnly_isolate s r).level

theorem State.LevelOk.enterRun (hs : s.LevelOk) : s.enterRun.LevelOk :=
  State.levelOk_of_run hs.1 (plannerOnly_enterRun s).level (congrArg Disconnect.device (plannerOnly_enterRun s).disc)

theorem rejoined_level : s.rejoined.level = (s.closeRelay.setLevelDirect s.level.deep s.closeRelay.reconnectCause).level := rfl

theorem State.LevelOk.reconnect (hs : s.LevelOk) (k : Trigger) : (s.reconnect k).LevelOk := by
  have hframe := plannerOnly_reconnect s k
  refine State.levelOk_of_run (s := s.rejoined) ?_ hframe.level (congrArg Disconnect.device hframe.disc)
  rw [rejoined_level]
  rcases setLevelDirect_dwell (s := s.closeRelay) s.level.deep s.closeRelay.reconnectCause with h | h
  · exact fun _ => h.2
  · rw [h]
    exact hs.1

theorem State.Block.levelOk (h : s.Block t) (hs : s.LevelOk) : t.LevelOk := by
  cases h with
  | planner h => exact hs.of_kept h.level (congrArg _ h.disc)
  | battery vb cur =>
    rw [State.takeBatterySample_eq]
    exact hs
  | temperature x valid => exact hs
  | @level u rest => exact levelTakes_dwell (s := s.setLevelMail rest) u hs
  | @comparator vb rest =>
    have h := plannerOnly_comparatorTakes (s.setSagMail rest) vb
    exact hs.of_kept h.level (congrArg _ h.disc)
  | tolerance => exact hs.of_kept (plannerOnly_toleranceExpiry s).level (congrArg _ (plannerOnly_toleranceExpiry s).disc)
  | recovery _ h => exact hs.of_kept h.level (congrArg _ h.disc)
  | sample c m h => exact hs.of_kept h.level (congrArg _ h.disc)
  | idle n l hn h => exact hs.of_kept h.level (congrArg _ h.disc)
  | overtaken l h => exact hs.of_kept h.level (congrArg _ h.disc)
  | auxInput n a => exact hs
  | transition n a level =>
    have hset : (s.setAuxIn n a).LevelOk := hs
    rcases transition_cases (s := s.setAuxIn n a) n level with h | h | ⟨-, h⟩ | ⟨-, h⟩
    · rw [h]
      exact hset
    · rw [h, State.auxActivity, State.activity_eq]
      exact hset
    · rw [h]
      exact hset.reconnect _
    · rw [h]
      exact hset
  | disconnect u rest =>
    have hnote : ((s.setDisconnectMail rest).noteUpdate u).LevelOk := hs
    rcases disconnectTakes_cases (s := s.setDisconnectMail rest) u with ⟨d, hd, h⟩ | ⟨-, h⟩ | ⟨-, r, -, h⟩ | ⟨-, h⟩
    · rw [h]
      exact hs.of_kept rfl hd.device
    · rw [h]
      exact hnote.enterRun
    · rw [h]
      exact isolate_levelOk r
    · rw [h]
      exact hnote.reconnect _
  | pulseEnd => exact hs
  | pulseEndEntersRun =>
    have hend : s.endPulse.LevelOk := hs
    exact hend.enterRun
  | store x h => exact hs.of_kept h.level (congrArg _ h.disc)

theorem State.ResetTo.levelOk {i : Instr} (h : s.ResetTo i t) : t.LevelOk := by
  cases h with
  | powerOn straps service =>
    have hframe : (s.powerOnBlocks straps service).PlannerOnly (s.powerOn straps service) :=
      (plannerOnly_push _ _ _ _ _).trans (plannerOnly_pushAll _ _)
    unfold State.LevelOk
    rw [hframe.level]
    exact ⟨fun _ => rfl, fun _ => rfl⟩
  | brownout straps =>
    have hframe : (s.brownoutSystem straps).brownoutIsolation.PlannerOnly (s.brownout straps) :=
      ((plannerOnly_push _ _ _ _ _).trans (plannerOnly_pushAll _ _)).trans (plannerOnly_push _ _ _ _ _)
    unfold State.LevelOk
    rw [hframe.level, (plannerOnly_brownoutIsolation _).level]
    exact ⟨fun _ => rfl, fun _ => rfl⟩
  | restart => exact State.levelOk_of_cancelled (s := s) (plannerOnly_restart s).level

theorem State.Owned.levelOk {ty : ReqType} (h : s.Owned ty t) (hs : s.LevelOk) : t.LevelOk := by
  rcases h.blocks with ⟨-, -, hdisc, hlevel | hlevel⟩ | ⟨-, rfl⟩ | ⟨-, rfl⟩ | ⟨-, rfl⟩
  · exact hs.of_kept hlevel (congrArg _ hdisc)
  · exact State.levelOk_of_cancelled hlevel
  · exact hs.reconnect _
  · exact isolate_levelOk _
  · exact hs

/-- Settles O11. -/
theorem levelDwellStaysCoherent : Obligations.LevelDwellStaysCoherent := by
  intro s t hs h
  refine step_preserves (P := State.LevelOk) (fun _ _ h => h) (fun _ h => h) ?_ hs h
  intro i s t hs h
  exact exec_preserves (P := State.LevelOk) (fun _ _ _ h => h) (fun ty body s hs _ _ => (ty.owned body s).levelOk hs)
    (fun _ _ _ _ h => h.levelOk) (fun _ _ _ hs h => h.block.levelOk hs) hs h

/-! ### The idle timers -/

/-- R144, R148, R151: a timer by its record. -/
structure IdleTimer.Fits (x : IdleTimer) (r : TimerRec) : Prop where
  disabled : x.state = .disabled ↔ r.enabled = false
  stopped : x.state ≠ .running → x.count = 0
  count : x.count ≤ r.fullCount

theorem State.idleOk_iff : s.IdleOk ↔ ∀ n : TimerIx, s.idle[n].Fits s.plan.timers[n] :=
  ⟨fun h n => ⟨(h n).1, (h n).2.1, (h n).2.2⟩, fun h n => ⟨(h n).disabled, (h n).stopped, (h n).count⟩⟩

theorem TimerRec.fits_armed {r : TimerRec} (h : r.enabled = true) : r.armed.Fits r :=
  ⟨by simp [TimerRec.armed, h], fun k => absurd rfl k, Nat.le_refl _⟩

theorem TimerRec.fits_fresh (r : TimerRec) : r.fresh.Fits r := by
  unfold TimerRec.fresh
  split
  · exact TimerRec.fits_armed ‹_›
  · rename_i h
    exact ⟨by simpa using h, fun _ => rfl, Nat.zero_le _⟩

theorem IdleTimer.Fits.enabled {x : IdleTimer} {r : TimerRec} (h : x.Fits r) (k : x.state ≠ .disabled) : r.enabled = true := by
  rw [ne_eq, h.disabled, Bool.not_eq_false] at k
  exact k

theorem IdleTimer.Fits.activity {x : IdleTimer} {r : TimerRec} (h : x.Fits r) : (x.activity r).Fits r := by
  unfold IdleTimer.activity
  split
  · exact h
  · exact TimerRec.fits_armed (h.enabled (by simp [*]))
  · exact TimerRec.fits_armed (h.enabled (by simp [*]))

theorem IdleTimer.Fits.second {x : IdleTimer} {r : TimerRec} (h : x.Fits r) : x.second.Fits r := by
  unfold IdleTimer.second
  split
  · rename_i hrun
    exact ⟨h.disabled, fun k => absurd hrun k, (Nat.sub_le _ _).trans h.count⟩
  · exact h

theorem IdleTimer.Fits.expired {x : IdleTimer} {r : TimerRec} (h : x.Fits r) (k : x.state = .running) :
    IdleTimer.Fits ⟨.expired, 0⟩ r := by
  have henabled := h.enabled (by rw [k]; decide)
  exact ⟨by simp [henabled], fun _ => rfl, Nat.zero_le _⟩

theorem State.IdleOk.of_kept (hs : s.IdleOk) (hidle : t.idle = s.idle) (htimers : t.plan.timers = s.plan.timers) : t.IdleOk := by
  unfold State.IdleOk
  rw [hidle, htimers]
  exact hs

theorem idleOk_activity (hs : s.IdleOk) (q : TimerRec → Bool) : (s.activity q).IdleOk := by
  unfold State.activity
  split
  · rw [State.idleOk_iff] at hs ⊢
    intro n
    simp only [Fin.getElem_fin, Vector.getElem_ofFn]
    split
    · exact (hs n).activity
    · exact hs n
  · exact hs

theorem idleOk_currentActivity (hs : s.IdleOk) (c : Chan) (m : Nat) : (s.currentActivity c m).IdleOk := by
  unfold State.currentActivity
  split
  · exact idleOk_activity hs _
  · exact hs

theorem idleOk_armIdle (hs : s.IdleOk) : s.armIdle.IdleOk := by
  rw [State.idleOk_iff] at hs ⊢
  intro n
  simp only [State.armIdle, Fin.getElem_fin, Vector.getElem_ofFn]
  split
  · exact TimerRec.fits_armed ‹_›
  · exact hs n

theorem State.IdleOk.reconnect (hs : s.IdleOk) (k : Trigger) : (s.reconnect k).IdleOk := by
  have hframe := plannerOnly_reconnect s k
  exact (idleOk_armIdle hs).of_kept hframe.idle (congrArg Plan.timers hframe.plan)

theorem State.IdleOk.enterRun (hs : s.IdleOk) : s.enterRun.IdleOk :=
  hs.of_kept (plannerOnly_enterRun s).idle (congrArg Plan.timers (plannerOnly_enterRun s).plan)

theorem State.IdleOk.isolate (hs : s.IdleOk) (r : IsoReason) : (s.isolate r).IdleOk :=
  hs.of_kept (plannerOnly_isolate s r).idle (congrArg Plan.timers (plannerOnly_isolate s r).plan)

/-- One timer and its record replaced together. -/
theorem idleOk_set (hs : s.IdleOk) (n : TimerIx) {x : IdleTimer} {r : TimerRec} (h : x.Fits r)
    (hidle : t.idle = s.idle.set n x) (htimers : t.plan.timers = s.plan.timers.set n r) : t.IdleOk := by
  rw [State.idleOk_iff] at hs ⊢
  intro k
  rw [hidle, htimers]
  simp only [Fin.getElem_fin, Vector.getElem_set]
  split
  · exact h
  · exact hs k

theorem State.Block.idleOk (h : s.Block t) (hs : s.IdleOk) : t.IdleOk := by
  have kept : ∀ {r : State}, r.PlannerOnly t → r.IdleOk → t.IdleOk :=
    fun h hr => hr.of_kept h.idle (congrArg Plan.timers h.plan)
  cases h with
  | planner h => exact kept h hs
  | battery vb cur =>
    rw [State.takeBatterySample_eq]
    exact hs
  | temperature x valid => exact hs
  | @level u rest => exact kept (plannerOnly_levelTakes (s.setLevelMail rest) u) hs
  | @comparator vb rest => exact kept (plannerOnly_comparatorTakes (s.setSagMail rest) vb) hs
  | tolerance => exact kept (plannerOnly_toleranceExpiry s) hs
  | recovery _ h => exact kept h hs
  | sample c m h =>
    have hact := idleOk_currentActivity hs c m
    rw [State.currentActivity_eq] at hact
    exact kept h hact
  | idle n l hn h =>
    rw [State.idleDue_iff] at hn
    refine idleOk_set hs n ((State.idleOk_iff.1 hs n).expired hn.1) h.idle ?_
    have hplan := congrArg Plan.timers h.plan
    exact hplan.trans (Vector.set_getElem_self _).symm
  | overtaken l h => exact kept h hs
  | auxInput n a => exact hs
  | transition n a level =>
    have hset : (s.setAuxIn n a).IdleOk := hs
    rcases transition_cases (s := s.setAuxIn n a) n level with h | h | ⟨-, h⟩ | ⟨-, h⟩
    · rw [h]
      exact hset
    · rw [h]
      exact idleOk_activity hset _
    · rw [h]
      exact hset.reconnect _
    · rw [h]
      exact hset
  | disconnect u rest =>
    have hnote : ((s.setDisconnectMail rest).noteUpdate u).IdleOk := hs
    rcases disconnectTakes_cases (s := s.setDisconnectMail rest) u with ⟨d, hd, h⟩ | ⟨-, h⟩ | ⟨-, r, -, h⟩ | ⟨-, h⟩
    · rw [h]
      exact hs
    · rw [h]
      exact hnote.enterRun
    · rw [h]
      exact hnote.isolate r
    · rw [h]
      exact hnote.reconnect _
  | pulseEnd => exact hs
  | pulseEndEntersRun =>
    have hend : s.endPulse.IdleOk := hs
    exact hend.enterRun
  | store x h => exact kept h hs

/-- R151: a timer's record edited, and the timer armed or disabled by it. -/
theorem idleOk_setTimer (hs : s.IdleOk) (n : TimerIx) (r : TimerRec) :
    (((s.setTimerRec n r).setIdle n r.fresh).dropOvertaken n).bumpGeneration.IdleOk :=
  idleOk_set hs n r.fits_fresh rfl rfl

theorem State.Owned.idleOk {ty : ReqType} (h : s.Owned ty t) (hs : s.IdleOk) : t.IdleOk := by
  have taken : ∀ c noted, (s.switchTaken c noted).IdleOk := fun c noted => by
    have hnoted : (s.noteOvertaken c noted).IdleOk := by
      rw [State.noteOvertaken_eq]
      exact hs
    exact idleOk_activity hnoted _
  have kept : ∀ {r u : State}, r.PlannerOnly u → r.IdleOk → u.IdleOk :=
    fun h hr => hr.of_kept h.idle (congrArg Plan.timers h.plan)
  cases h with
  | switched c noted => exact taken c noted
  | requested c noted forced =>
    exact kept (((plannerOnly_setChan _ c _).trans (plannerOnly_insertEntry _ c _ _)).trans (plannerOnly_finish _ _ _))
      (taken c noted)
  | forced c noted forced =>
    refine kept (.trans ?_ (plannerOnly_finish _ _ _)) (taken c noted)
    split
    · exact plannerOnly_forceEntry _ c
    · exact .refl _
  | recalled c noted => exact kept (plannerOnly_setChan _ c _) (taken c noted)
  | switchedOff c noted => exact kept ((plannerOnly_switchOff _ c).trans (plannerOnly_finish _ _ _)) (taken c noted)
  | reconnected => exact hs.reconnect _
  | isolated => exact hs.isolate _
  | editedChannel c body raw u hraw hvalid hu =>
    have hfinish := plannerOnly_finish u.bumpGeneration s true
    have hu' := plannerOnly_channelEdited s hu
    have htimers := congrArg Plan.timers hu'.plan
    exact hs.of_kept (hfinish.idle.trans hu'.idle) ((congrArg Plan.timers hfinish.plan).trans htimers)
  | editedLevel l body x =>
    exact kept (plannerOnly_finish (s.setLevelTable x).cancelDwell.bumpGeneration s
      (s.levelEditTells (s.setLevelTable x).cancelDwell.bumpGeneration)) hs
  | editedTimer n body raw => exact idleOk_setTimer hs n raw.toRec
  | _ => exact hs

theorem idleOk_of_fresh {p : Plan} (hidle : t.idle = freshIdle p) (hplan : t.plan.timers = p.timers) : t.IdleOk := by
  rw [State.idleOk_iff]
  intro n
  rw [hidle, hplan]
  simp only [freshIdle, Fin.getElem_fin, Vector.getElem_ofFn]
  exact TimerRec.fits_fresh _

theorem State.ResetTo.idleOk {i : Instr} (h : s.ResetTo i t) : t.IdleOk := by
  cases h with
  | powerOn straps service =>
    have hframe : (s.powerOnBlocks straps service).PlannerOnly (s.powerOn straps service) :=
      (plannerOnly_push _ _ _ _ _).trans (plannerOnly_pushAll _ _)
    exact idleOk_of_fresh hframe.idle (congrArg Plan.timers hframe.plan)
  | brownout straps =>
    have hframe : (s.brownoutSystem straps).brownoutIsolation.PlannerOnly (s.brownout straps) :=
      ((plannerOnly_push _ _ _ _ _).trans (plannerOnly_pushAll _ _)).trans (plannerOnly_push _ _ _ _ _)
    have hblocks := plannerOnly_brownoutIsolation (s.brownoutSystem straps)
    exact idleOk_of_fresh (hframe.idle.trans hblocks.idle) (congrArg Plan.timers (hframe.plan.trans hblocks.plan))
  | restart => exact idleOk_of_fresh (plannerOnly_restart s).idle (congrArg Plan.timers (plannerOnly_restart s).plan)

theorem State.tick_idleOk (hs : s.IdleOk) : s.tick.IdleOk := by
  rw [State.idleOk_iff] at hs ⊢
  intro n
  show (s.tick.idle[n]).Fits s.plan.timers[n]
  unfold State.tick
  dsimp only
  split
  · simp only [Fin.getElem_fin, Vector.getElem_ofFn]
    exact (hs n).second
  · exact hs n

/-- Settles O12. -/
theorem idleTimersStayCoherent : Obligations.IdleTimersStayCoherent := by
  intro s t hs h
  refine step_preserves (P := State.IdleOk) (fun _ _ h => h) (fun _ h => State.tick_idleOk h) ?_ hs h
  intro i s t hs h
  exact exec_preserves (P := State.IdleOk) (fun _ _ _ h => h) (fun ty body s hs _ _ => (ty.owned body s).idleOk hs)
    (fun _ _ _ _ h => h.idleOk) (fun _ _ _ hs h => h.block.idleOk hs) hs h

/-! ### The receiver -/

/-- No owner's part touches the link. -/
theorem State.Owned.link {ty : ReqType} (h : s.Owned ty t) : t.link = s.link := by
  have taken : ∀ c noted, (s.switchTaken c noted).link = s.link := fun c noted => by rw [State.switchTaken_eq]
  cases h with
  | switched c noted => exact taken c noted
  | requested c noted forced =>
    rw [(plannerOnly_finish _ _ _).link]
    exact taken c noted
  | forced c noted forced =>
    rw [(plannerOnly_finish _ _ _).link]
    split
    · exact (plannerOnly_forceEntry _ c).link.trans (taken c noted)
    · exact taken c noted
  | recalled c noted => exact taken c noted
  | switchedOff c noted => exact ((plannerOnly_switchOff _ c).trans (plannerOnly_finish _ _ _)).link.trans (taken c noted)
  | reconnected => exact (plannerOnly_reconnect s _).link
  | isolated => exact (plannerOnly_isolate s _).link
  | editedChannel c body raw u hraw hvalid hu =>
    exact (plannerOnly_finish u.bumpGeneration s true).link.trans (plannerOnly_channelEdited s hu).link
  | editedLevel l body x =>
    exact (plannerOnly_finish (s.setLevelTable x).cancelDwell.bumpGeneration s
      (s.levelEditTells (s.setLevelTable x).cancelDwell.bumpGeneration)).link
  | _ => rfl

theorem handle_link (ty : Byte) (body : List Byte) : (s.handle ty body).state.link = s.link := by
  rcases s.handle_state ty body with h | ⟨k, -, -, -, h⟩
  · rw [h]
  · rw [h]
    exact (k.owned body s).link

/-- R168, R172: a taken request leaves the receiver in HOLD with its reply pending. -/
theorem takeRequest_link (src tag ty : Byte) (body : List Byte) :
    ∃ f, (s.takeRequest src tag ty body).link = ⟨.hold, [], Timer.ms gapMs, .pending f⟩ := by
  have hlink := handle_link (s := s.setRx .hold []) ty body
  unfold State.takeRequest
  dsimp only
  rw [hlink]
  exact ⟨_, rfl⟩

theorem takeRequest_linkOk (src tag ty : Byte) (body : List Byte) : (s.takeRequest src tag ty body).LinkOk := by
  obtain ⟨f, hlink⟩ := takeRequest_link (s := s) src tag ty body
  unfold State.LinkOk
  rw [hlink]
  simp

/-- R166: the receiver with its buffer empty, in a state that holds no reply. -/
theorem setRx_linkOk {rx : RxState} (hrx : rx ≠ .receiving) (h : rx = .hold ↔ s.link.reply ≠ .none) :
    (s.setRx rx []).LinkOk := by
  refine ⟨h, ?_, ?_, ?_, fun _ => rfl⟩ <;> simp [State.setRx, hrx]

theorem State.LinkOk.reply_none (hs : s.LinkOk) (h : s.link.rx ≠ .hold) : s.link.reply = .none := by
  by_contra k
  exact h (hs.1.2 k)

theorem State.LinkOk.skips (hs : s.LinkOk) (h : s.link.rx ≠ .hold) : (s.setRx .skip []).LinkOk :=
  setRx_linkOk nofun (by simp [hs.reply_none h])

/-- R166: a byte that starts nothing new restarts the gap timer. -/
theorem State.LinkOk.stays (hs : s.LinkOk) : (s.setRx s.link.rx s.link.buffer).LinkOk := by
  obtain ⟨hhold, hbuffer, hstart, hlen, -⟩ := hs
  exact ⟨hhold, hbuffer, hstart, hlen, fun _ => rfl⟩

theorem State.LinkOk.frameComplete (hs : s.LinkOk) (h : s.link.rx ≠ .hold) (buf : List Byte) : (s.frameComplete buf).LinkOk := by
  unfold State.frameComplete
  split
  · exact hs.skips h
  · split
    · exact takeRequest_linkOk _ _ _ _
    · exact hs.skips h

theorem getD_append_of_lt {l : List Byte} {n : Nat} (h : n < l.length) (b : Byte) : (l ++ [b]).getD n 0 = l.getD n 0 := by
  rw [List.getD_eq_getElem?_getD, List.getD_eq_getElem?_getD, List.getElem?_append_left h]

/-- R166: a byte appended in RECEIVING. -/
theorem State.LinkOk.appendByte (hs : s.LinkOk) (h : s.link.rx = .receiving) (b : Byte) : (s.appendByte b).LinkOk := by
  have hhold : s.link.rx ≠ .hold := by rw [h]; nofun
  have hne := hs.2.1.2 h
  obtain ⟨-, -, hstart, hlen, -⟩ := id hs
  have hpos : 0 < s.link.buffer.length := List.length_pos_iff.2 hne
  unfold State.appendByte
  dsimp only
  split
  · exact hs.skips hhold
  · rename_i hshort
    split
    · exact hs.frameComplete hhold _
    · rename_i hpart
      rw [not_le] at hpart
      refine ⟨?_, ?_, fun _ => ?_, fun hsix => ⟨?_, hpart⟩, fun _ => rfl⟩
      · simp [State.setRx, hs.reply_none hhold]
      · simp [State.setRx]
      · show (s.link.buffer ++ [b]).getD 0 0 = 0xC3
        rw [getD_append_of_lt hpos]
        exact hstart hne
      · change 6 ≤ (s.link.buffer ++ [b]).length at hsix
        show ((s.link.buffer ++ [b]).getD 5 0).toNat ≤ 56
        rw [List.length_append, List.length_singleton] at hsix
        by_cases hfive : s.link.buffer.length = 5
        · simp only [List.length_append, List.length_singleton, hfive, Nat.reduceAdd, decide_true, Bool.true_and,
            decide_eq_true_eq, not_lt] at hshort
          rw [List.getD_eq_getElem?_getD, ← hfive, List.getElem?_concat_length]
          exact hshort
        · rw [getD_append_of_lt (by omega)]
          exact (hlen (by omega)).1

theorem State.LinkOk.receiveByte (hs : s.LinkOk) (b : Byte) (err : Bool) : (s.receiveByte b err).LinkOk := by
  unfold State.receiveByte
  split
  · rename_i hrx
    have hhold : s.link.rx ≠ .hold := by rw [hrx]; nofun
    split
    · rename_i hb
      simp only [Bool.and_eq_true, decide_eq_true_eq] at hb
      refine ⟨?_, by simp [State.setRx], fun _ => hb.1, ?_, fun _ => rfl⟩
      · simp [State.setRx, hs.reply_none hhold]
      · simp [State.setRx]
    · exact hs.skips hhold
  · rename_i hrx
    split
    · exact hs.skips (by rw [hrx]; nofun)
    · exact hs.appendByte hrx b
  · rename_i hrx
    exact hs.skips (by rw [hrx]; nofun)
  · rename_i hrx
    have hstay := hs.stays
    rw [hrx] at hstay
    exact hstay

theorem State.LinkOk.arrive (hs : s.LinkOk) (p : Peer) (ty : Byte) (body : List Byte) : (s.arrive p ty body).LinkOk := by
  have hservice : (s.setService p.service).LinkOk := hs
  unfold State.arrive
  dsimp only
  split
  · exact hservice.stays
  · rename_i hheld
    have hhold : s.link.rx ≠ .hold := by
      simp only [State.linkHeld, Bool.or_eq_true, decide_eq_true_eq, not_or] at hheld
      exact hheld.1
    split
    · exact hservice.skips hhold
    · exact takeRequest_linkOk _ _ _ _

/-- R166: the line rests. -/
theorem State.LinkOk.gapExpires (hs : s.LinkOk) (h : exec .gapTimerExpiry s = .next t) : t.LinkOk := by
  rw [show exec .gapTimerExpiry s = execGapTimerExpiry s from rfl, execGapTimerExpiry, Host.Outcome.next.injEq] at h
  obtain ⟨hhold, hbuffer, hstart, hlen, -⟩ := id hs
  subst h
  split
  · split
    · rename_i hrx
      exact ⟨hhold, hbuffer, hstart, hlen, by simp [hrx]⟩
    · rename_i hrx
      exact ⟨hhold, hbuffer, hstart, hlen, by simp [hrx]⟩
    · rename_i hrx
      have hreply := hs.reply_none (by rw [hrx]; nofun)
      simp [State.LinkOk, hreply]
    · rename_i hrx
      have hreply := hs.reply_none (by rw [hrx]; nofun)
      simp [State.LinkOk, hreply]
  · exact hs

/-- R168: a frame that fails a test. -/
theorem State.LinkOk.rejects (hs : s.LinkOk) {frame : List Byte} (h : exec (.frameRejected frame) s = .next t) : t.LinkOk := by
  rw [show exec (.frameRejected frame) s = execFrameRejected frame s from rfl, execFrameRejected,
    Host.Outcome.next.injEq] at h
  subst h
  split
  · exact hs
  · split
    · exact hs
    · split
      · rename_i hrx
        have hstay := hs.stays
        rw [hrx] at hstay
        exact hstay
      · exact hs.skips ‹_›

/-- R170: the reply is being sent. -/
theorem State.LinkOk.replyStarts (hs : s.LinkOk) (h : exec .replyStart s = .next t) : t.LinkOk := by
  rw [show exec .replyStart s = execReplyStart s from rfl, execReplyStart, Host.Outcome.next.injEq] at h
  subst h
  split
  · exact hs
  · rename_i f hreply
    obtain ⟨hhold, hrest⟩ := hs
    refine ⟨?_, hrest⟩
    rw [hhold, hreply]
    simp
  · exact hs

/-- R170: the reply has been sent. -/
theorem State.LinkOk.replyCompletes (hs : s.LinkOk) (h : exec .replyComplete s = .next t) : t.LinkOk := by
  rw [show exec .replyComplete s = execReplyComplete s from rfl, execReplyComplete, Host.Outcome.next.injEq] at h
  subst h
  split
  · exact hs
  · exact hs
  · exact setRx_linkOk nofun (by simp)

theorem State.LinkOk.line {i : Instr} (hs : s.LinkOk) (hi : isLine i = true) (h : exec i s = .next t) : t.LinkOk := by
  cases i with
  | gapTimerExpiry => exact hs.gapExpires h
  | frameRejected frame => exact hs.rejects h
  | replyStart => exact hs.replyStarts h
  | replyComplete => exact hs.replyCompletes h
  | _ => cases hi

theorem State.ResetTo.linkOk {i : Instr} (h : s.ResetTo i t) : t.LinkOk := by
  have hlink : t.link = Link.afterReset := by
    cases h with
    | powerOn straps service => exact ((plannerOnly_push _ _ _ _ _).trans (plannerOnly_pushAll _ _)).link
    | brownout straps =>
      have hblocks := plannerOnly_brownoutIsolation (s.brownoutSystem straps)
      exact (((plannerOnly_push _ _ _ _ _).trans (plannerOnly_pushAll _ _)).trans (plannerOnly_push _ _ _ _ _)).link.trans
        hblocks.link
    | restart => exact (plannerOnly_restart s).link
  unfold State.LinkOk
  rw [hlink]
  simp [Link.afterReset, Timer.ms]

/-- Settles O9: the four events of the line, the request that arrives and the byte each by its receiver state; no other
event touches the link. -/
theorem linkStaysCoherent : Obligations.LinkStaysCoherent := by
  intro s t hs h
  refine step_preserves (P := State.LinkOk) (fun _ _ h => h) ?_ ?_ hs h
  · rintro s ⟨hhold, hbuffer, hstart, hlen, hgap⟩
    exact ⟨hhold, hbuffer, hstart, hlen, by simpa [State.tick, Timer.tick] using hgap⟩
  · intro i s t hs h
    rcases exec_cases h with ⟨p, ty, body, -, rfl⟩ | hd
    · exact hs.arrive p ty body
    · cases hd with
      | line l hi => exact hs.line hi h
      | byte b err service =>
        have hservice : (s.setService service).LinkOk := hs
        exact hservice.receiveByte b err
      | reset _ h => exact h.linkOk
      | event h =>
        unfold State.LinkOk
        rw [h.systemKept.link]
        exact hs

end

end Sys2Proof.Machine
end

section
/-!
PROOF. The items of one channel follow its state (R112 to R136): what each thing that happens to a channel makes of an
agreement between its items.
-/

namespace Sys2Proof.Machine

/-- The agreement of a channel's items, by names. -/
structure Channel.Fits (ch : Channel) : Prop where
  phase : ch.phase ≠ .none ↔ ch.state = .throttled
  unthrottle : ch.unthrottlePending = true → ch.phase = .rest ∧ ch.offTimer = none
  intent : ch.intent ≠ .none ↔ ch.state = .rundown
  offTimer : ch.offTimer.isSome = true → ch.phase = .rest
  onTimer : ch.onTimer.isSome = true ↔ ch.phase = .run
  rundownTimer : ch.rundownTimer.isSome = true ↔ ch.state = .rundown
  retryTimer : ch.retryTimer.isSome = true ↔ ch.state = .tripped
  checkTimer : ch.checkTimer.isSome = true ↔ ch.state = .checking
  goodRun : ch.goodRun.isSome = true → ch.state = .on
  inrush : ch.inrush.isOpen = true → ch.state = .starting ∨ ch.phase = .run
  starting : ch.state = .starting → ch.inrush.isOpen = true
  streak : ch.ocStreak < 5
  streakOpen : ch.closed = false → ch.ocStreak = 0
  done : ch.doneStreak < 2
  doneRundown : ch.state ≠ .rundown → ch.doneStreak = 0

theorem Channel.ok_iff_fits (ch : Channel) : ch.Ok ↔ ch.Fits :=
  ⟨fun ⟨h1, h2, h3, h4, h5, h6, h7, h8, h9, h10, h11, h12, h13, h14, h15⟩ =>
      ⟨h1, h2, h3, h4, h5, h6, h7, h8, h9, h10, h11, h12, h13, h14, h15⟩,
    fun ⟨h1, h2, h3, h4, h5, h6, h7, h8, h9, h10, h11, h12, h13, h14, h15⟩ =>
      ⟨h1, h2, h3, h4, h5, h6, h7, h8, h9, h10, h11, h12, h13, h14, h15⟩⟩

theorem Inrush.isOpen_opened (n : Nat) : (Inrush.opened n).isOpen = true := by
  unfold Inrush.opened
  split <;> rfl

section
variable {ch : Channel}

/-- R131: a channel that is cut from ON, STARTING, THROTTLED or WAITING. -/
theorem Channel.Fits.cut (h : ch.Fits) (hst : ch.state = .on ∨ ch.state = .starting ∨ ch.state = .throttled ∨ ch.state = .waiting)
    {st : ChState} (ht : st = .off ∨ st = .waiting) (r : Reason) : Channel.Fits { ch.cut with state := st, reason := r } := by
  obtain ⟨h1, h2, h3, h4, h5, h6, h7, h8, h9, h10, h11, h12, h13, h14, h15⟩ := h
  constructor <;> grind [Channel.cut, Channel.closed, Inrush.isOpen]

theorem Channel.Fits.enterRundown (h : ch.Fits) (hst : ch.state = .on) {i : Intent} (hi : i ≠ .none) (r : Reason) (n : Nat) :
    Channel.Fits { ch with state := .rundown, reason := r, intent := i, doneStreak := 0, goodRun := none
                           rundownTimer := Timer.s n } := by
  obtain ⟨h1, h2, h3, h4, h5, h6, h7, h8, h9, h10, h11, h12, h13, h14, h15⟩ := h
  constructor <;> grind [Channel.closed, Timer.s, Timer.ms]

/-- R124: a rundown that ends. -/
theorem Channel.Fits.endRundown (h : ch.Fits) (hst : ch.state = .rundown) {st : ChState} (ht : st = .off ∨ st = .waiting) :
    Channel.Fits { ch with intent := .none, doneStreak := 0, ocStreak := 0, rundownTimer := none, state := st } := by
  obtain ⟨h1, h2, h3, h4, h5, h6, h7, h8, h9, h10, h11, h12, h13, h14, h15⟩ := h
  constructor <;> grind [Channel.closed]

/-- R118: a trip that is tried again. -/
theorem Channel.Fits.tripped (h : ch.Fits) (hc : ch.closed = true) (r : Reason) (n k : Nat) :
    Channel.Fits { ch.cut with
      reason := r, intent := .none, doneStreak := 0, rundownTimer := none, retryCount := n, state := .tripped
      retryTimer := Timer.s k } := by
  obtain ⟨h1, h2, h3, h4, h5, h6, h7, h8, h9, h10, h11, h12, h13, h14, h15⟩ := h
  constructor <;> grind [Channel.closed, Channel.cut, Timer.s, Timer.ms, Inrush.isOpen]

/-- R120: a trip with the retries used up. -/
theorem Channel.Fits.lockedOut (h : ch.Fits) (hc : ch.closed = true) (r : Reason) (n : Nat) :
    Channel.Fits { ch.cut with
      reason := r, intent := .none, doneStreak := 0, rundownTimer := none, retryCount := n, state := .locked } := by
  obtain ⟨h1, h2, h3, h4, h5, h6, h7, h8, h9, h10, h11, h12, h13, h14, h15⟩ := h
  constructor <;> grind [Channel.closed, Channel.cut, Inrush.isOpen]

/-- R116: an admission. -/
theorem Channel.Fits.startFromWaiting (h : ch.Fits) (hst : ch.state = .waiting) (r : ChannelRec) (n : Nat) :
    Channel.Fits { ch.close r with state := .starting, startTime := n } := by
  obtain ⟨h1, h2, h3, h4, h5, h6, h7, h8, h9, h10, h11, h12, h13, h14, h15⟩ := h
  constructor <;> grind [Channel.closed, Channel.close, Inrush.isOpen_opened]

/-- R129: an unthrottled channel that takes the slot. -/
theorem Channel.Fits.startFromRest (h : ch.Fits) (hp : ch.phase = .rest) (r : ChannelRec) :
    Channel.Fits { ch.close r with state := .starting, phase := .none, unthrottlePending := false, offTimer := none } := by
  obtain ⟨h1, h2, h3, h4, h5, h6, h7, h8, h9, h10, h11, h12, h13, h14, h15⟩ := h
  constructor <;> grind [Channel.closed, Channel.close, Inrush.isOpen_opened]

/-- R128: a RUN phase that begins. -/
theorem Channel.Fits.startRun (h : ch.Fits) (hp : ch.phase = .rest) (hu : ch.unthrottlePending = false) (r : ChannelRec) (n : Nat) :
    Channel.Fits { ch.close r with phase := .run, offTimer := none, onTimer := Timer.s n } := by
  obtain ⟨h1, h2, h3, h4, h5, h6, h7, h8, h9, h10, h11, h12, h13, h14, h15⟩ := h
  constructor <;> grind [Channel.closed, Channel.close, Inrush.isOpen_opened, Timer.s, Timer.ms]

/-- R116: a STARTING channel whose window ends. -/
theorem Channel.Fits.windowEnds (h : ch.Fits) (hst : ch.state = .starting) :
    Channel.Fits (Channel.toOn { ch with inrush := .stopped }) := by
  obtain ⟨h1, h2, h3, h4, h5, h6, h7, h8, h9, h10, h11, h12, h13, h14, h15⟩ := h
  constructor <;> grind [Channel.closed, Channel.toOn, Timer.s, Timer.ms, Inrush.isOpen]

/-- R116: a window of a RUN phase that ends. -/
theorem Channel.Fits.windowStops (h : ch.Fits) (hst : ch.state ≠ .starting) :
    Channel.Fits { ch with inrush := .stopped } := by
  obtain ⟨h1, h2, h3, h4, h5, h6, h7, h8, h9, h10, h11, h12, h13, h14, h15⟩ := h
  constructor <;> grind [Channel.closed, Inrush.isOpen]

/-- R127: a throttle. -/
theorem Channel.Fits.throttle (h : ch.Fits) (hst : ch.state = .on) (n : Nat) :
    Channel.Fits { ch.cut with state := .throttled, phase := .rest, offTimer := Timer.s n } := by
  obtain ⟨h1, h2, h3, h4, h5, h6, h7, h8, h9, h10, h11, h12, h13, h14, h15⟩ := h
  constructor <;> grind [Channel.closed, Channel.cut, Timer.s, Timer.ms, Inrush.isOpen]

/-- R128: a RUN phase that ends. -/
theorem Channel.Fits.endRun (h : ch.Fits) (hp : ch.phase = .run) (n : Nat) :
    Channel.Fits { ch with phase := .rest, ocStreak := 0, inrush := .stopped, onTimer := none, offTimer := Timer.s n } := by
  obtain ⟨h1, h2, h3, h4, h5, h6, h7, h8, h9, h10, h11, h12, h13, h14, h15⟩ := h
  constructor <;> grind [Channel.closed, Timer.s, Timer.ms, Inrush.isOpen]

/-- R129: an unthrottle in RUN with the window closed. -/
theorem Channel.Fits.toOn (h : ch.Fits) (hp : ch.phase = .run) (hw : ch.inrush.isOpen = false) :
    Channel.Fits ch.toOn := by
  obtain ⟨h1, h2, h3, h4, h5, h6, h7, h8, h9, h10, h11, h12, h13, h14, h15⟩ := h
  constructor <;> grind [Channel.closed, Channel.toOn, Timer.s, Timer.ms]

/-- R130: an edit's unthrottle in RUN with the window running. -/
theorem Channel.Fits.editStarts (h : ch.Fits) (hp : ch.phase = .run) (hw : ch.inrush.isOpen = true) :
    Channel.Fits { ch with state := .starting, phase := .none, onTimer := none } := by
  obtain ⟨h1, h2, h3, h4, h5, h6, h7, h8, h9, h10, h11, h12, h13, h14, h15⟩ := h
  constructor <;> grind [Channel.closed]

/-- R130: an edit's unthrottle in REST. -/
theorem Channel.Fits.editPends (h : ch.Fits) (hp : ch.phase = .rest) :
    Channel.Fits { ch with unthrottlePending := true, offTimer := none } := by
  obtain ⟨h1, h2, h3, h4, h5, h6, h7, h8, h9, h10, h11, h12, h13, h14, h15⟩ := h
  constructor <;> grind [Channel.closed]

/-- R128: a REST phase whose off timer has ended. -/
theorem Channel.Fits.restEnds (h : ch.Fits) (hp : ch.phase = .rest) :
    Channel.Fits { ch with offTimer := none } := by
  obtain ⟨h1, h2, h3, h4, h5, h6, h7, h8, h9, h10, h11, h12, h13, h14, h15⟩ := h
  constructor <;> grind [Channel.closed]

/-- R121: the retry timer's end. -/
theorem Channel.Fits.retries (h : ch.Fits) (hst : ch.state = .tripped) :
    Channel.Fits { ch with state := .waiting, retryTimer := none } := by
  obtain ⟨h1, h2, h3, h4, h5, h6, h7, h8, h9, h10, h11, h12, h13, h14, h15⟩ := h
  constructor <;> grind [Channel.closed]

/-- R133: a TRIPPED channel turned off. -/
theorem Channel.Fits.untripped (h : ch.Fits) (hst : ch.state = .tripped) (r : Reason) :
    Channel.Fits { ch with state := .off, reason := r, retryTimer := none } := by
  obtain ⟨h1, h2, h3, h4, h5, h6, h7, h8, h9, h10, h11, h12, h13, h14, h15⟩ := h
  constructor <;> grind [Channel.closed]

/-- R132, R100: an OFF channel that waits. -/
theorem Channel.Fits.waits (h : ch.Fits) (hst : ch.state = .off) :
    Channel.Fits { ch with state := .waiting } := by
  obtain ⟨h1, h2, h3, h4, h5, h6, h7, h8, h9, h10, h11, h12, h13, h14, h15⟩ := h
  constructor <;> grind [Channel.closed]

/-- R59: a deactivated channel. -/
theorem Channel.Fits.deactivated (h : ch.Fits) (hst : ch.state = .off ∨ ch.state = .locked) :
    Channel.Fits ch.deactivated := by
  obtain ⟨h1, h2, h3, h4, h5, h6, h7, h8, h9, h10, h11, h12, h13, h14, h15⟩ := h
  constructor <;> grind [Channel.closed, Channel.deactivated]

/-- R134: a cleared lockout. -/
theorem Channel.Fits.clearsLockout (h : ch.Fits) (hst : ch.state = .locked) :
    Channel.Fits { ch with state := .off, retryCount := 0, reason := .panel } := by
  obtain ⟨h1, h2, h3, h4, h5, h6, h7, h8, h9, h10, h11, h12, h13, h14, h15⟩ := h
  constructor <;> grind [Channel.closed]

/-- R135: a check that begins. -/
theorem Channel.Fits.checks (h : ch.Fits) (hst : ch.state = .off) (n : Nat) :
    Channel.Fits { ch with state := .checking, checkTimer := Timer.ms n } := by
  obtain ⟨h1, h2, h3, h4, h5, h6, h7, h8, h9, h10, h11, h12, h13, h14, h15⟩ := h
  constructor <;> grind [Channel.closed, Timer.ms]

/-- R136: a check that ends. -/
theorem Channel.Fits.checked (h : ch.Fits) (hst : ch.state = .checking) (r : CheckResult) :
    Channel.Fits { ch with state := .off, checkTimer := none, lastCheck := r } := by
  obtain ⟨h1, h2, h3, h4, h5, h6, h7, h8, h9, h10, h11, h12, h13, h14, h15⟩ := h
  constructor <;> grind [Channel.closed]

/-- R121: the good-run timer's end. -/
theorem Channel.Fits.runsWell (h : ch.Fits) :
    Channel.Fits { ch with retryCount := 0, goodRun := none } := by
  obtain ⟨h1, h2, h3, h4, h5, h6, h7, h8, h9, h10, h11, h12, h13, h14, h15⟩ := h
  constructor <;> grind [Channel.closed]

/-- R132, R133: the intent of a rundown replaced. -/
theorem Channel.Fits.intends (h : ch.Fits) (hst : ch.state = .rundown) {i : Intent} (hi : i ≠ .none) (r : Reason) :
    Channel.Fits { ch with intent := i, reason := r } := by
  obtain ⟨h1, h2, h3, h4, h5, h6, h7, h8, h9, h10, h11, h12, h13, h14, h15⟩ := h
  constructor <;> grind [Channel.closed]

/-- R137, R139: a channel cut at once, whatever it was doing. -/
theorem Channel.Fits.stopped (h : ch.Fits) (r : Reason) :
    Channel.Fits (ch.stopped r) := by
  obtain ⟨h1, h2, h3, h4, h5, h6, h7, h8, h9, h10, h11, h12, h13, h14, h15⟩ := h
  constructor <;> grind [Channel.closed, Channel.stopped, Channel.cut, Inrush.isOpen]

/-- R117: a streak short of a trip, at a closed switch. -/
theorem Channel.Fits.streaks (h : ch.Fits) (hc : ch.closed = true) {n : Nat} (hn : n < 5) :
    Channel.Fits { ch with ocStreak := n } := by
  obtain ⟨h1, h2, h3, h4, h5, h6, h7, h8, h9, h10, h11, h12, h13, h14, h15⟩ := h
  constructor <;> grind [Channel.closed]

/-- R114: a recorded sample. -/
theorem Channel.Fits.records (h : ch.Fits) (n : Nat) :
    Channel.Fits { ch with m := n } := by
  obtain ⟨h1, h2, h3, h4, h5, h6, h7, h8, h9, h10, h11, h12, h13, h14, h15⟩ := h
  constructor <;> grind [Channel.closed]

/-- R124: the done streak of a rundown. -/
theorem Channel.Fits.doneStreaks (h : ch.Fits) (hst : ch.state = .rundown) {n : Nat} (hn : n < 2) :
    Channel.Fits { ch with doneStreak := n } := by
  obtain ⟨h1, h2, h3, h4, h5, h6, h7, h8, h9, h10, h11, h12, h13, h14, h15⟩ := h
  constructor <;> grind [Channel.closed]

theorem Timer.isSome_tick (x : Timer) : (Timer.tick x).isSome = x.isSome := Option.isSome_map

theorem Timer.tick_eq_none (x : Timer) : Timer.tick x = none ↔ x = none := Option.map_eq_none_iff

theorem Inrush.isOpen_tick (w : Inrush) : w.tick.isOpen = w.isOpen := by cases w <;> rfl

/-- A millisecond leaves every timer running or stopped as it was. -/
theorem Channel.Fits.tick (h : ch.Fits) : ch.tick.Fits := by
  obtain ⟨h1, h2, h3, h4, h5, h6, h7, h8, h9, h10, h11, h12, h13, h14, h15⟩ := h
  constructor <;> simp only [Channel.tick, Timer.isSome_tick, Timer.tick_eq_none, Inrush.isOpen_tick] <;> assumption

theorem Channel.initial_fits : Channel.initial.Fits := by
  constructor <;> simp [Channel.initial, Inrush.isOpen]

end

end Sys2Proof.Machine
end

section
/-!
PROOF. Channels, slot and list agree (`State.Agrees`): each thing that happens to one channel keeps the agreement. What R88
adds, that a free slot leaves nobody waiting, holds again only when the slot has been served, and is not a part of it.
-/

namespace Sys2Proof.Machine

/-! ### The list -/

/-- R95, R96, R99, R109: the list, the channels left aside. -/
structure Standby.Fits (l : Standby) (rank : Chan → Nat) (pending : Bool) : Prop where
  once : (l.entries.map (·.channel)).Nodup
  ordered : l.entries.Pairwise (fun a b => Entry.before rank a b = true)
  held : ∀ e ∈ l.entries, e.held = true → e.origin = .sag ∧ pending = true
  version : l.version < 256

/-- Channel `c` has an entry. -/
def Standby.Lists (l : Standby) (c : Chan) : Prop := c ∈ l.entries.map (·.channel)

theorem Standby.lists_iff (l : Standby) (c : Chan) : l.Lists c ↔ ∃ e ∈ l.entries, e.channel = c := List.mem_map

theorem nextVersion_lt (v : Nat) : nextVersion v < 256 := Nat.mod_lt _ (by omega)

section
variable {l : Standby} {rank : Chan → Nat} {pending : Bool}

/-- R97, R98: an entry of a channel that has none, placed at its position. -/
theorem Standby.Fits.place (h : l.Fits rank pending) {e : Entry} (hnew : ¬l.Lists e.channel)
    (hheld : e.held = true → e.origin = .sag ∧ pending = true) (v : Nat) :
    Standby.Fits ⟨placeEntry rank e l.entries, nextVersion v⟩ rank pending := by
  have hperm := placeEntry_perm rank e l.entries
  refine ⟨?_, ?_, ?_, nextVersion_lt v⟩
  · rw [(hperm.map (·.channel)).nodup_iff, List.map_cons, List.nodup_cons]
    exact ⟨hnew, h.once⟩
  · exact placeEntry_ordered rank e _ (fun x hx hc => hnew ((Standby.lists_iff _ _).2 ⟨x, hx, hc⟩)) h.ordered
  · intro x hx
    rcases List.mem_cons.1 (hperm.mem_iff.1 hx) with rfl | hx
    · exact hheld
    · exact h.held x hx

theorem Standby.lists_place (e : Entry) (v : Nat) (d : Chan) :
    Standby.Lists ⟨placeEntry rank e l.entries, v⟩ d ↔ d = e.channel ∨ l.Lists d := by
  unfold Standby.Lists
  rw [((placeEntry_perm rank e l.entries).map (·.channel)).mem_iff, List.map_cons, List.mem_cons]

/-- R104: the list without some of its entries. -/
theorem Standby.Fits.filter (h : l.Fits rank pending) (p : Entry → Bool) (v : Nat) :
    Standby.Fits ⟨l.entries.filter p, nextVersion v⟩ rank pending :=
  ⟨h.once.sublist (List.filter_sublist.map _), h.ordered.sublist List.filter_sublist,
    fun e he => h.held e (List.mem_of_mem_filter he), nextVersion_lt v⟩

theorem Standby.lists_filter_ne (c d : Chan) (v : Nat) :
    Standby.Lists ⟨l.entries.filter (fun e => e.channel ≠ c), v⟩ d ↔ d ≠ c ∧ l.Lists d := by
  simp only [Standby.lists_iff, List.mem_filter, decide_eq_true_eq]
  constructor
  · rintro ⟨e, ⟨he, hne⟩, rfl⟩
    exact ⟨hne, e, he, rfl⟩
  · rintro ⟨hne, e, he, rfl⟩
    exact ⟨e, ⟨he, hne⟩, rfl⟩

/-- R96: the order reads the ranks of the listed channels alone. -/
theorem Standby.Fits.of_rank {rank' : Chan → Nat} (h : l.Fits rank pending) (hrank : ∀ c, l.Lists c → rank' c = rank c) :
    l.Fits rank' pending := by
  refine ⟨h.once, h.ordered.imp_of_mem ?_, h.held, h.version⟩
  intro a b ha hb hab
  have hra : rank' a.channel = rank a.channel := hrank _ ((Standby.lists_iff _ _).2 ⟨a, ha, rfl⟩)
  have hrb : rank' b.channel = rank b.channel := hrank _ ((Standby.lists_iff _ _).2 ⟨b, hb, rfl⟩)
  rw [Entry.before_iff] at hab ⊢
  rw [hra, hrb]
  exact hab

/-- R99: release pending set. -/
theorem Standby.Fits.pend (h : l.Fits rank pending) : l.Fits rank true :=
  ⟨h.once, h.ordered, fun e he hheld => ⟨(h.held e he hheld).1, rfl⟩, h.version⟩

end

/-! ### One channel, the slot and the list -/

/-- R86, R87, R95: channel `c` with what the slot and the list have of it. -/
structure Channel.Placed (ch : Channel) (c : Chan) (x : Slot) (l : Standby) : Prop where
  fits : ch.Fits
  holder : x.holder = some c ↔ ch.inrush.isOpen = true
  waiting : c ∈ x.waiting ↔ ch.phase = .rest ∧ ch.offTimer = none
  entry : l.Lists c ↔ ch.state = .waiting

/-- Every channel agrees with the slot and the list, who waits for the slot does so once, and the list is in order. -/
structure Agreement (f : Chan → Channel) (x : Slot) (l : Standby) (rank : Chan → Nat) (pending : Bool) : Prop where
  placed : ∀ c, (f c).Placed c x l
  once : x.waiting.Nodup
  list : l.Fits rank pending

/-- R86, R87, R95 to R99: channels, slot and list agree. -/
def State.Agrees (s : State) : Prop := Agreement s.chan s.slot s.standby s.rank s.sag.releasePending

/-- The slot has of every channel but `c` what it had. -/
structure Slot.SameBut (x y : Slot) (c : Chan) : Prop where
  holder : ∀ d, d ≠ c → (y.holder = some d ↔ x.holder = some d)
  waiting : ∀ d, d ≠ c → (d ∈ y.waiting ↔ d ∈ x.waiting)
  once : x.waiting.Nodup → y.waiting.Nodup

/-- R86: channel `c` out of the slot. -/
def Slot.release (x : Slot) (c : Chan) : Slot := ⟨if x.holder = some c then none else x.holder, x.waiting⟩

/-- R89: channel `c` out of the waiting set. -/
def Slot.leave (x : Slot) (c : Chan) : Slot := ⟨x.holder, x.waiting.filter fun d => d ≠ c⟩

section
variable {x y : Slot} {c : Chan}

theorem Slot.SameBut.refl (x : Slot) (c : Chan) : x.SameBut x c := ⟨fun _ _ => .rfl, fun _ _ => .rfl, id⟩

theorem Slot.SameBut.trans {z : Slot} (h : x.SameBut y c) (k : y.SameBut z c) : x.SameBut z c :=
  ⟨fun d hd => (k.holder d hd).trans (h.holder d hd), fun d hd => (k.waiting d hd).trans (h.waiting d hd), k.once ∘ h.once⟩

theorem Slot.release_holder_ne (x : Slot) (c : Chan) : (x.release c).holder ≠ some c := by
  unfold Slot.release
  dsimp only
  split
  · nofun
  · assumption

theorem Slot.sameBut_release (x : Slot) (c : Chan) : x.SameBut (x.release c) c := by
  refine ⟨fun d hd => ?_, fun _ _ => .rfl, id⟩
  unfold Slot.release
  dsimp only
  split
  · rename_i h
    rw [h]
    simp [hd.symm]
  · exact .rfl

theorem Slot.not_mem_leave (x : Slot) (c : Chan) : c ∉ (x.leave c).waiting := by simp [Slot.leave]

theorem Slot.sameBut_leave (x : Slot) (c : Chan) : x.SameBut (x.leave c) c :=
  ⟨fun _ _ => .rfl, fun d hd => by simp [Slot.leave, hd], fun h => h.filter _⟩

/-- R116, R129: a free slot is taken by `c`. -/
theorem Slot.sameBut_take (hfree : x.holder = none) (c : Chan) : x.SameBut ⟨some c, x.waiting⟩ c :=
  ⟨fun d hd => by simp [hfree, hd.symm], fun _ _ => .rfl, id⟩

/-- R87: `c` joins the waiting set. -/
theorem Slot.sameBut_join (h : c ∉ x.waiting) : x.SameBut ⟨x.holder, x.waiting ++ [c]⟩ c :=
  ⟨fun _ _ => .rfl, fun d hd => by simp [hd], fun hx => List.nodup_append.2 ⟨hx, List.nodup_singleton c, by
    rintro d hd e he rfl
    rw [List.mem_singleton] at he
    exact h (he ▸ hd)⟩⟩

end

section
variable {f : Chan → Channel} {x y : Slot} {l m : Standby} {rank : Chan → Nat} {pending : Bool} {c : Chan} {ch : Channel}

/-- One channel with its part in the slot and in the list replaced. -/
theorem Agreement.update (h : Agreement f x l rank pending) (hp : ch.Placed c y m) (hslot : x.SameBut y c)
    (hlist : ∀ d, d ≠ c → (m.Lists d ↔ l.Lists d)) (hm : m.Fits rank pending) :
    Agreement (Function.update f c ch) y m rank pending := by
  refine ⟨fun d => ?_, hslot.once h.once, hm⟩
  by_cases hd : d = c
  · subst hd
    rw [Function.update_self]
    exact hp
  · rw [Function.update_of_ne hd]
    have hold := h.placed d
    exact ⟨hold.fits, (hslot.holder d hd).trans hold.holder, (hslot.waiting d hd).trans hold.waiting,
      (hlist d hd).trans hold.entry⟩

/-- One channel replaced, with the list as it was. -/
theorem Agreement.updateSlot (h : Agreement f x l rank pending) (hfits : ch.Fits)
    (hholder : y.holder = some c ↔ ch.inrush.isOpen = true) (hwaiting : c ∈ y.waiting ↔ ch.phase = .rest ∧ ch.offTimer = none)
    (hstate : ch.state = .waiting ↔ (f c).state = .waiting) (hslot : x.SameBut y c) :
    Agreement (Function.update f c ch) y l rank pending :=
  h.update ⟨hfits, hholder, hwaiting, (h.placed c).entry.trans hstate.symm⟩ hslot (fun _ _ => .rfl) h.list

/-- One channel replaced, with slot and list as they were. -/
theorem Agreement.updateChan (h : Agreement f x l rank pending) (hfits : ch.Fits)
    (hholder : ch.inrush.isOpen = (f c).inrush.isOpen)
    (hwaiting : (ch.phase = .rest ∧ ch.offTimer = none) ↔ ((f c).phase = .rest ∧ (f c).offTimer = none))
    (hstate : ch.state = .waiting ↔ (f c).state = .waiting) : Agreement (Function.update f c ch) x l rank pending :=
  h.updateSlot hfits (by rw [hholder]; exact (h.placed c).holder) ((h.placed c).waiting.trans hwaiting.symm) hstate
    (.refl x c)

end

/-! ### What the operations make of channels, slot and list -/

section
variable {s : State} {c : Chan}

theorem State.chan_update (s : State) (c : Chan) (ch : Channel) : (s.setChan c ch).chan = Function.update s.chan c ch := by
  funext d
  rw [State.chan_setChan, Function.update_apply]

theorem State.releaseSlot_slot (s : State) (c : Chan) : (s.releaseSlot c).slot = s.slot.release c := by
  rw [State.releaseSlot_eq]
  rfl

theorem State.releaseSlot_chan (s : State) (c : Chan) : (s.releaseSlot c).chan = s.chan := by
  rw [State.releaseSlot_eq]
  rfl

theorem State.releaseSlot_standby (s : State) (c : Chan) : (s.releaseSlot c).standby = s.standby := by
  rw [State.releaseSlot_eq]

theorem State.removeEntry_chan (s : State) (c : Chan) : (s.removeEntry c).chan = s.chan := by
  rw [State.removeEntry_eq]
  rfl

theorem State.removeEntry_slot (s : State) (c : Chan) : (s.removeEntry c).slot = s.slot := by
  rw [State.removeEntry_eq]

theorem State.removeEntry_of_lists (h : s.standby.Lists c) :
    (s.removeEntry c).standby = ⟨s.standby.entries.filter (fun e => e.channel ≠ c), nextVersion s.standby.version⟩ := by
  unfold State.removeEntry
  rw [if_pos]
  · rfl
  · rw [List.any_eq_true]
    obtain ⟨e, he, hc⟩ := (Standby.lists_iff _ _).1 h
    exact ⟨e, he, by simp [hc]⟩

/-- R131: what a cut makes of channel, slot and list. -/
theorem State.cutTo_chan (s : State) (c : Chan) (st : ChState) (r : Reason) :
    (s.cutTo c st r).chan = Function.update s.chan c { (s.chan c).cut with state := st, reason := r } := by
  rw [← State.chan_update]
  exact State.releaseSlot_chan _ c

theorem State.cutTo_slot (s : State) (c : Chan) (st : ChState) (r : Reason) :
    (s.cutTo c st r).slot = (s.slot.release c).leave c :=
  congrArg (fun x : Slot => x.leave c) (State.releaseSlot_slot (s.setChan c _) c)

theorem State.cutTo_standby (s : State) (c : Chan) (st : ChState) (r : Reason) : (s.cutTo c st r).standby = s.standby :=
  State.releaseSlot_standby (s.setChan c _) c

/-- What an operation of the Planner or the slot makes of the agreement is told by the channels, the slot and the list. -/
theorem State.agrees_of {t : State} (h : s.PlannerOnly t) {f : Chan → Channel} {x : Slot} {l : Standby} (hf : t.chan = f)
    (hx : t.slot = x) (hl : t.standby = l) (ha : Agreement f x l s.rank s.sag.releasePending) : t.Agrees := by
  have hrank : t.rank = s.rank := funext fun d => State.rank_congr h.plan d
  unfold State.Agrees
  rw [hf, hx, hl, hrank, h.sag]
  exact ha

/-- What leaves channels, slot and list leaves their agreement. -/
theorem State.Agrees.of_kept {t : State} (hs : s.Agrees) (h : s.PlannerOnly t) (hf : t.chan = s.chan) (hx : t.slot = s.slot)
    (hl : t.standby = s.standby) : t.Agrees :=
  State.agrees_of h hf hx hl hs

/-- The channel states in which the Planner, the panel or an idle timer cuts a channel. -/
def ChState.cuttable (st : ChState) : Prop := st = .on ∨ st = .starting ∨ st = .throttled ∨ st = .waiting

/-- A channel that is cut is out of the slot and its waiting set. -/
theorem Slot.cut_holder (x : Slot) (c : Chan) : ((x.release c).leave c).holder ≠ some c := x.release_holder_ne c

theorem Slot.sameBut_cut (x : Slot) (c : Chan) : x.SameBut ((x.release c).leave c) c :=
  (x.sameBut_release c).trans (Slot.sameBut_leave _ c)

/-- R131: a cut to OFF of a channel that has no entry. -/
theorem State.Agrees.cutOff (hs : s.Agrees) (hst : (s.chan c).state.cuttable) (hwait : (s.chan c).state ≠ .waiting) (r : Reason) :
    (s.cutTo c .off r).Agrees := by
  refine State.agrees_of (plannerOnly_cutTo s c _ _) (s.cutTo_chan c _ _) (s.cutTo_slot c _ _) (s.cutTo_standby c _ _) ?_
  refine Agreement.updateSlot hs ((hs.placed c).fits.cut hst (.inl rfl) r) ?_ ?_ ?_ (s.slot.sameBut_cut c)
  · simp [Slot.cut_holder, Channel.cut, Inrush.isOpen]
  · simp [Slot.not_mem_leave, Channel.cut]
  · simp [hwait]

/-- R131, R105: a cut to OFF of a WAITING channel, whose entry is removed. -/
theorem State.Agrees.cutOffWaiting (hs : s.Agrees) (hst : (s.chan c).state = .waiting) (r : Reason) :
    ((s.cutTo c .off r).removeEntry c).Agrees := by
  have hlists : (s.cutTo c .off r).standby.Lists c := by
    rw [State.cutTo_standby]
    exact (hs.placed c).entry.2 hst
  refine State.agrees_of ((plannerOnly_cutTo s c _ _).trans (plannerOnly_removeEntry _ c))
    ((State.removeEntry_chan _ c).trans (s.cutTo_chan c _ _)) ((State.removeEntry_slot _ c).trans (s.cutTo_slot c _ _))
    ((State.removeEntry_of_lists hlists).trans (by rw [State.cutTo_standby])) ?_
  refine Agreement.update hs ⟨(hs.placed c).fits.cut (.inr (.inr (.inr hst))) (.inl rfl) r, ?_, ?_, ?_⟩ (s.slot.sameBut_cut c)
    ?_ (hs.list.filter _ _)
  · simp [Slot.cut_holder, Channel.cut, Inrush.isOpen]
  · simp [Slot.not_mem_leave, Channel.cut]
  · exact (Standby.lists_filter_ne (l := s.standby) c c _).trans (by simp)
  · exact fun d hd => (Standby.lists_filter_ne (l := s.standby) c d _).trans (by simp [hd])

/-- R98, R99: a new entry is held only when it is of origin SAG and release pending is yes. -/
theorem held_of_insert {o : Origin} {b : Bool} (h : (decide (o = .sag) && b) = true) : o = .sag ∧ b = true := by
  simpa using h

/-- R98: a channel that enters WAITING with its entry, its slot given back. -/
theorem Agreement.insert {f : Chan → Channel} {x y : Slot} {l : Standby} {rank : Chan → Nat} {pending : Bool} {ch : Channel}
    (h : Agreement f x l rank pending) (hnew : (f c).state ≠ .waiting) (hfits : ch.Fits) (hst : ch.state = .waiting)
    (hholder : y.holder = some c ↔ ch.inrush.isOpen = true) (hwaiting : c ∈ y.waiting ↔ ch.phase = .rest ∧ ch.offTimer = none)
    (hslot : x.SameBut y c) (o : Origin) (forced : Bool) (n v : Nat) :
    Agreement (Function.update f c ch) y
      ⟨placeEntry rank ⟨c, o, forced, o = .sag && pending, n⟩ l.entries, nextVersion v⟩ rank pending := by
  have hnone : ¬l.Lists c := fun k => hnew ((h.placed c).entry.1 k)
  refine h.update ⟨hfits, hholder, hwaiting, ?_⟩ hslot ?_ (h.list.place hnone held_of_insert v)
  · simp [Standby.lists_place, hst]
  · intro d hd
    simp [Standby.lists_place, hd]

theorem State.Agrees.cutToWaiting (hs : s.Agrees)
    (hst : (s.chan c).state = .on ∨ (s.chan c).state = .starting ∨ (s.chan c).state = .throttled) (o : Origin) (r : Reason) :
    (s.cutToWaiting c o r).Agrees := by
  have hframe := plannerOnly_cutTo s c .waiting r
  have hnew : (s.chan c).state ≠ .waiting := by rcases hst with h | h | h <;> rw [h] <;> nofun
  have hcut : (s.chan c).state.cuttable := by rcases hst with h | h | h <;> simp [ChState.cuttable, h]
  have hrank : (s.cutTo c .waiting r).rank = s.rank := funext fun d => State.rank_congr hframe.plan d
  refine State.agrees_of (plannerOnly_cutToWaiting s c o r) (s.cutTo_chan c _ _) (s.cutTo_slot c _ _)
    (l := ⟨placeEntry s.rank ⟨c, o, false, o = .sag && s.sag.releasePending, s.sys.uptime⟩ s.standby.entries,
      nextVersion s.standby.version⟩) ?_ ?_
  · unfold State.cutToWaiting State.insertEntry State.setEntries
    dsimp only
    rw [hrank, hframe.sag, hframe.sys, State.cutTo_standby]
  · refine Agreement.insert hs hnew ((hs.placed c).fits.cut hcut (.inr rfl) r) rfl ?_ ?_ (s.slot.sameBut_cut c) _ _ _ _
    · simp [Slot.cut_holder, Channel.cut, Inrush.isOpen]
    · simp [Slot.not_mem_leave, Channel.cut]

/-- R123: the entry to RUNDOWN. -/
theorem State.Agrees.enterRundown (hs : s.Agrees) (hst : (s.chan c).state = .on) {i : Intent} (hi : i ≠ .none) (r : Reason) :
    (s.enterRundown c r i).Agrees := by
  refine State.agrees_of (plannerOnly_enterRundown s c r i) (s.chan_update c _) rfl rfl ?_
  exact Agreement.updateChan hs ((hs.placed c).fits.enterRundown hst hi r _) rfl .rfl (by simp [hst])

/-- R131: a Planner shed or a sag shed. -/
theorem State.Agrees.shedChannel (hs : s.Agrees)
    (hst : (s.chan c).state = .on ∨ (s.chan c).state = .starting ∨ (s.chan c).state = .throttled) (o : Origin) (r : Reason)
    {i : Intent} (hi : i ≠ .none) : (s.shedChannel c o r i).Agrees := by
  unfold State.shedChannel
  split
  · rename_i h
    simp only [Bool.and_eq_true, decide_eq_true_eq] at h
    exact hs.enterRundown h.1 hi r
  · exact hs.cutToWaiting hst o r

/-- R124: the end of a rundown. -/
theorem State.Agrees.endRundown (hs : s.Agrees) (hst : (s.chan c).state = .rundown) : (s.endRundown c).Agrees := by
  have hplaced := hs.placed c
  unfold State.endRundown
  dsimp only
  split
  · refine State.agrees_of (plannerOnly_setChan s c _) (s.chan_update c _) rfl rfl ?_
    exact Agreement.updateChan hs (hplaced.fits.endRundown hst (.inl rfl)) rfl .rfl (by simp [hst])
  · rename_i o _
    refine State.agrees_of ((plannerOnly_setChan s c _).trans (plannerOnly_insertEntry _ c o false)) (s.chan_update c _) rfl
      rfl ?_
    exact Agreement.insert hs (by simp [hst]) (hplaced.fits.endRundown hst (.inr rfl)) rfl hplaced.holder hplaced.waiting
      (.refl _ c) o false _ _

/-- A channel whose switch is closed does not wait for the slot, and has no entry. -/
theorem Channel.Fits.not_rest_of_closed {ch : Channel} (h : ch.Fits) (hc : ch.closed = true) : ch.phase ≠ .rest := by
  have hphase := h.phase
  unfold Channel.closed at hc
  intro hrest
  have hst : ch.state = .throttled := hphase.1 (by rw [hrest]; nofun)
  rw [hst, hrest] at hc
  simp at hc

/-- R118, R120: a trip of a closed channel, in its two forms. -/
theorem State.Agrees.tripTo (hs : s.Agrees) (hc : (s.chan c).closed = true) {ch : Channel} (hfits : ch.Fits)
    (hw : ch.inrush.isOpen = false) (hp : ch.phase = .none) (hst : ch.state ≠ .waiting) :
    ((s.setChan c ch).releaseSlot c).Agrees := by
  have hplaced := hs.placed c
  have hrest := hplaced.fits.not_rest_of_closed hc
  have hold : (s.chan c).state ≠ .waiting := by
    intro h
    unfold Channel.closed at hc
    rw [h] at hc
    cases hc
  refine State.agrees_of ((plannerOnly_setChan s c ch).trans (plannerOnly_releaseSlot _ c))
    ((State.releaseSlot_chan _ c).trans (s.chan_update c ch)) (State.releaseSlot_slot _ c) (State.releaseSlot_standby _ c) ?_
  refine Agreement.updateSlot hs hfits ?_ ?_ (by simp [hst, hold]) (s.slot.sameBut_release c)
  · simp [Slot.release_holder_ne, hw]
  · have hnot : c ∉ s.slot.waiting := fun k => hrest (hplaced.waiting.1 k).1
    simp [Slot.release, hnot, hp]

theorem State.Agrees.trip (hs : s.Agrees) (hc : (s.chan c).closed = true) (r : Reason) : (s.trip c r).Agrees := by
  have hfits := (hs.placed c).fits
  unfold State.trip
  dsimp only
  split
  · have h := hs.tripTo (c := c) hc (hfits.tripped hc r ((s.chan c).retryCount + 1) (s.crec c).retryDelay) rfl rfl nofun
    exact h
  · have h := hs.tripTo (c := c) hc (hfits.lockedOut hc r ((s.chan c).retryCount + 1)) rfl rfl nofun
    exact h

/-- R116, R84: an admission of a WAITING channel into a free slot. -/
theorem State.Agrees.startFromWaiting (hs : s.Agrees) (hst : (s.chan c).state = .waiting) (hfree : s.slot.holder = none) :
    (s.startFromWaiting c).Agrees := by
  have hplaced := hs.placed c
  have hrest : (s.chan c).phase ≠ .rest := by
    intro h
    have := hplaced.fits.phase.1 (by rw [h]; nofun)
    rw [hst] at this
    cases this
  have hlists : s.standby.Lists c := hplaced.entry.2 hst
  refine State.agrees_of (plannerOnly_startFromWaiting s c) ((State.removeEntry_chan _ c).trans (s.chan_update c _))
    (State.removeEntry_slot _ c) (State.removeEntry_of_lists hlists) ?_
  refine Agreement.update hs ⟨hplaced.fits.startFromWaiting hst _ _, ?_, ?_, ?_⟩ (Slot.sameBut_take hfree c) ?_
    (hs.list.filter _ _)
  · simp [Channel.close, Inrush.isOpen_opened]
  · have hnot : c ∉ s.slot.waiting := fun k => hrest (hplaced.waiting.1 k).1
    simp [hnot, Channel.close, hrest]
  · exact (Standby.lists_filter_ne (l := s.standby) c c _).trans (by simp)
  · exact fun d hd => (Standby.lists_filter_ne (l := s.standby) c d _).trans (by simp [hd])

/-- A channel in a phase is THROTTLED. -/
theorem Channel.Fits.throttled_of_rest {ch : Channel} (h : ch.Fits) (hp : ch.phase = .rest) : ch.state = .throttled :=
  h.phase.1 (by rw [hp]; nofun)

theorem Channel.Fits.throttled_of_run {ch : Channel} (h : ch.Fits) (hp : ch.phase = .run) : ch.state = .throttled :=
  h.phase.1 (by rw [hp]; nofun)

/-- A free slot taken by a throttled channel in REST. -/
theorem State.Agrees.takeFromRest (hs : s.Agrees) (hp : (s.chan c).phase = .rest) (hfree : s.slot.holder = none) {ch : Channel}
    (hfits : ch.Fits) (hopen : ch.inrush.isOpen = true) (hrest : ch.phase ≠ .rest) (hst : ch.state ≠ .waiting) :
    (((s.setChan c ch).setHolder (some c)).leaveWaiting c).Agrees := by
  refine State.agrees_of (((plannerOnly_setChan s c ch).trans (plannerOnly_setHolder _ _)).trans (plannerOnly_leaveWaiting _ c))
    (s.chan_update c ch) (x := Slot.leave ⟨some c, s.slot.waiting⟩ c) rfl rfl ?_
  have hthrottled := (hs.placed c).fits.throttled_of_rest hp
  refine Agreement.updateSlot hs hfits ?_ ?_ (by simp [hst, hthrottled])
    ((Slot.sameBut_take hfree c).trans (Slot.sameBut_leave _ c))
  · simp [Slot.leave, hopen]
  · simp [Slot.not_mem_leave, hrest]

theorem State.Agrees.startFromRest (hs : s.Agrees) (hp : (s.chan c).phase = .rest) (hfree : s.slot.holder = none) :
    (s.startFromRest c).Agrees := by
  have h := hs.takeFromRest hp hfree ((hs.placed c).fits.startFromRest hp (s.crec c)) (Inrush.isOpen_opened _) nofun nofun
  exact h

theorem State.Agrees.startRun (hs : s.Agrees) (hp : (s.chan c).phase = .rest) (hu : (s.chan c).unthrottlePending = false)
    (hfree : s.slot.holder = none) : (s.startRun c).Agrees := by
  have hthrottled := (hs.placed c).fits.throttled_of_rest hp
  have h := hs.takeFromRest hp hfree ((hs.placed c).fits.startRun hp hu (s.crec c) (s.crec c).onTime)
    (Inrush.isOpen_opened _) nofun (by rw [Channel.close, hthrottled]; nofun)
  exact h

/-- R87, R88: a grant of the free slot. -/
theorem State.Agrees.grantSlot (hs : s.Agrees) (hp : (s.chan c).phase = .rest) (hfree : s.slot.holder = none) :
    (s.grantSlot c).Agrees := by
  unfold State.grantSlot
  split
  · exact hs.startFromRest hp hfree
  · rename_i hu
    exact hs.startRun hp (Bool.not_eq_true _ ▸ hu) hfree

/-- R128: the end of a RUN phase. -/
theorem State.Agrees.endRun (hs : s.Agrees) (hp : (s.chan c).phase = .run) : (s.endRun c).Agrees := by
  have hplaced := hs.placed c
  refine State.agrees_of (plannerOnly_endRun s c) ((State.releaseSlot_chan _ c).trans (s.chan_update c _))
    (State.releaseSlot_slot _ c) (State.releaseSlot_standby _ c) ?_
  refine Agreement.updateSlot hs (hplaced.fits.endRun hp _) ?_ ?_ .rfl (s.slot.sameBut_release c)
  · simp [Slot.release_holder_ne, Inrush.isOpen]
  · have hnot : c ∉ s.slot.waiting := fun k => by
      have := (hplaced.waiting.1 k).1
      rw [hp] at this
      cases this
    simp [Slot.release, hnot, Timer.s, Timer.ms]

/-- R116: the end of an inrush window. -/
theorem State.Agrees.endWindow (hs : s.Agrees) (hopen : (s.chan c).inrush.isOpen = true) : (s.endWindow c).Agrees := by
  have hplaced := hs.placed c
  have hrest : (s.chan c).phase ≠ .rest := by
    intro h
    rcases hplaced.fits.inrush hopen with hst | hst
    · have := hplaced.fits.throttled_of_rest h
      rw [hst] at this
      cases this
    · rw [h] at hst
      cases hst
  have hnot : c ∉ s.slot.waiting := fun k => hrest (hplaced.waiting.1 k).1
  refine State.agrees_of (plannerOnly_endWindow s c) ((State.releaseSlot_chan _ c).trans (s.chan_update c _))
    (State.releaseSlot_slot _ c) (State.releaseSlot_standby _ c) ?_
  by_cases hst : (s.chan c).state = .starting
  · rw [if_pos hst]
    refine Agreement.updateSlot hs (hplaced.fits.windowEnds hst) ?_ ?_ (by simp [Channel.toOn, hst]) (s.slot.sameBut_release c)
    · simp [Slot.release_holder_ne, Channel.toOn, Inrush.isOpen]
    · simp [Slot.release, hnot, Channel.toOn]
  · rw [if_neg hst]
    refine Agreement.updateSlot hs (hplaced.fits.windowStops hst) ?_ ?_ .rfl (s.slot.sameBut_release c)
    · simp [Slot.release_holder_ne, Inrush.isOpen]
    · simp [Slot.release, hnot, hrest]

/-- R127: a throttle. -/
theorem State.Agrees.throttle (hs : s.Agrees) (hst : (s.chan c).state = .on) : (s.throttle c).Agrees := by
  have hplaced := hs.placed c
  have hclosed : (s.chan c).inrush.isOpen = false := by
    by_contra h
    rcases hplaced.fits.inrush (by simpa using h) with k | k
    · rw [hst] at k
      cases k
    · have := hplaced.fits.throttled_of_run k
      rw [hst] at this
      cases this
  refine State.agrees_of (plannerOnly_throttle s c) (s.chan_update c _) rfl rfl ?_
  refine Agreement.updateChan hs (hplaced.fits.throttle hst _) ?_ ?_ (by simp [hst])
  · rw [hclosed]
    rfl
  · have hphase : (s.chan c).phase ≠ .rest := fun h => by
      have := hplaced.fits.throttled_of_rest h
      rw [hst] at this
      cases this
    simp [Timer.s, Timer.ms, hphase]

/-- R129: the Planner's unthrottle, with the slot free. -/
theorem State.Agrees.unthrottle (hs : s.Agrees) (hst : (s.chan c).state = .throttled) (hfree : s.slot.holder = none) :
    (s.unthrottle c).Agrees := by
  have hplaced := hs.placed c
  unfold State.unthrottle
  split
  · rename_i hp
    have hclosed : (s.chan c).inrush.isOpen = false := by
      by_contra h
      have := hplaced.holder.2 (by simpa using h)
      rw [hfree] at this
      cases this
    refine State.agrees_of (plannerOnly_setChan s c _) (s.chan_update c _) rfl rfl ?_
    exact Agreement.updateChan hs (hplaced.fits.toOn hp hclosed) rfl (by simp [Channel.toOn, hp]) (by simp [Channel.toOn, hst])
  · rename_i hp
    refine hs.startFromRest ?_ hfree
    have hphase := hplaced.fits.phase.2 hst
    cases h : (s.chan c).phase
    · exact absurd h hphase
    · rfl
    · exact absurd h hp

end

end Sys2Proof.Machine
end

section
/-!
PROOF. The acts of the Planner and the Start Slot, the requests and the edits keep the agreement of channels, slot and list.
-/

namespace Sys2Proof.Machine

section
variable {s t : State} {c : Chan}

/-! ### The Planner -/

/-- R72: what a shed candidate is. -/
theorem State.isShedCandidate_iff : s.isShedCandidate c = true ↔
    ((s.chan c).state = .on ∨ (s.chan c).state = .starting ∨ (s.chan c).state = .throttled) ∧ s.rank c ≠ 0 := by
  simp only [State.isShedCandidate, Bool.and_eq_true, Bool.or_eq_true, decide_eq_true_eq, or_assoc]

/-- R78: what a sag candidate is. -/
theorem State.isSagCandidate_iff : s.isSagCandidate c = true ↔
    ((s.chan c).state = .on ∨ (s.chan c).state = .starting ∨ ((s.chan c).state = .throttled ∧ (s.chan c).phase = .run))
      ∧ s.rank c ≠ 0 := by
  simp only [State.isSagCandidate, Bool.and_eq_true, Bool.or_eq_true, decide_eq_true_eq, or_assoc]

theorem State.Agrees.shedStep (hs : s.Agrees) (h : s.isShedCandidate c = true) : (s.shedStep c).Agrees := by
  unfold State.shedStep
  split
  · rename_i hon
    simp only [Bool.and_eq_true, decide_eq_true_eq] at hon
    exact hs.throttle hon.1
  · exact hs.shedChannel (State.isShedCandidate_iff.1 h).1 .shed .shed nofun

theorem State.Act.agrees (hs : s.Agrees) (h : s.Act t) : t.Agrees := by
  cases h with
  | sheds c hd h => exact hs.shedStep h
  | reports => exact hs
  | timer x b => exact hs
  | unthrottles c hm h => exact hs.unthrottle h (State.mayAdmit_iff.1 hm).2.1
  | serves c hfree hsag h => exact hs.grantSlot ((hs.placed c).waiting.1 h).1 hfree

theorem State.lists_of_mem_unheld {e : Entry} (h : e ∈ s.unheld) : s.standby.Lists e.channel :=
  (Standby.lists_iff _ _).2 ⟨e, List.mem_of_mem_filter h, rfl⟩

/-- R84, R116: an admission. -/
theorem State.Agrees.admitEntry (hs : s.Agrees) {e : Entry} (hm : s.mayAdmit = true) (he : e ∈ s.unheld) (k : Nat) :
    (s.admitEntry e.channel k).Agrees := by
  have hst := (hs.placed e.channel).entry.1 (State.lists_of_mem_unheld he)
  exact hs.startFromWaiting hst (State.mayAdmit_iff.1 hm).2.1

/-- All that follows an event keeps the agreement. -/
theorem State.Works.agrees (h : s.Works t) (hs : s.Agrees) : t.Agrees :=
  h.keeps (P := State.Agrees) (fun _ _ hs h => h.agrees hs) (fun _ _ k hs hm he => hs.admitEntry hm he k) hs

/-- R78: a sag shed. -/
theorem State.Agrees.sagShedStep (hs : s.Agrees) (h : s.isSagCandidate c = true) : (s.sagShedStep c).Agrees := by
  refine hs.shedChannel ?_ .sag .sag (i := .waitSag) nofun
  rcases (State.isSagCandidate_iff.1 h).1 with h | h | h
  · exact .inl h
  · exact .inr (.inl h)
  · exact .inr (.inr h.1)

/-! ### The slot asked for -/

theorem State.setChan_setChan (s : State) (c : Chan) (a b : Channel) : (s.setChan c a).setChan c b = s.setChan c b := by
  simp only [State.setChan, Vector.set_set]

/-- R87: a throttled channel in REST, its off timer stopped, asks for the slot. -/
theorem State.Agrees.restAsks (hs : s.Agrees) (hp : (s.chan c).phase = .rest) {ch : Channel} (hfits : ch.Fits)
    (hrest : ch.phase = .rest) (htimer : ch.offTimer = none) : ((s.setChan c ch).askSlot c).Agrees := by
  have hplaced := hs.placed c
  have hst : ch.state = .waiting ↔ (s.chan c).state = .waiting := by
    rw [hfits.throttled_of_rest hrest, hplaced.fits.throttled_of_rest hp]
  have hopen : ch.inrush.isOpen = (s.chan c).inrush.isOpen := by
    have hclosed : ∀ x : Channel, x.Fits → x.phase = .rest → x.inrush.isOpen = false := fun x hx hxp => by
      by_contra k
      rcases hx.inrush (by simpa using k) with k | k
      · rw [hx.throttled_of_rest hxp] at k
        cases k
      · rw [hxp] at k
        cases k
    rw [hclosed ch hfits hrest, hclosed _ hplaced.fits hp]
  unfold State.askSlot
  split
  · rename_i h
    simp only [Bool.and_eq_true, decide_eq_true_eq] at h
    have hfree : s.slot.holder = none := h.1.1
    have hself : (s.setChan c ch).chan c = ch := State.chan_setChan_self s c ch
    unfold State.grantSlot State.startFromRest State.startRun
    rw [hself, State.setChan_setChan, State.setChan_setChan]
    split
    · exact hs.takeFromRest hp hfree (hfits.startFromRest hrest _) (Inrush.isOpen_opened _) nofun nofun
    · rename_i hu
      exact hs.takeFromRest hp hfree (hfits.startRun hrest (Bool.not_eq_true _ ▸ hu) _ _) (Inrush.isOpen_opened _) nofun
        (by rw [Channel.close, hfits.throttled_of_rest hrest]; nofun)
  · split
    · rename_i h
      have hmem : c ∈ s.slot.waiting := List.contains_iff_mem.1 h
      refine State.agrees_of (plannerOnly_setChan s c ch) (s.chan_update c ch) rfl rfl ?_
      exact Agreement.updateChan hs hfits hopen (by simp [hrest, htimer, hplaced.waiting.1 hmem]) hst
    · rename_i h
      have hnot : c ∉ s.slot.waiting := fun k => h (List.contains_iff_mem.2 k)
      refine State.agrees_of ((plannerOnly_setChan s c ch).trans (plannerOnly_slot _ ⟨s.slot.holder, s.slot.waiting ++ [c]⟩))
        (s.chan_update c ch) rfl rfl ?_
      refine Agreement.updateSlot hs hfits ?_ ?_ hst (Slot.sameBut_join hnot)
      · rw [hopen]
        exact hplaced.holder
      · simp [hrest, htimer]

/-- R130: an edit's unthrottle. -/
theorem State.Agrees.editUnthrottle (hs : s.Agrees) (hst : (s.chan c).state = .throttled) : (s.editUnthrottle c).Agrees := by
  have hplaced := hs.placed c
  unfold State.editUnthrottle
  dsimp only
  split
  · rename_i hp
    split
    · rename_i hopen
      refine State.agrees_of (plannerOnly_setChan s c _) (s.chan_update c _) rfl rfl ?_
      exact Agreement.updateChan hs (hplaced.fits.editStarts hp hopen) rfl (by simp [hp]) (by simp [hst])
    · rename_i hclosed
      refine State.agrees_of (plannerOnly_setChan s c _) (s.chan_update c _) rfl rfl ?_
      exact Agreement.updateChan hs (hplaced.fits.toOn hp (Bool.not_eq_true _ ▸ hclosed)) rfl
        (by simp [Channel.toOn, hp]) (by simp [Channel.toOn, hst])
  · rename_i hp
    have hrest : (s.chan c).phase = .rest := by
      have hphase := hplaced.fits.phase.2 hst
      cases h : (s.chan c).phase
      · exact absurd h hphase
      · rfl
      · exact absurd h hp
    exact hs.restAsks hrest (hplaced.fits.editPends hrest) hrest rfl

/-! ### Requests and idle timers -/

/-- A channel's own items replaced, with its switch, its phase and its place in the list as they were. -/
theorem State.Agrees.setChan (hs : s.Agrees) {ch : Channel} (hfits : ch.Fits) (hopen : ch.inrush.isOpen = (s.chan c).inrush.isOpen)
    (hphase : (ch.phase = .rest ∧ ch.offTimer = none) ↔ ((s.chan c).phase = .rest ∧ (s.chan c).offTimer = none))
    (hst : ch.state = .waiting ↔ (s.chan c).state = .waiting) : (s.setChan c ch).Agrees :=
  State.agrees_of (plannerOnly_setChan s c ch) (s.chan_update c ch) rfl rfl (Agreement.updateChan hs hfits hopen hphase hst)

/-- R98: a channel that enters WAITING from a state with the switch open, with a new entry. -/
theorem State.Agrees.insert (hs : s.Agrees) {ch : Channel} (hnew : (s.chan c).state ≠ .waiting) (hfits : ch.Fits)
    (hst : ch.state = .waiting) (hopen : ch.inrush.isOpen = (s.chan c).inrush.isOpen)
    (hphase : (ch.phase = .rest ∧ ch.offTimer = none) ↔ ((s.chan c).phase = .rest ∧ (s.chan c).offTimer = none)) (o : Origin)
    (forced : Bool) : ((s.setChan c ch).insertEntry c o forced).Agrees := by
  have hplaced := hs.placed c
  refine State.agrees_of ((plannerOnly_setChan s c ch).trans (plannerOnly_insertEntry _ c o forced)) (s.chan_update c ch) rfl
    rfl ?_
  exact Agreement.insert hs hnew hfits hst (by rw [hopen]; exact hplaced.holder) (hplaced.waiting.trans hphase.symm)
    (.refl _ c) o forced _ _

/-- R132: SWITCH ON of an OFF channel. -/
theorem State.Agrees.request (hs : s.Agrees) (hst : (s.chan c).state = .off) (forced : Bool) : (s.request c forced).Agrees :=
  hs.insert (by rw [hst]; nofun) ((hs.placed c).fits.waits hst) rfl rfl .rfl _ _

/-- R133: SWITCH OFF. -/
theorem State.Agrees.switchOff (hs : s.Agrees) (c : Chan) : (s.switchOff c).Agrees := by
  have hfits := (hs.placed c).fits
  unfold State.switchOff
  split
  · rename_i hst
    exact hs.cutOffWaiting hst .panel
  · rename_i hst
    exact hs.cutOff (.inr (.inl hst)) (by rw [hst]; nofun) .panel
  · rename_i hst
    split
    · exact hs.enterRundown (i := .off) hst nofun .panel
    · exact hs.cutOff (.inl hst) (by rw [hst]; nofun) .panel
  · rename_i hst
    exact hs.cutOff (.inr (.inr (.inl hst))) (by rw [hst]; nofun) .panel
  · rename_i hst
    exact hs.setChan (hfits.intends (i := .off) hst nofun .panel) rfl .rfl .rfl
  · rename_i hst
    exact hs.setChan (hfits.untripped hst .panel) rfl .rfl (by simp [hst])
  · exact hs
  · exact hs
  · exact hs

/-- R131: the off request of an idle timer. -/
theorem State.Agrees.idleOff (hs : s.Agrees) (c : Chan) : (s.idleOff c).Agrees := by
  unfold State.idleOff
  split
  · rename_i hst
    split
    · exact hs.enterRundown (i := .off) hst nofun .idle
    · exact hs.cutOff (.inl hst) (by rw [hst]; nofun) .idle
  · rename_i hst
    exact hs.cutOff (.inr (.inl hst)) (by rw [hst]; nofun) .idle
  · rename_i hst
    exact hs.cutOff (.inr (.inr (.inl hst))) (by rw [hst]; nofun) .idle
  · rename_i hst
    exact hs.cutOffWaiting hst .idle
  all_goals exact hs

theorem State.Agrees.idleOffAll (hs : s.Agrees) (cs : List Chan) : (s.idleOffAll cs).Agrees := by
  induction cs generalizing s with
  | nil => exact hs
  | cons c cs ih => exact ih (hs.idleOff c)

/-! ### Entries forced, moved and released -/

theorem State.entry?_mem {e : Entry} (h : s.entry? c = some e) : e ∈ s.standby.entries ∧ e.channel = c :=
  ⟨List.mem_of_find?_eq_some h, by simpa using List.find?_some h⟩

/-- R101, R102: an entry taken from the list and placed anew, by ranks that differ at its channel at most. -/
theorem Standby.Fits.replace {l : Standby} {rank rank' : Chan → Nat} {pending : Bool} (h : l.Fits rank pending) {e e' : Entry}
    (he : e ∈ l.entries) (hc : e'.channel = e.channel) (hheld : e'.held = e.held) (ho : e'.origin = e.origin)
    (hrank : ∀ d, d ≠ e.channel → rank' d = rank d) (v : Nat) :
    Standby.Fits ⟨placeEntry rank' e' (l.entries.filter fun x => x.channel ≠ e.channel), nextVersion v⟩ rank' pending := by
  have hrest := h.filter (fun x => decide (x.channel ≠ e.channel)) 0
  have hnone : ¬Standby.Lists ⟨l.entries.filter fun x => decide (x.channel ≠ e.channel), nextVersion 0⟩ e.channel := fun k =>
    ((Standby.lists_filter_ne e.channel e.channel _).1 k).1 rfl
  refine (hrest.of_rank (rank' := rank') fun d hd => ?_).place (by rw [hc]; exact hnone) ?_ v
  · exact hrank d ((Standby.lists_filter_ne e.channel d _).1 hd).1
  · rw [hheld, ho]
    exact h.held e he

theorem Standby.lists_replace {l : Standby} {rank : Chan → Nat} {e e' : Entry} (he : e ∈ l.entries) (hc : e'.channel = e.channel)
    (v : Nat) (d : Chan) :
    Standby.Lists ⟨placeEntry rank e' (l.entries.filter fun x => x.channel ≠ e.channel), v⟩ d ↔ l.Lists d := by
  have hplace := Standby.lists_place (rank := rank) (l := ⟨l.entries.filter fun x => decide (x.channel ≠ e.channel), v⟩) e' v d
  have hfilter := Standby.lists_filter_ne (l := l) e.channel d v
  have hlists : l.Lists e.channel := (Standby.lists_iff _ _).2 ⟨e, he, rfl⟩
  refine hplace.trans ?_
  rw [hfilter, hc]
  by_cases hd : d = e.channel
  · rw [hd]
    simp [hlists]
  · simp [hd]

/-- R101: an entry is forced. -/
theorem State.Agrees.forceEntry (hs : s.Agrees) (c : Chan) : (s.forceEntry c).Agrees := by
  unfold State.forceEntry
  split
  · exact hs
  · rename_i e he
    obtain ⟨hmem, rfl⟩ := State.entry?_mem he
    split
    · exact hs
    · refine State.agrees_of (plannerOnly_setEntries s _) rfl rfl rfl
        ⟨fun d => ?_, hs.once, hs.list.replace (e' := { e with forced := true }) hmem rfl rfl rfl (fun _ _ => rfl) _⟩
      have hold := hs.placed d
      exact ⟨hold.fits, hold.holder, hold.waiting,
        (Standby.lists_replace (e' := { e with forced := true }) hmem rfl _ d).trans hold.entry⟩

/-- R103: the held entries are released. -/
theorem State.Agrees.releaseHeld {pending : Bool} (hs : Agreement s.chan s.slot s.standby s.rank pending) :
    Agreement s.releaseHeld.chan s.releaseHeld.slot s.releaseHeld.standby s.releaseHeld.rank false := by
  unfold State.releaseHeld
  split
  · have hmap : (s.standby.entries.map fun e => { e with held := false }).map (·.channel) = s.standby.entries.map (·.channel) :=
      List.map_map
    refine ⟨fun d => ?_, hs.once, ⟨?_, ?_, ?_, nextVersion_lt _⟩⟩
    · have hold := hs.placed d
      refine ⟨hold.fits, hold.holder, hold.waiting, .trans ?_ hold.entry⟩
      unfold Standby.Lists
      rw [State.setEntries_standby, hmap]
    · rw [State.setEntries_standby, hmap]
      exact hs.list.once
    · exact List.pairwise_map.2 (hs.list.ordered.imp fun h => by rw [Entry.before_iff] at h ⊢; exact h)
    · intro e he hheld
      obtain ⟨x, -, rfl⟩ := List.mem_map.1 he
      cases hheld
  · rename_i h
    refine ⟨hs.placed, hs.once, hs.list.once, hs.list.ordered, fun e he hheld => ?_, hs.list.version⟩
    exact absurd (List.any_eq_true.2 ⟨e, he, hheld⟩) h

/-! ### The Load Table edited -/

theorem State.rank_setCrec (s : State) (c d : Chan) (r : ChannelRec) :
    (s.setCrec c r).rank d = if d = c then r.rank else s.rank d := by
  unfold State.rank State.crec State.setCrec
  simp only [Fin.getElem_fin, Vector.getElem_set, Fin.val_inj, eq_comm (a := c)]
  split <;> rfl

/-- R51, R96: a record replaced whose rank orders no entry, or is the rank that stands. -/
theorem State.Agrees.setCrec (hs : s.Agrees) {r : ChannelRec} (h : (s.chan c).state = .waiting → r.rank = s.rank c) :
    (s.setCrec c r).Agrees := by
  refine ⟨hs.placed, hs.once, hs.list.of_rank fun d hd => ?_⟩
  rw [State.rank_setCrec]
  split
  · rename_i hdc
    subst hdc
    exact h ((hs.placed d).entry.1 hd)
  · rfl

/-- R102: the entry of a WAITING channel moves to the position of its new rank. -/
theorem State.Agrees.reposition (hs : s.Agrees) (r : ChannelRec) (hst : (s.chan c).state = .waiting) :
    ((s.setCrec c r).repositionEntry c).Agrees := by
  have hlists := (hs.placed c).entry.2 hst
  unfold State.repositionEntry
  split
  · rename_i hnone
    obtain ⟨e, he, hc⟩ := (Standby.lists_iff _ _).1 hlists
    have := List.find?_eq_none.1 hnone e he
    simp [hc] at this
  · rename_i e he
    obtain ⟨hmem, hc⟩ := State.entry?_mem he
    change e ∈ s.standby.entries at hmem
    subst hc
    refine ⟨fun d => ?_, hs.once, hs.list.replace hmem rfl rfl rfl (fun d hd => ?_) _⟩
    · have hold := hs.placed d
      exact ⟨hold.fits, hold.holder, hold.waiting, (Standby.lists_replace hmem rfl _ d).trans hold.entry⟩
    · rw [State.rank_setCrec, if_neg hd]

/-- R58 to R65: an accepted SET_CHANNEL. -/
theorem State.ChannelEdited.agrees (hs : s.Agrees) {r : ChannelRec} (h : s.ChannelEdited c r t) : t.Agrees := by
  cases h with
  | deactivated hd hst =>
    have hne : (s.chan c).state ≠ .waiting := by rcases hst with h | h <;> rw [h] <;> nofun
    have hset : (s.setCrec c r).Agrees := hs.setCrec fun k => absurd k hne
    exact hset.setChan ((hs.placed c).fits.deactivated hst) rfl .rfl (by
      show ChState.off = .waiting ↔ (s.chan c).state = .waiting
      simp [hne])
  | carried hd =>
    unfold State.carryEdit
    have hchan : (s.setCrec c r).chan c = s.chan c := rfl
    have hrank : (s.crec c).rank = s.rank c := rfl
    rw [hchan, hrank]
    split
    · rename_i h
      simp only [Bool.and_eq_true, decide_eq_true_eq] at h
      exact hs.reposition r h.1
    · rename_i h
      simp only [Bool.and_eq_true, decide_eq_true_eq, not_and, ne_eq, not_not] at h
      have hset : (s.setCrec c r).Agrees := hs.setCrec fun k => (h k).symm
      split
      · rename_i hst
        simp only [Bool.and_eq_true, decide_eq_true_eq] at hst
        exact hset.editUnthrottle hst.1
      · exact hset

end

end Sys2Proof.Machine
end

section
/-!
PROOF. The Start Slot is served in the end (R88): after all that follows an event a free slot leaves nobody waiting but in a
sag. Outside RUN, where nobody waits, nothing follows an event.
-/

namespace Sys2Proof.Machine

/-- R88: a free slot leaves nobody waiting but in a sag. -/
def State.Served (s : State) : Prop := s.slot.holder = none → s.sag.state.servesSlot = true → s.slot.waiting = []

section
variable {s t : State}

theorem State.Served.of_kept (hs : s.Served) (hslot : t.slot = s.slot) (hsag : t.sag.state = s.sag.state) : t.Served := by
  unfold State.Served
  rw [hslot, hsag]
  exact hs

theorem State.served_of_sag (h : t.sag.state.servesSlot = false) : t.Served := fun _ k => by rw [h] at k; cases k

theorem State.served_of_empty (h : t.slot.waiting = []) : t.Served := fun _ _ => h

/-! ### Who waits leaves, and nobody joins -/

theorem Slot.leave_sublist (x : Slot) (c : Chan) : (x.leave c).waiting.Sublist x.waiting := List.filter_sublist

theorem cutTo_waiting_sublist (c : Chan) (st : ChState) (r : Reason) :
    (s.cutTo c st r).slot.waiting.Sublist s.slot.waiting := by
  rw [State.cutTo_slot]
  exact Slot.leave_sublist _ c

theorem shedStep_waiting_sublist (c : Chan) : (s.shedStep c).slot.waiting.Sublist s.slot.waiting := by
  unfold State.shedStep State.shedChannel
  split
  · exact .refl _
  · dsimp only [State.startQuiet_slot, State.push_slot]
    split
    · exact .refl _
    · exact cutTo_waiting_sublist c _ _

theorem grantSlot_slot (c : Chan) : (s.grantSlot c).slot = Slot.leave ⟨some c, s.slot.waiting⟩ c := by
  unfold State.grantSlot
  split <;> rfl

theorem grantSlot_waiting_sublist (c : Chan) : (s.grantSlot c).slot.waiting.Sublist s.slot.waiting := by
  rw [grantSlot_slot]
  exact Slot.leave_sublist _ c

theorem unthrottle_waiting_sublist (c : Chan) : (s.unthrottle c).slot.waiting.Sublist s.slot.waiting := by
  unfold State.unthrottle
  split
  · exact .refl _
  · exact Slot.leave_sublist ⟨some c, s.slot.waiting⟩ c

theorem State.Act.waiting_sublist (h : s.Act t) : t.slot.waiting.Sublist s.slot.waiting := by
  cases h with
  | sheds c => exact shedStep_waiting_sublist c
  | reports => exact .refl _
  | timer x b => exact .refl _
  | unthrottles c => exact unthrottle_waiting_sublist c
  | serves c => exact grantSlot_waiting_sublist c

theorem State.Works.waiting_sublist (h : s.Works t) : t.slot.waiting.Sublist s.slot.waiting :=
  h.keeps (P := fun t => t.slot.waiting.Sublist s.slot.waiting) (fun _ _ ht h => h.waiting_sublist.trans ht)
    (fun _ _ _ ht _ _ => by
      rw [show (State.admitEntry _ _ _).slot.waiting = _ from congrArg Slot.waiting (State.removeEntry_slot _ _)]
      exact ht)
    (.refl _)

/-! ### The rounds of the slot's service -/

theorem exists_nextServed (h : s.slot.waiting ≠ []) : ∃ c, s.nextServed = some c := by
  unfold State.nextServed
  cases hw : s.slot.waiting with
  | nil => exact absurd hw h
  | cons c cs =>
    unfold pickFirst
    split
    · exact ⟨_, rfl⟩
    · split <;> exact ⟨_, rfl⟩

theorem serveSlot_of_served {c : Chan} (hfree : s.slot.holder = none) (hsag : s.sag.state.servesSlot = true)
    (hc : s.nextServed = some c) : s.serveSlot = s.grantSlot c := by
  unfold State.serveSlot
  rw [if_pos (by simp [hfree, hsag]), hc]

theorem serveSlot_of_quiet (h : s.SlotQuiet) : s.serveSlot = s := by
  unfold State.serveSlot
  split
  · rename_i hfree
    simp only [Bool.and_eq_true, decide_eq_true_eq] at hfree
    have hempty : s.slot.waiting = [] := by
      rcases h with h | h | h
      · exact absurd hfree.1 h
      · exact h
      · rw [h] at hfree
        exact absurd hfree.2 nofun
    rw [State.nextServed, hempty]
    rfl
  · rfl

/-- R88: after the service of its waiting set the slot is served. -/
theorem served_serveSlot : s.serveSlot.Served := by
  by_cases h : s.SlotQuiet
  · rw [serveSlot_of_quiet h]
    intro hfree hsag
    rcases h with h | h | h
    · exact absurd hfree h
    · exact h
    · rw [h] at hsag
      cases hsag
  · simp only [not_or, not_not, Bool.not_eq_false] at h
    obtain ⟨hfree, hwait, hsag⟩ := h
    obtain ⟨c, hc⟩ := exists_nextServed hwait
    rw [serveSlot_of_served hfree hsag hc]
    intro hheld
    rw [grantSlot_slot] at hheld
    cases hheld

/-- R77, R89: a re-evaluation after which the slot does not act leaves it served. -/
theorem State.Served.of_works (hs : s.Served) (h : s.Works t) (hacts : slotActs s t = false) : t.Served := by
  intro hfree hsag
  rw [h.plannerOnly.sag] at hsag
  have hnot := (not_congr (slotActs_iff s t)).1 (by rw [hacts]; nofun)
  simp only [not_and, not_or, not_not] at hnot
  have hempty := hs (hnot hfree).1 hsag
  have hsub := h.waiting_sublist
  rw [hempty] at hsub
  exact List.sublist_nil.1 hsub

/-- A grant takes one of those who wait out of the waiting set. -/
theorem grantSlot_waiting_length {c : Chan} (h : c ∈ s.slot.waiting) :
    (s.grantSlot c).slot.waiting.length < s.slot.waiting.length := by
  rw [grantSlot_slot]
  exact List.length_filter_lt_length_iff_exists.2 ⟨c, h, by simp⟩

/-- R88: each round serves one of those who wait, or is the last. -/
theorem served_settle_of_free (n : Nat) (need : Bool) (hfree : s.slot.holder = none) (hsag : s.sag.state.servesSlot = true)
    (hn : s.slot.waiting.length < n) : (s.settle n need).Served := by
  induction n generalizing s need with
  | zero => omega
  | succ n ih =>
    unfold State.settle
    dsimp only
    split
    · have hworks := works_reevaluate (s := s.serveSlot) .ordinary
      split
      · rename_i hacts
        have hheld := (slotActs_iff _ _).1 hacts
        have hsub := hworks.waiting_sublist.length_le
        by_cases hwait : s.slot.waiting = []
        · rw [serveSlot_of_quiet (.inr (.inl hwait))] at hheld
          rcases hheld.2 with h | h
          · exact absurd hfree h
          · exact absurd hwait h.1
        · obtain ⟨c, hc⟩ := exists_nextServed hwait
          have hshort := grantSlot_waiting_length (mem_waiting_of_nextServed hc)
          rw [← serveSlot_of_served hfree hsag hc] at hshort
          refine ih _ hheld.1 ?_ (by omega)
          rw [hworks.plannerOnly.sag, (plannerOnly_serveSlot s).sag]
          exact hsag
      · rename_i hacts
        exact served_serveSlot.of_works hworks (Bool.not_eq_true _ ▸ hacts)
    · exact served_serveSlot

/-- R87: at most sixteen channels wait. -/
theorem waiting_length_le (h : s.slot.waiting.Nodup) : s.slot.waiting.length ≤ 16 := by
  have := h.length_le_card
  rwa [Fintype.card_fin] at this

/-- R68, R77, R88, R89: after all that follows an event the slot is served. -/
theorem served_settle (need : Bool) (h : s.slot.waiting.Nodup) : (s.settle settleRounds need).Served := by
  by_cases hsag : s.sag.state.servesSlot = true
  · rw [settleRounds, State.settle]
    dsimp only
    split
    · have hworks := acts_serveSlot.works (works_reevaluate (s := s.serveSlot) .ordinary)
      split
      · rename_i hacts
        refine served_settle_of_free 19 _ ((slotActs_iff _ _).1 hacts).1 ?_ ?_
        · rw [hworks.plannerOnly.sag]
          exact hsag
        · have hle := waiting_length_le h
          have hsub := hworks.waiting_sublist.length_le
          omega
      · rename_i hacts
        exact served_serveSlot.of_works (works_reevaluate .ordinary) (Bool.not_eq_true _ ▸ hacts)
    · exact served_serveSlot
  · refine State.served_of_sag ?_
    rw [(plannerOnly_settle s _ _).sag]
    exact Bool.not_eq_true _ ▸ hsag

theorem served_finish (before : State) (tell : Bool) (h : s.slot.waiting.Nodup) : (before.finish s tell).Served :=
  served_settle _ h

theorem State.Served.reevaluateThen (hs : s.Served) (k : Call) (h : s.slot.waiting.Nodup) : (s.reevaluateThen k).Served := by
  have hworks := works_reevaluate (s := s) k
  unfold State.reevaluateThen
  dsimp only
  split
  · exact served_settle _ (h.sublist hworks.waiting_sublist)
  · rename_i hacts
    exact hs.of_works hworks (Bool.not_eq_true _ ▸ hacts)

theorem State.Served.changeLevel (hs : s.Served) (new : Level) (cause : Cause) (h : s.slot.waiting.Nodup) :
    (s.changeLevel new cause).Served := by
  unfold State.changeLevel State.tellLevelChange
  dsimp only
  split
  · exact State.Served.reevaluateThen (s := (s.releveled new cause).stopExcess) hs _ h
  · exact hs

theorem State.Served.setLevelDirect (hs : s.Served) (new : Level) (cause : Cause) (h : s.slot.waiting.Nodup) :
    (s.setLevelDirect new cause).Served := by
  unfold State.setLevelDirect
  split
  · exact hs
  · exact hs.changeLevel new cause h

theorem State.Served.levelTakes (hs : s.Served) (u : ReserveUpdate) (h : s.slot.waiting.Nodup) : (s.levelTakes u).Served := by
  rcases releveled_levelTakes (s := s) u with ⟨x, hx⟩ | ⟨x, new, cause, hx⟩
  · rw [hx]
    exact hs
  · rw [hx]
    exact State.Served.changeLevel (s := { s with level := x }) hs new cause h

/-! ### Outside RUN -/

/-- R154, R158: what stands outside RUN. -/
structure State.AllOff (s : State) : Prop where
  chans : ∀ c : Chan, (s.chan c).state = .off ∨ (s.chan c).state = .locked
  entries : s.standby.entries = []
  slot : s.slot = ⟨none, []⟩
  excess : s.planner.excess = none
  overload : s.planner.overloadReported = false
  overtaken : s.overtaken = []

/-- R154, R155: the reason, the relay and the entry to RUN by the device state. -/
structure Disconnect.Fits (d : Disconnect) : Prop where
  reason : d.reason = .none ↔ d.device ≠ .isolated
  lastPulse : d.lastPulse = .openRelay ↔ d.device = .isolated
  pulse : ∀ p ∈ d.pulse, p.1 = d.lastPulse
  entry : d.entryPending = true → d.device = .start ∧ d.pulse.isSome = true

theorem State.deviceOk_iff : s.DeviceOk ↔ (s.disc.device ≠ .run → s.AllOff) ∧ s.disc.Fits :=
  ⟨fun ⟨hoff, h1, h2, h3, h4⟩ =>
      ⟨fun hd => by
        obtain ⟨hchans, hentries, hslot, hexcess, hoverload, hovertaken⟩ := hoff hd
        exact ⟨hchans, hentries, hslot, hexcess, hoverload, hovertaken⟩, ⟨h1, h2, h3, h4⟩⟩,
    fun ⟨hoff, h1, h2, h3, h4⟩ =>
      ⟨fun hd => ⟨(hoff hd).chans, (hoff hd).entries, (hoff hd).slot, (hoff hd).excess, (hoff hd).overload,
        (hoff hd).overtaken⟩, h1, h2, h3, h4⟩⟩

/-- R68, R88: outside RUN with nobody waiting for the slot nothing follows an event. -/
theorem State.Acts.eq_of_off (h : s.Acts t) (hd : s.disc.device ≠ .run) (hw : s.slot.waiting = []) : t = s := by
  cases h with
  | refl => rfl
  | head h _ =>
    exfalso
    cases h with
    | sheds c hrun => exact hd hrun
    | reports hrun => exact hd hrun
    | timer x b hrun => exact hd hrun
    | unthrottles c hm => exact hd (State.mayAdmit_iff.1 hm).1
    | serves c hfree hsag h =>
      rw [hw] at h
      cases h

theorem State.Works.eq_of_off (h : s.Works t) (hd : s.disc.device ≠ .run) (hw : s.slot.waiting = []) : t = s := by
  cases h with
  | acts h => exact h.eq_of_off hd hw
  | admits h e k hm =>
    rw [h.eq_of_off hd hw] at hm
    exact absurd (State.mayAdmit_iff.1 hm).1 hd

theorem State.AllOff.of_works (hs : s.AllOff) (hd : s.disc.device ≠ .run) (h : s.Works t) : t.AllOff := by
  rw [h.eq_of_off hd (by rw [hs.slot])]
  exact hs

end

end Sys2Proof.Machine
end

section
/-!
PROOF. Every event keeps channels, slot, list, sag and device coherent (R86 to R88, R95 to R99, R112 to R136, R154, R158).
-/

namespace Sys2Proof.Machine

section
variable {s t : State}

theorem mem_allChans (c : Chan) : c ∈ allChans := by revert c; decide

theorem allChans_nodup : allChans.Nodup := by decide

/-- Channels, slot and list agree, the slot is served, and the device state is respected. -/
def State.Sound (s : State) : Prop := s.Agrees ∧ s.Served ∧ s.DeviceOk

theorem State.agrees_iff : s.Agrees ↔ s.ChannelsOk
    ∧ ((∀ c : Chan, s.slot.holder = some c ↔ (s.chan c).inrush.isOpen = true)
        ∧ (∀ c : Chan, c ∈ s.slot.waiting ↔ (s.chan c).phase = .rest ∧ (s.chan c).offTimer = none) ∧ s.slot.waiting.Nodup)
    ∧ s.StandbyOk := by
  constructor
  · intro h
    exact ⟨fun c => (Channel.ok_iff_fits _).2 (h.placed c).fits,
      ⟨fun c => (h.placed c).holder, fun c => (h.placed c).waiting, h.once⟩,
      fun c => (h.placed c).entry, h.list.once, h.list.ordered, h.list.held, h.list.version⟩
  · rintro ⟨hchans, ⟨hholder, hwaiting, honce⟩, hentry, hlistOnce, hordered, hheld, hversion⟩
    exact ⟨fun c => ⟨(Channel.ok_iff_fits _).1 (hchans c), hholder c, hwaiting c, hentry c⟩, honce,
      ⟨hlistOnce, hordered, hheld, hversion⟩⟩

/-- The coherence of the blocks in two parts: the Sag Monitor's, and the rest. -/
theorem State.coherent_iff : s.Coherent ↔ s.SagOk ∧ s.Sound := by
  constructor
  · rintro ⟨hsag, hchans, ⟨hholder, hwaiting, honce, hserved⟩, hstandby, hdevice⟩
    exact ⟨hsag, State.agrees_iff.2 ⟨hchans, ⟨hholder, hwaiting, honce⟩, hstandby⟩, hserved, hdevice⟩
  · rintro ⟨hsag, hagrees, hserved, hdevice⟩
    obtain ⟨hchans, ⟨hholder, hwaiting, honce⟩, hstandby⟩ := State.agrees_iff.1 hagrees
    exact ⟨hsag, hchans, ⟨hholder, hwaiting, honce, hserved⟩, hstandby, hdevice⟩

theorem State.AllOff.deviceOk (hs : s.AllOff) (h : s.disc.Fits) : s.DeviceOk := State.deviceOk_iff.2 ⟨fun _ => hs, h⟩

theorem State.deviceOk_of_run (hd : s.disc.device = .run) (h : s.disc.Fits) : s.DeviceOk :=
  State.deviceOk_iff.2 ⟨fun k => absurd hd k, h⟩

/-- What follows an event that left channels, slot and list agreeing, and everything off outside RUN. -/
theorem State.Works.deviceOk (h : s.Works t) (hoff : s.disc.device ≠ .run → s.AllOff) (hdisc : s.disc.Fits) : t.DeviceOk := by
  rw [State.deviceOk_iff, h.plannerOnly.disc]
  exact ⟨fun hd => (hoff hd).of_works hd h, hdisc⟩

theorem State.Agrees.sound_settle (hs : s.Agrees) (hoff : s.disc.device ≠ .run → s.AllOff) (hdisc : s.disc.Fits) (need : Bool) :
    (s.settle settleRounds need).Sound :=
  ⟨(works_settle _ _).agrees hs, served_settle need hs.once, (works_settle _ _).deviceOk hoff hdisc⟩

theorem State.Agrees.sound_finish (hs : s.Agrees) (hoff : s.disc.device ≠ .run → s.AllOff) (hdisc : s.disc.Fits)
    (before : State) (tell : Bool) : (before.finish s tell).Sound :=
  hs.sound_settle hoff hdisc _

theorem State.Sound.agrees (h : s.Sound) : s.Agrees := h.1

theorem State.Sound.served (h : s.Sound) : s.Served := h.2.1

theorem State.Sound.fits (h : s.Sound) (c : Chan) : (s.chan c).Fits := (h.1.placed c).fits

theorem State.Sound.disc (h : s.Sound) : s.disc.Fits := (State.deviceOk_iff.1 h.2.2).2

theorem State.Sound.allOff (h : s.Sound) (hd : s.disc.device ≠ .run) : s.AllOff := (State.deviceOk_iff.1 h.2.2).1 hd

/-- R154, R158: a channel in another state than OFF and LOCKED tells that the device is in RUN. -/
theorem State.Sound.run_of_state (h : s.Sound) {c : Chan} (hst : (s.chan c).state ≠ .off ∧ (s.chan c).state ≠ .locked) :
    s.disc.device = .run := by
  by_contra hd
  rcases (h.allOff hd).chans c with k | k
  · exact hst.1 k
  · exact hst.2 k

/-- Everything is off, and one channel is replaced by one that is OFF or LOCKED. -/
theorem State.AllOff.setChan (hs : s.AllOff) (c : Chan) {ch : Channel} (hst : ch.state = .off ∨ ch.state = .locked) :
    (s.setChan c ch).AllOff := by
  obtain ⟨hchans, hentries, hslot, hexcess, hoverload, hovertaken⟩ := hs
  refine ⟨fun d => ?_, hentries, hslot, hexcess, hoverload, hovertaken⟩
  rw [State.chan_setChan]
  split
  · exact hst
  · exact hchans d

/-- What leaves the channels, the list, the slot, the Planner's excess and the overtaken expiries. -/
theorem State.AllOff.of_kept (hs : s.AllOff) (hchan : t.chan = s.chan) (hentries : t.standby = s.standby) (hslot : t.slot = s.slot)
    (hplanner : t.planner.excess = s.planner.excess ∧ t.planner.overloadReported = s.planner.overloadReported)
    (hovertaken : t.overtaken = s.overtaken) : t.AllOff := by
  refine ⟨?_, by rw [hentries, hs.entries], by rw [hslot, hs.slot], by rw [hplanner.1, hs.excess],
    by rw [hplanner.2, hs.overload], by rw [hovertaken, hs.overtaken]⟩
  rw [hchan]
  exact hs.chans

/-! ### Level and sag -/

theorem State.Sound.releveled (hs : s.Sound) (h : s.Releveled t) : t.Sound := by
  rcases h with ⟨x, rfl⟩ | ⟨x, new, cause, rfl⟩
  · exact hs
  · have hserved : State.Served { s with level := x } := hs.served
    refine ⟨(works_changeLevel (s := { s with level := x }) new cause).agrees hs.agrees,
      hserved.changeLevel new cause hs.agrees.once, ?_⟩
    refine (works_changeLevel (s := { s with level := x }) new cause).deviceOk (fun hd => ?_) hs.disc
    exact (hs.allOff hd).of_kept rfl rfl rfl ⟨rfl, rfl⟩ rfl

theorem fallen_eq : ∃ g, s.fallen = s.setSag g ∧ g.releasePending = s.sag.releasePending ∧ g.state.servesSlot = false := by
  unfold State.fallen State.fallingEvent
  split <;> rename_i hc <;> change s.sag.state = _ at hc
  · exact ⟨_, rfl, rfl, rfl⟩
  · exact ⟨_, rfl, rfl, rfl⟩
  · exact ⟨_, rfl, rfl, by rw [hc]; rfl⟩
  · exact ⟨_, rfl, rfl, by rw [hc]; rfl⟩

theorem risen_eq (vb : Nat) : s.risen vb = { s with sag := (s.risen vb).sag, ring := (s.risen vb).ring } := by
  unfold State.risen State.risingEvent
  split
  · split <;> rfl
  · rfl
  · rfl
  · rfl

theorem risen_releasePending (vb : Nat) : (s.risen vb).sag.releasePending = s.sag.releasePending := by
  unfold State.risen State.risingEvent
  split
  · split <;> rfl
  · rfl
  · rfl
  · rfl

/-- The agreement reads release pending of the Sag Monitor alone. -/
theorem State.Agrees.setSag (hs : s.Agrees) {g : SagMon} (h : g.releasePending = s.sag.releasePending) : (s.setSag g).Agrees := by
  unfold State.Agrees at hs ⊢
  rw [← h] at hs
  exact hs

theorem State.Sound.fallen (hs : s.Sound) : s.fallen.Sound := by
  obtain ⟨g, hg, hpending, hserves⟩ := fallen_eq (s := s)
  rw [hg]
  exact ⟨hs.agrees.setSag hpending, State.served_of_sag hserves, hs.2.2⟩

theorem State.Sound.comparatorTakes (hs : s.Sound) (vb : Nat) : (s.comparatorTakes vb).Sound := by
  rcases comparatorTakes_cases (s := s) vb with h | ⟨-, -, h⟩ | ⟨hd, hlow, -⟩
  · rw [h]
    exact hs
  · rw [h]
    exact hs.fallen
  · by_cases hvb : s.plan.battery.vSag + s.plan.battery.hs < vb
    · rw [comparatorTakes_of_rises vb hd hlow hvb]
      have heq := risen_eq (s := s) vb
      have hpending := risen_releasePending (s := s) vb
      generalize s.risen vb = u at heq hpending ⊢
      have hset := hs.agrees.setSag hpending
      have hu : u.Agrees := by
        rw [heq]
        exact hset
      refine hu.sound_finish (fun hd => ?_) ?_ _ _
      · rw [heq] at hd ⊢
        exact (hs.allOff hd).of_kept rfl rfl rfl ⟨rfl, rfl⟩ rfl
      · rw [heq]
        exact hs.disc
    · have hself : s.comparatorTakes vb = s := by
        unfold State.comparatorTakes
        rw [if_neg hd, if_neg (by simp [hlow]), if_neg (by simp [hvb])]
      rw [hself]
      exact hs

/-- R43, R44: a sag shed asked for while the sag lasts. -/
theorem State.Sound.askSagShed (hagrees : s.Agrees) (hdevice : s.DeviceOk) (hsag : s.sag.state.servesSlot = false) :
    s.askSagShed.Sound := by
  rcases exists_sagCandidate_or (s := s) with ⟨c, hd, hc⟩ | h
  · rw [askSagShed_of_candidate hd hc]
    have hstep : (s.sagShedStep c).Agrees := hagrees.sagShedStep (isSagCandidate_of_sagCandidate hc)
    have hdisc : (s.sagShedStep c).disc = s.disc := (plannerOnly_shedChannel s c _ _ _).disc
    refine State.Agrees.sound_settle (s := (s.sagShedStep c).countShed) hstep (fun hrun => ?_) ?_ _
    · change (s.sagShedStep c).disc.device ≠ .run at hrun
      rw [hdisc] at hrun
      exact absurd hd hrun
    · show (s.sagShedStep c).disc.Fits
      rw [hdisc]
      exact (State.deviceOk_iff.1 hdevice).2
  · rw [askSagShed_of_none h]
    split
    · exact ⟨hagrees, State.served_of_sag hsag, hdevice⟩
    · exact ⟨hagrees, State.served_of_sag hsag, hdevice⟩

theorem State.Sound.toleranceExpiry (hs : s.Sound) (hsag : s.SagOk) (h : s.sag.tolerance.isSome = true) :
    s.toleranceExpiry.Sound := by
  rcases (State.sagOk_iff.1 hsag).1.tolerance.1 h with hst | hst
  · rw [State.toleranceExpiry_of_sagging s hst]
    have hagrees : s.sagStarted.Agrees := ⟨hs.agrees.placed, hs.agrees.once, hs.agrees.list.pend⟩
    exact State.Sound.askSagShed (s := s.sagStarted) hagrees hs.2.2 rfl
  · rw [State.toleranceExpiry_of_sagShedding s hst]
    refine State.Sound.askSagShed (s := s.setSag { s.sag with tolerance := s.toleranceTimer }) hs.agrees hs.2.2 ?_
    show s.sag.state.servesSlot = false
    rw [hst]
    rfl

theorem releaseHeld_of_empty (h : s.standby.entries = []) : s.releaseHeld = s := by
  unfold State.releaseHeld
  rw [h]
  rfl

/-- R46, R103: the recovery dwell's end. -/
theorem State.Sound.recovered (hs : s.Sound) (before : State) :
    (before.finish (s.setSag { s.sag with state := .clear, recovery := none, releasePending := false }).releaseHeld true).Sound := by
  have hframe := plannerOnly_releaseHeld (s.setSag { s.sag with state := .clear, recovery := none, releasePending := false })
  refine State.Agrees.sound_finish ?_ (fun hd => ?_) ?_ _ _
  · have hreleased := State.Agrees.releaseHeld
      (s := s.setSag { s.sag with state := .clear, recovery := none, releasePending := false }) hs.agrees
    unfold State.Agrees
    rw [hframe.sag]
    exact hreleased
  · rw [hframe.disc] at hd
    have hoff := hs.allOff hd
    have hself := releaseHeld_of_empty
      (s := s.setSag { s.sag with state := .clear, recovery := none, releasePending := false }) hoff.entries
    rw [hself]
    exact hoff.of_kept rfl rfl rfl ⟨rfl, rfl⟩ rfl
  · rw [hframe.disc]
    exact hs.disc

/-! ### The channels' events -/

/-- An event of a channel that is neither OFF nor LOCKED, which happens in RUN. -/
theorem State.Sound.finish_of_state (hs : s.Sound) {c : Chan} (hst : (s.chan c).state ≠ .off ∧ (s.chan c).state ≠ .locked)
    (ht : t.Agrees) (hdisc : t.disc = s.disc) (before : State) (tell : Bool) : (before.finish t tell).Sound := by
  refine ht.sound_finish (fun hd => ?_) ?_ _ _
  · rw [hdisc] at hd
    exact absurd (hs.run_of_state hst) hd
  · rw [hdisc]
    exact hs.disc

theorem Channel.state_of_closed {ch : Channel} (h : ch.closed = true) : ch.state ≠ .off ∧ ch.state ≠ .locked := by
  unfold Channel.closed at h
  constructor <;> intro k <;> rw [k] at h <;> cases h

theorem Channel.Fits.closed_of_open {ch : Channel} (h : ch.Fits) (k : ch.inrush.isOpen = true) : ch.closed = true := by
  unfold Channel.closed
  rcases h.inrush k with hst | hp
  · rw [hst]
  · rw [h.throttled_of_run hp]
    simp [hp]

theorem endSampleWindow_chan_state (c : Chan) (h : (s.chan c).state = .rundown) (hfits : (s.chan c).Fits) :
    s.endSampleWindow c = s := by
  unfold State.endSampleWindow
  rw [if_neg]
  intro k
  rcases hfits.inrush (by rw [k]; rfl) with hst | hp
  · rw [h] at hst
    cases hst
  · have := hfits.throttled_of_run hp
    rw [h] at this
    cases this

theorem State.Agrees.endSampleWindow (hs : s.Agrees) (c : Chan) : (s.endSampleWindow c).Agrees := by
  unfold State.endSampleWindow
  split
  · rename_i h
    exact hs.endWindow (by rw [h]; rfl)
  · exact hs

/-- R124: the done test. -/
theorem State.Agrees.doneTest (hs : s.Agrees) {c : Chan} (hst : (s.chan c).state = .rundown) (m : Nat) : (s.doneTest c m).Agrees := by
  have hfits := (hs.placed c).fits
  unfold State.doneTest
  split
  · split
    · exact hs.endRundown hst
    · exact hs.setChan (hfits.doneStreaks hst (by omega)) rfl .rfl .rfl
  · exact hs.setChan (hfits.doneStreaks hst (by omega)) rfl .rfl .rfl

/-- R114, R117: the work of a sample at a closed switch. -/
theorem State.Agrees.testSample (hs : s.Agrees) {c : Chan} (hc : (s.chan c).closed = true) (m : Nat) : (s.testSample c m).Agrees := by
  have hfits := (hs.placed c).fits
  unfold State.testSample
  dsimp only
  split
  · exact hs.trip hc .trip
  · rename_i hn
    have hstreak : (s.setStreak c ((s.chan c).streakAfter (s.crec c) m)).Agrees :=
      hs.setChan (hfits.streaks hc (Nat.lt_of_not_le hn)) rfl .rfl .rfl
    split
    · rename_i hst
      have hchan : ((s.setStreak c ((s.chan c).streakAfter (s.crec c) m)).chan c).state = .rundown := by
        rw [State.setStreak, State.chan_setChan_self]
        exact hst
      rw [endSampleWindow_chan_state c hchan (hstreak.placed c).fits]
      exact hstreak.doneTest hchan m
    · exact hstreak.endSampleWindow c

theorem State.Sound.takeSample (hs : s.Sound) (c : Chan) (m : Nat) (before : State) :
    (before.finish (s.takeSample c m) false).Sound := by
  have hframe := plannerOnly_takeSample s c m
  have hset : (s.setChan c { s.chan c with m := m }).Agrees := hs.agrees.setChan ((hs.fits c).records m) rfl .rfl .rfl
  have hself : (s.setChan c { s.chan c with m := m }).chan c = { s.chan c with m := m } := State.chan_setChan_self s c _
  have hact : ∀ u : State, u.Agrees → (u.currentActivity c m).Agrees := fun u hu => by
    rw [State.currentActivity_eq]
    exact hu
  unfold State.takeSample at hframe ⊢
  dsimp only at hframe ⊢
  rw [hself] at hframe ⊢
  split
  · rename_i hc
    have hwork := hset.testSample (by rw [hself]; exact hc) m
    rw [if_pos hc] at hframe
    exact hs.finish_of_state (c := c) (Channel.state_of_closed (ch := s.chan c) hc) (hact _ hwork) hframe.disc _ _
  · rename_i hc
    rw [if_neg hc] at hframe
    refine (hact _ hset).sound_finish (fun hd => ?_) (by rw [hframe.disc]; exact hs.disc) _ _
    rw [hframe.disc] at hd
    rw [State.currentActivity_eq]
    have hoff := (hs.allOff hd).setChan c (ch := { s.chan c with m := m }) ((hs.allOff hd).chans c)
    exact hoff.of_kept rfl rfl rfl ⟨rfl, rfl⟩ rfl

/-- R121: the retry timer's end. -/
theorem State.Agrees.retry (hs : s.Agrees) {c : Chan} (hst : (s.chan c).state = .tripped) :
    ((s.setChan c { s.chan c with state := .waiting, retryTimer := none }).insertEntry c .retry false).Agrees :=
  hs.insert (by rw [hst]; nofun) ((hs.placed c).fits.retries hst) rfl rfl .rfl _ _

/-! ### Isolation, the entry to RUN and reconnection -/

theorem emptyStandby_standby :
    s.emptyStandby.standby = ⟨[], if s.standby.entries = [] then s.standby.version else nextVersion s.standby.version⟩ := by
  unfold State.emptyStandby
  by_cases h : s.standby.entries = []
  · rw [if_pos (by rw [h]; rfl), if_pos h, ← h]
  · rw [if_neg (by rwa [List.isEmpty_iff]), if_neg h]
    rfl

theorem emptyStandby_eq : s.emptyStandby = { s with standby := s.emptyStandby.standby } := by
  unfold State.emptyStandby
  split <;> rfl

theorem cutAll_chan (c : Chan) : s.cutAll.chan c = (s.chan c).isolated := by
  have hmap := s.chan_mapChans (fun _ ch => ch.isolated) c
  unfold State.cutAll
  generalize s.mapChans (fun _ ch => ch.isolated) = cut at hmap ⊢
  rw [emptyStandby_eq]
  exact hmap

theorem cutAll_slot : s.cutAll.slot = ⟨none, []⟩ := by
  unfold State.cutAll
  rw [emptyStandby_eq]

theorem cutAll_planner : s.cutAll.planner = ⟨none, none, false⟩ := by
  unfold State.cutAll
  rw [emptyStandby_eq]

theorem cutAll_standby :
    s.cutAll.standby = ⟨[], if s.standby.entries = [] then s.standby.version else nextVersion s.standby.version⟩ := by
  have hmap := s.mapChans_standby fun _ ch => ch.isolated
  unfold State.cutAll
  generalize s.mapChans (fun _ ch => ch.isolated) = cut at hmap ⊢
  rw [emptyStandby_standby, ← hmap]

theorem isolateBlocks_chan (c : Chan) : s.isolateBlocks.chan c = (s.chan c).isolated := cutAll_chan c

theorem isolateBlocks_slot : s.isolateBlocks.slot = ⟨none, []⟩ := cutAll_slot

theorem isolateBlocks_planner : s.isolateBlocks.planner = ⟨none, none, false⟩ := cutAll_planner

theorem isolateBlocks_standby : s.isolateBlocks.standby =
    ⟨[], if s.standby.entries = [] then s.standby.version else nextVersion s.standby.version⟩ := cutAll_standby

theorem Channel.isolated_state (ch : Channel) : ch.isolated.state = .off ∨ ch.isolated.state = .locked := by
  unfold Channel.isolated
  split
  · exact .inr ‹_›
  · exact .inl rfl

theorem Channel.Fits.isolated {ch : Channel} (h : ch.Fits) : ch.isolated.Fits := by
  unfold Channel.isolated
  split
  · exact h
  · exact h.stopped .isolation

/-- A channel that is OFF or LOCKED is out of the slot, its waiting set and the list. -/
theorem Channel.Fits.placed_of_off {ch : Channel} (h : ch.Fits) (hst : ch.state = .off ∨ ch.state = .locked) {c : Chan} {x : Slot}
    {l : Standby} (hholder : x.holder ≠ some c) (hwait : c ∉ x.waiting) (hlist : ¬l.Lists c) : ch.Placed c x l := by
  have hnone : ch.phase = .none := by
    by_contra k
    have := h.phase.1 k
    rcases hst with hst | hst <;> rw [hst] at this <;> cases this
  have hclosed : ¬ch.inrush.isOpen = true := fun k => by
    rcases h.inrush k with k | k
    · rcases hst with hst | hst <;> rw [hst] at k <;> cases k
    · rw [hnone] at k
      cases k
  have hwaiting : ch.state ≠ .waiting := by rcases hst with hst | hst <;> rw [hst] <;> nofun
  exact ⟨h, by simp [hholder, hclosed], by simp [hwait, hnone], by simp [hlist, hwaiting]⟩

/-- R158: what an isolation leaves agrees. -/
theorem agrees_of_isolated (hfits : ∀ c, (t.chan c).Fits) (hst : ∀ c, (t.chan c).state = .off ∨ (t.chan c).state = .locked)
    (hslot : t.slot = ⟨none, []⟩) (hentries : t.standby.entries = []) (hversion : t.standby.version < 256) : t.Agrees := by
  refine ⟨fun c => (hfits c).placed_of_off (hst c) ?_ ?_ ?_, ?_, ⟨?_, ?_, ?_, hversion⟩⟩
  · rw [hslot]
    nofun
  · rw [hslot]
    exact List.not_mem_nil
  · rw [Standby.Lists, hentries]
    exact List.not_mem_nil
  · rw [hslot]
    exact List.nodup_nil
  · rw [hentries]
    exact List.nodup_nil
  · rw [hentries]
    exact .nil
  · rw [hentries]
    exact fun e he => absurd he List.not_mem_nil

theorem emptied_version_lt (h : s.standby.version < 256) :
    (if s.standby.entries = [] then s.standby.version else nextVersion s.standby.version) < 256 := by
  split
  · exact h
  · exact nextVersion_lt _

theorem isolate_chan (r : IsoReason) (c : Chan) : (s.isolate r).chan c = (s.chan c).isolated := by
  unfold State.isolate
  rw [State.pushAll_eq]
  exact isolateBlocks_chan c

theorem isolate_slot (r : IsoReason) : (s.isolate r).slot = ⟨none, []⟩ := by
  unfold State.isolate
  rw [State.pushAll_eq]
  exact isolateBlocks_slot

theorem isolate_planner (r : IsoReason) : (s.isolate r).planner = ⟨none, none, false⟩ := by
  unfold State.isolate
  rw [State.pushAll_eq]
  exact isolateBlocks_planner

theorem isolate_standby (r : IsoReason) : (s.isolate r).standby =
    ⟨[], if s.standby.entries = [] then s.standby.version else nextVersion s.standby.version⟩ := by
  unfold State.isolate
  rw [State.pushAll_eq]
  exact isolateBlocks_standby

theorem isolateUnit_fits {r : IsoReason} (hr : r ≠ .none) : (s.isolateUnit r).disc.Fits := by
  refine ⟨by simp [State.isolateUnit, hr], by simp [State.isolateUnit], ?_, by simp [State.isolateUnit]⟩
  intro p hp
  simp only [State.isolateUnit, Option.mem_def, Option.some.injEq] at hp
  rw [← hp]
  rfl

/-- R158: an isolation. -/
theorem State.Agrees.isolate (hs : s.Agrees) {r : IsoReason} (hr : r ≠ .none) : (s.isolate r).Sound := by
  have hframe := plannerOnly_isolate s r
  have hoff : ∀ c, ((s.isolate r).chan c).state = .off ∨ ((s.isolate r).chan c).state = .locked := fun c => by
    rw [isolate_chan]
    exact Channel.isolated_state _
  have hentries : (s.isolate r).standby.entries = [] := by rw [isolate_standby]
  refine ⟨agrees_of_isolated (fun c => ?_) hoff (isolate_slot r) hentries ?_, ?_, State.AllOff.deviceOk ⟨hoff, hentries,
    isolate_slot r, by rw [isolate_planner], by rw [isolate_planner], hframe.overtaken⟩ ?_⟩
  · rw [isolate_chan]
    exact (hs.placed c).fits.isolated
  · rw [isolate_standby]
    exact emptied_version_lt hs.list.version
  · exact State.served_of_empty (by rw [isolate_slot])
  · rw [hframe.disc]
    exact isolateUnit_fits hr

/-- R100: who gets a RESUME entry. -/
theorem State.resumes_iff (c : Chan) : s.resumes c = true ↔
    (s.crec c).active = true ∧ (s.chan c).state = .off ∧ (s.rank c = 0 ∨ (s.crec c).resume = true) := by
  simp only [State.resumes, Bool.and_eq_true, Bool.or_eq_true, decide_eq_true_eq, and_assoc]

/-- R97: new entries of different channels that have none, each placed at its position. -/
theorem Standby.Fits.placeAll {rank : Chan → Nat} {pending : Bool} {v : Nat} (es : List Entry) (entries : List Entry)
    (h : Standby.Fits ⟨entries, nextVersion v⟩ rank pending) (honce : (es.map (·.channel)).Nodup)
    (hnew : ∀ e ∈ es, ¬Standby.Lists ⟨entries, nextVersion v⟩ e.channel) (hheld : ∀ e ∈ es, e.held = false) :
    Standby.Fits ⟨es.foldl (fun acc e => placeEntry rank e acc) entries, nextVersion v⟩ rank pending
      ∧ ∀ d, Standby.Lists ⟨es.foldl (fun acc e => placeEntry rank e acc) entries, nextVersion v⟩ d
          ↔ d ∈ es.map (·.channel) ∨ Standby.Lists ⟨entries, nextVersion v⟩ d := by
  induction es generalizing entries with
  | nil => exact ⟨h, fun d => by simp⟩
  | cons e es ih =>
    rw [List.map_cons, List.nodup_cons] at honce
    have hplaced := h.place (e := e) (hnew e List.mem_cons_self) (fun k => by
      rw [hheld e List.mem_cons_self] at k
      cases k) v
    have hlists : ∀ d, Standby.Lists ⟨placeEntry rank e entries, nextVersion v⟩ d
        ↔ d = e.channel ∨ Standby.Lists ⟨entries, nextVersion v⟩ d :=
      fun d => Standby.lists_place (l := ⟨entries, nextVersion v⟩) e (nextVersion v) d
    obtain ⟨hfits, hall⟩ := ih _ hplaced honce.2 (fun x hx => by
      rw [hlists]
      rintro (k | k)
      · exact honce.1 (k ▸ List.mem_map_of_mem hx)
      · exact hnew x (List.mem_cons_of_mem _ hx) k) (fun x hx => hheld x (List.mem_cons_of_mem _ hx))
    refine ⟨hfits, fun d => (hall d).trans ?_⟩
    rw [hlists, List.map_cons, List.mem_cons]
    tauto

/-- R100: a channel with its RESUME entry waits. -/
def State.resumedChan (s : State) (c : Chan) : Channel :=
  if s.resumes c then { s.chan c with state := .waiting } else s.chan c

/-- R100: the RESUME entries, by ascending channel number. -/
def State.resumeEntries (s : State) : List Entry :=
  (allChans.filter s.resumes).map fun c => ⟨c, .resume, false, false, s.sys.uptime⟩

theorem resumeAll_of_none (h : allChans.filter s.resumes = []) : s.resumeAll = s := by
  unfold State.resumeAll
  dsimp only
  rw [h]
  rfl

theorem resumeAll_chan (c : Chan) : s.resumeAll.chan c = s.resumedChan c := by
  unfold State.resumeAll
  dsimp only
  split
  · rename_i h
    have hc : ¬s.resumes c = true := fun k => by
      have : c ∈ allChans.filter s.resumes := List.mem_filter.2 ⟨mem_allChans c, k⟩
      rw [List.isEmpty_iff.1 h] at this
      cases this
    rw [State.resumedChan, if_neg hc]
  · exact s.chan_mapChans (fun c ch => if s.resumes c then { ch with state := .waiting } else ch) c

theorem resumeAll_slot : s.resumeAll.slot = s.slot := by
  unfold State.resumeAll
  dsimp only
  split
  · rfl
  · exact s.mapChans_slot fun c ch => if s.resumes c then { ch with state := .waiting } else ch

theorem resumeAll_standby (h : allChans.filter s.resumes ≠ []) : s.resumeAll.standby =
    ⟨s.resumeEntries.foldl (fun acc e => placeEntry s.rank e acc) s.standby.entries, nextVersion s.standby.version⟩ := by
  unfold State.resumeAll
  dsimp only
  rw [if_neg (by rwa [List.isEmpty_iff])]
  have hmap := s.mapChans_standby fun c ch => if s.resumes c then { ch with state := .waiting } else ch
  generalize s.mapChans (fun c ch => if s.resumes c then { ch with state := .waiting } else ch) = woken at hmap ⊢
  rw [State.setEntries_standby, hmap]
  rfl

theorem resumeEntries_channels : s.resumeEntries.map (·.channel) = allChans.filter s.resumes := by
  rw [State.resumeEntries, List.map_map]
  exact List.map_id _

/-- R100: the RESUME event. -/
theorem State.Agrees.resumeAll (hs : s.Agrees) : s.resumeAll.Agrees := by
  by_cases hnone : allChans.filter s.resumes = []
  · rw [resumeAll_of_none hnone]
    exact hs
  · have hlisted : ∀ c, s.resumes c = true → ¬s.standby.Lists c := fun c hc k => by
      have := (hs.placed c).entry.1 k
      rw [((s.resumes_iff c).1 hc).2.1] at this
      cases this
    obtain ⟨hfits, hlists⟩ := Standby.Fits.placeAll (v := s.standby.version) s.resumeEntries s.standby.entries
      ⟨hs.list.once, hs.list.ordered, hs.list.held, nextVersion_lt _⟩
      (by rw [resumeEntries_channels]; exact allChans_nodup.filter _)
      (fun e he => by
        obtain ⟨c, hc, rfl⟩ := List.mem_map.1 he
        exact hlisted c (List.mem_filter.1 hc).2)
      (fun e he => by
        obtain ⟨c, -, rfl⟩ := List.mem_map.1 he
        rfl)
    refine State.agrees_of (plannerOnly_resumeAll s) (f := s.resumedChan) (funext resumeAll_chan) resumeAll_slot
      (resumeAll_standby hnone) ⟨fun c => ?_, hs.once, hfits⟩
    have hold := hs.placed c
    have hmem : c ∈ s.resumeEntries.map (·.channel) ↔ s.resumes c = true := by
      rw [resumeEntries_channels, List.mem_filter]
      exact and_iff_right (mem_allChans c)
    unfold State.resumedChan
    split
    · rename_i hc
      have hoff := ((s.resumes_iff c).1 hc).2.1
      exact ⟨hold.fits.waits hoff, hold.holder, hold.waiting, (hlists c).trans (by simp [hmem, hc])⟩
    · rename_i hc
      exact ⟨hold.fits, hold.holder, hold.waiting, (hlists c).trans ((or_iff_right (mt hmem.1 hc)).trans hold.entry)⟩

/-- R154: a unit that enters RUN with the relay closed. -/
theorem Disconnect.Fits.entered {d : Disconnect} (h : d.Fits) (hd : d.device = .start) : d.entered.Fits := by
  obtain ⟨hreason, hlast, hpulse, hentry⟩ := h
  refine ⟨by simp [Disconnect.entered], ?_, hpulse, by simp [Disconnect.entered]⟩
  rw [hd] at hlast
  simpa [Disconnect.entered] using hlast

theorem State.Sound.enterRun (hs : s.Sound) (hd : s.disc.device = .start) : s.enterRun.Sound := by
  have hresume := State.Agrees.resumeAll (s := { s with disc := s.disc.entered }) hs.agrees
  have hdisc := (plannerOnly_resumeAll { s with disc := s.disc.entered }).disc
  refine State.Agrees.sound_settle (s := State.resumeAll { s with disc := s.disc.entered }) hresume (fun k => ?_) ?_ true
  · rw [hdisc] at k
    exact absurd rfl k
  · rw [hdisc]
    exact hs.disc.entered hd

/-- R162: a unit that reconnects. -/
theorem Disconnect.fits_reconnected (d : Disconnect) (h : d.entryPending = false) : d.reconnected.Fits := by
  refine ⟨by simp [Disconnect.reconnected], by simp [Disconnect.reconnected], ?_, by simp [Disconnect.reconnected, h]⟩
  intro p hp
  simp only [Disconnect.reconnected, Option.mem_def, Option.some.injEq] at hp
  rw [← hp]
  rfl

theorem State.Sound.closeRelay_setLevel (hs : s.Sound) :
    (s.closeRelay.setLevelDirect s.level.deep s.closeRelay.reconnectCause).Agrees := by
  rcases releveled_setLevelDirect (s := s.closeRelay) s.level s.level.deep s.closeRelay.reconnectCause with ⟨x, hx⟩ | ⟨x, new, cause, hx⟩
  · change s.closeRelay.setLevelDirect _ _ = _ at hx
    rw [hx]
    exact hs.agrees
  · change s.closeRelay.setLevelDirect _ _ = _ at hx
    rw [hx]
    exact (works_changeLevel (s := { s.closeRelay with level := x }) new cause).agrees hs.agrees

theorem State.Sound.reconnect (hs : s.Sound) (hd : s.disc.device = .isolated) (k : Trigger) : (s.reconnect k).Sound := by
  rw [State.reconnect_eq]
  have hentry : s.disc.entryPending = false := by
    cases h : s.disc.entryPending with
    | false => rfl
    | true =>
      have := (hs.disc.entry h).1
      rw [hd] at this
      cases this
  have hrejoined : s.rejoined.Agrees := hs.closeRelay_setLevel
  have hdisc : s.rejoined.resumeAll.disc = s.disc.reconnected :=
    (plannerOnly_resumeAll s.rejoined).disc.trans (plannerOnly_rejoined s).disc
  have hsettled : (s.rejoined.resumeAll.settle settleRounds true).Sound := by
    refine hrejoined.resumeAll.sound_settle (fun k => ?_) ?_ true
    · rw [hdisc] at k
      exact absurd rfl k
    · rw [hdisc]
      exact Disconnect.fits_reconnected _ hentry
  exact hsettled

/-- R156, R159: a unit that counts. -/
theorem Disconnect.Fits.counts {d e : Disconnect} (h : d.Fits) (k : d.Counts e) : e.Fits := by
  obtain ⟨hreason, hlast, hpulse, hentry⟩ := h
  refine ⟨by rw [k.reason, k.device]; exact hreason, by rw [k.lastPulse, k.device]; exact hlast,
    by rw [k.pulse, k.lastPulse]; exact hpulse, fun he => ?_⟩
  rw [k.device, k.pulse]
  rcases k.entry he with he | he
  · exact hentry he
  · exact he

theorem State.Sound.setDisc (hs : s.Sound) {d : Disconnect} (h : d.Fits) (hdevice : d.device = s.disc.device) :
    State.Sound { s with disc := d } := by
  refine ⟨hs.agrees, hs.served, State.deviceOk_iff.2 ⟨fun hd => ?_, h⟩⟩
  change d.device ≠ .run at hd
  rw [hdevice] at hd
  exact (hs.allOff hd).of_kept rfl rfl rfl ⟨rfl, rfl⟩ rfl

theorem State.Sound.noteUpdate (hs : s.Sound) (u : ReserveUpdate) : (s.noteUpdate u).Sound :=
  hs.setDisc (hs.disc.counts ⟨rfl, rfl, rfl, rfl, .inl⟩) rfl

theorem State.Sound.disconnectTakes (hs : s.Sound) (u : ReserveUpdate) : (s.disconnectTakes u).Sound := by
  have hnote := hs.noteUpdate u
  rcases disconnectTakes_cases (s := s) u with ⟨d, hd, h⟩ | ⟨hd, h⟩ | ⟨-, r, hr, h⟩ | ⟨hd, h⟩
  · rw [h]
    exact hs.setDisc (hs.disc.counts hd) hd.device
  · rw [h]
    exact hnote.enterRun hd
  · rw [h]
    exact hnote.agrees.isolate hr
  · rw [h]
    exact hnote.reconnect hd _

theorem State.Sound.transition (hs : s.Sound) (n : AuxIx) (level : Bool) : (s.transition n level).Sound := by
  rcases transition_cases (s := s) n level with h | h | ⟨hd, h⟩ | ⟨-, h⟩
  · rw [h]
    exact hs
  · rw [h, State.auxActivity, State.activity_eq]
    exact hs
  · rw [h]
    exact hs.reconnect hd _
  · rw [h]
    exact hs

theorem State.Sound.endPulse (hs : s.Sound) (h : ¬(s.disc.device = .start ∧ s.disc.entryPending = true)) : s.endPulse.Sound := by
  refine hs.setDisc ⟨hs.disc.reason, hs.disc.lastPulse, nofun, fun k => ?_⟩ rfl
  exact absurd ⟨(hs.disc.entry k).1, k⟩ h

theorem State.Sound.enterRunAtPulseEnd (hs : s.Sound) (hd : s.disc.device = .start) : s.endPulse.enterRun.Sound := by
  have hresume := State.Agrees.resumeAll (s := { s.endPulse with disc := s.endPulse.disc.entered }) hs.agrees
  have hdisc := (plannerOnly_resumeAll { s.endPulse with disc := s.endPulse.disc.entered }).disc
  refine State.Agrees.sound_settle (s := State.resumeAll { s.endPulse with disc := s.endPulse.disc.entered }) hresume
    (fun k => ?_) ?_ true
  · rw [hdisc] at k
    exact absurd rfl k
  · rw [hdisc]
    have hlast := hs.disc.lastPulse
    rw [hd] at hlast
    exact ⟨by simp [Disconnect.entered], by simpa [Disconnect.entered, State.endPulse] using hlast, nofun,
      by simp [Disconnect.entered]⟩

end

end Sys2Proof.Machine
end

section
/-!
PROOF. Coherence is kept by every step: the events of the blocks, the owners' parts, the resets and a millisecond.
-/

namespace Sys2Proof.Machine

section
variable {s t : State}

/-! ### The events -/

theorem State.Agrees.idleTurned (hs : s.Agrees) (n : TimerIx) : (s.idleTurned n).Agrees := by
  have hoff := hs.idleOffAll (s.affectedMembers s.plan.timers[n])
  unfold State.idleTurned
  generalize s.idleOffAll (s.affectedMembers s.plan.timers[n]) = off at hoff ⊢
  exact hoff

theorem State.Agrees.overtakenTurned (hs : s.Agrees) (n : TimerIx) : (s.overtakenTurned n).Agrees := by
  have hoff := hs.idleOffAll (s.overtakenMembers n)
  unfold State.overtakenTurned
  generalize s.idleOffAll (s.overtakenMembers n) = off at hoff ⊢
  exact hoff

/-- An event that happens in RUN. -/
theorem State.Sound.finish_of_run (hs : s.Sound) (hd : s.disc.device = .run) (ht : t.Agrees) (hdisc : t.disc = s.disc)
    (before : State) (tell : Bool) : (before.finish t tell).Sound := by
  refine ht.sound_finish (fun k => ?_) ?_ _ _
  · rw [hdisc] at k
    exact absurd hd k
  · rw [hdisc]
    exact hs.disc

theorem State.Sound.idleExpiry (hs : s.Sound) (n : TimerIx) (hd : s.disc.device = .run) : (s.idleExpiry n).Sound := by
  rw [State.idleExpiry_eq]
  exact hs.finish_of_run hd (hs.agrees.idleTurned n) (plannerOnly_idleTurned s n).disc _ _

theorem State.Sound.overtakenExpiry (hs : s.Sound) (n : TimerIx) (hd : s.disc.device = .run) : (s.overtakenExpiry n).Sound := by
  rw [State.overtakenExpiry_eq]
  exact hs.finish_of_run hd (hs.agrees.overtakenTurned n) (plannerOnly_overtakenTurned s n).disc _ _

/-- R74, R76: the excess timer's end. -/
theorem State.Sound.excessEnds (hs : s.Sound) (h : s.planner.excess.isSome = true) :
    (s.stopExcess.reevaluateThen .expiry).Sound := by
  have hrun : s.disc.device = .run := by
    by_contra hd
    rw [(hs.allOff hd).excess] at h
    cases h
  have hworks := works_reevaluateThen (s := s.stopExcess) .expiry
  exact ⟨hworks.agrees hs.agrees, State.Served.reevaluateThen (s := s.stopExcess) hs.served _ hs.agrees.once,
    hworks.deviceOk (fun hd => absurd hrun hd) hs.disc⟩

/-- R80: the restore-quiet timer's end. -/
theorem State.Sound.stopQuiet (hs : s.Sound) : s.stopQuiet.Sound :=
  ⟨hs.agrees, hs.served, State.deviceOk_iff.2 ⟨fun hd => (hs.allOff hd).of_kept rfl rfl rfl ⟨rfl, rfl⟩ rfl, hs.disc⟩⟩

theorem State.Sound.settles (hs : s.Sound) (need : Bool) : (s.settle settleRounds need).Sound :=
  hs.agrees.sound_settle hs.allOff hs.disc need

/-- Every event of a block keeps a coherent state sound. -/
theorem State.Event.sound {i : Instr} (h : s.Event i t) (hsag : s.SagOk) (hs : s.Sound) : t.Sound := by
  cases h with
  | nothing => exact hs
  | battery vb cur =>
    rw [State.takeBatterySample_eq]
    exact hs
  | temperature x valid => exact hs
  | @level u rest =>
    have hmail : (s.setLevelMail rest).Sound := hs
    exact hmail.releveled (releveled_levelTakes u)
  | @comparator vb rest =>
    have hmail : (s.setSagMail rest).Sound := hs
    exact hmail.comparatorTakes vb
  | tolerance h => exact hs.toleranceExpiry hsag h
  | recovery => exact hs.recovered s
  | sample c m => exact hs.takeSample c m s
  | short c h =>
    exact hs.finish_of_state (Channel.state_of_closed h) (hs.agrees.trip h .short) (plannerOnly_trip s c _).disc _ _
  | rundownTimeout c h =>
    have hpush : (s.push .rundownTimeout (some c) (s.chan c).m (Timer.lengthSeconds (s.chan c).rundownTimer)).Agrees := hs.agrees
    exact hs.finish_of_state (c := c) (by rw [h]; exact ⟨nofun, nofun⟩) (hpush.endRundown h)
      (plannerOnly_endRundown (s.push .rundownTimeout (some c) (s.chan c).m _) c).disc _ _
  | windowEnd c h =>
    have hopen : (s.chan c).inrush.isOpen = true := by
      unfold Inrush.isTimed at h
      split at h
      · cases h
      · rename_i hw
        rw [hw]
        rfl
      · cases h
    exact hs.finish_of_state (Channel.state_of_closed ((hs.fits c).closed_of_open hopen)) (hs.agrees.endWindow hopen)
      (plannerOnly_endWindow s c).disc _ _
  | retry c h =>
    exact hs.finish_of_state (c := c) (by rw [h]; exact ⟨nofun, nofun⟩) (hs.agrees.retry h)
      ((plannerOnly_setChan s c _).trans (plannerOnly_insertEntry _ c _ _)).disc _ _
  | goodRun c h =>
    have hrun := hs.run_of_state (c := c) (by rw [h]; exact ⟨nofun, nofun⟩)
    exact ⟨hs.agrees.setChan (hs.fits c).runsWell rfl .rfl .rfl, hs.served, State.deviceOk_of_run hrun hs.disc⟩
  | offTimer c hst hp ht =>
    exact hs.finish_of_state (c := c) (by rw [hst]; exact ⟨nofun, nofun⟩)
      (hs.agrees.restAsks hp ((hs.fits c).restEnds hp) hp rfl)
      ((plannerOnly_setChan s c _).trans (plannerOnly_askSlot _ c)).disc _ _
  | onTimer c hst hp =>
    exact hs.finish_of_state (c := c) (by rw [hst]; exact ⟨nofun, nofun⟩) (hs.agrees.endRun hp) (plannerOnly_endRun s c).disc _ _
  | check c r h =>
    have hrun := hs.run_of_state (c := c) (by rw [h]; exact ⟨nofun, nofun⟩)
    have hset := hs.agrees.setChan ((hs.fits c).checked h (checkResultOf r)) rfl .rfl (by simp [h])
    exact ⟨hset, hs.served, State.deviceOk_of_run hrun hs.disc⟩
  | excess h => exact hs.excessEnds h
  | restoreQuiet => exact hs.stopQuiet.settles _
  | idle n h => exact hs.idleExpiry n ((State.idleDue_iff s n).1 h).2.2
  | overtaken n hd => exact hs.overtakenExpiry n hd
  | auxRaw n level => exact hs
  | acquired n => exact hs
  | transition n =>
    have haux : (s.setAuxIn n { s.aux[n] with level := some s.aux[n].raw, stability := none }).Sound := hs
    exact haux.transition n _
  | @disconnect u rest =>
    have hmail : (s.setDisconnectMail rest).Sound := hs
    exact hmail.disconnectTakes u
  | pulseEnd h => exact hs.endPulse h
  | pulseEndEntersRun h => exact hs.enterRunAtPulseEnd h
  | storeWrite p matched => exact hs

/-! ### The owners' parts -/

theorem switchTaken_overtaken_of_off (hs : s.AllOff) (c : Chan) (noted : Bool) : (s.switchTaken c noted).overtaken = s.overtaken := by
  unfold State.switchTaken State.panelActivity
  rw [State.activity_eq]
  unfold State.noteOvertaken
  rw [if_neg]
  intro h
  simp only [Bool.and_eq_true, decide_eq_true_eq] at h
  rcases hs.chans c with k | k <;> rw [k] at h <;> cases h.2

/-- R146: the activity of a SWITCH request. -/
theorem State.Sound.switchTaken (hs : s.Sound) (c : Chan) (noted : Bool) : (s.switchTaken c noted).Sound := by
  have hovertaken : s.disc.device ≠ .run → (s.switchTaken c noted).overtaken = s.overtaken := fun hd =>
    switchTaken_overtaken_of_off (hs.allOff hd) c noted
  have heq := State.switchTaken_eq s c noted
  generalize s.switchTaken c noted = u at heq hovertaken ⊢
  rw [heq]
  refine ⟨hs.agrees, hs.served, State.deviceOk_iff.2 ⟨fun hd => ?_, hs.disc⟩⟩
  exact (hs.allOff hd).of_kept rfl rfl rfl ⟨rfl, rfl⟩ (hovertaken hd)

theorem forceEntry_of_empty (h : s.standby.entries = []) (c : Chan) : s.forceEntry c = s := by
  unfold State.forceEntry State.entry?
  rw [h]
  rfl

theorem switchOff_of_off {c : Chan} (h : (s.chan c).state = .off ∨ (s.chan c).state = .locked) : s.switchOff c = s := by
  unfold State.switchOff
  rcases h with h | h <;> rw [h]

/-- R58: an accepted SET_CHANNEL outside RUN leaves everything off. -/
theorem State.ChannelEdited.allOff {c : Chan} {r : ChannelRec} (hs : s.AllOff) (h : s.ChannelEdited c r t) : t.AllOff := by
  have hset : (s.setCrec c r).AllOff := hs.of_kept rfl rfl rfl ⟨rfl, rfl⟩ rfl
  cases h with
  | deactivated hd hst => exact hset.setChan c (.inl rfl)
  | carried hd =>
    have hcarry : (s.setCrec c r).carryEdit c (s.crec c) r = s.setCrec c r := by
      unfold State.carryEdit
      rcases hset.chans c with k | k <;> rw [k] <;> rfl
    rw [hcarry]
    exact hset

/-- Every owner's part keeps a sound state sound. -/
theorem State.Owned.sound {ty : ReqType} (h : s.Owned ty t) (hstart : s.disc.device ≠ .start) (hs : s.Sound) : t.Sound := by
  cases h with
  | switched c noted => exact hs.switchTaken c noted
  | requested c noted forced hd hst =>
    have htaken := hs.switchTaken c noted
    have heq := State.switchTaken_eq s c noted
    have hrun : s.disc.device = .run := by
      cases h : s.disc.device with
      | start => exact absurd h hstart
      | run => rfl
      | isolated => exact absurd h hd
    generalize s.switchTaken c noted = u at htaken heq ⊢
    have hoff : (u.chan c).state = .off := by rw [heq]; exact hst
    have hdisc : u.disc = s.disc := by rw [heq]
    have hframe := (plannerOnly_setChan u c { u.chan c with state := .waiting }).trans
      (plannerOnly_insertEntry _ c .request forced)
    refine (htaken.agrees.request hoff forced).sound_finish (fun k => ?_) ?_ _ _
    · rw [State.request, hframe.disc, hdisc] at k
      exact absurd hrun k
    · rw [State.request, hframe.disc]
      exact htaken.disc
  | forced c noted forced =>
    have htaken := hs.switchTaken c noted
    generalize s.switchTaken c noted = u at htaken ⊢
    split
    · have hdisc := (plannerOnly_forceEntry u c).disc
      refine (htaken.agrees.forceEntry c).sound_finish (fun hd => ?_) (by rw [hdisc]; exact htaken.disc) _ _
      rw [hdisc] at hd
      rw [forceEntry_of_empty (htaken.allOff hd).entries]
      exact htaken.allOff hd
    · exact htaken.agrees.sound_finish htaken.allOff htaken.disc _ _
  | recalled c noted hst =>
    have htaken := hs.switchTaken c noted
    have heq := State.switchTaken_eq s c noted
    have hrun := hs.run_of_state (c := c) (by rw [hst]; exact ⟨nofun, nofun⟩)
    generalize s.switchTaken c noted = u at htaken heq ⊢
    have hchan : u.chan c = s.chan c := by rw [heq]; rfl
    have hdisc : u.disc = s.disc := by rw [heq]
    have hset := htaken.agrees.setChan (c := c) (ch := { s.chan c with intent := .waitRequest })
      ((hs.fits c).intends (i := .waitRequest) hst nofun (s.chan c).reason) (by rw [hchan]) (by rw [hchan]) (by rw [hchan])
    exact ⟨hset, htaken.served, State.deviceOk_of_run (by rw [State.setChan_disc, hdisc, hrun]) htaken.disc⟩
  | switchedOff c noted =>
    have htaken := hs.switchTaken c noted
    generalize s.switchTaken c noted = u at htaken ⊢
    have hdisc := (plannerOnly_switchOff u c).disc
    refine (htaken.agrees.switchOff c).sound_finish (fun hd => ?_) (by rw [hdisc]; exact htaken.disc) _ _
    rw [hdisc] at hd
    rw [switchOff_of_off ((htaken.allOff hd).chans c)]
    exact htaken.allOff hd
  | clearedLockout c hst =>
    have hset := hs.agrees.setChan ((hs.fits c).clearsLockout hst) rfl .rfl (by simp [hst])
    refine ⟨hset, hs.served, State.deviceOk_iff.2 ⟨fun hd => ?_, hs.disc⟩⟩
    exact (hs.allOff hd).setChan c (.inl rfl)
  | checks c hst hrun =>
    have hset := hs.agrees.setChan ((hs.fits c).checks hst checkMs) rfl .rfl (by simp [hst])
    exact ⟨hset, hs.served, State.deviceOk_of_run hrun hs.disc⟩
  | reconnected hd => exact hs.reconnect hd _
  | isolated => exact hs.agrees.isolate nofun
  | stored hd =>
    refine hs.setDisc ⟨by simp [hd], hs.disc.lastPulse, hs.disc.pulse, hs.disc.entry⟩ rfl
  | editedChannel c body raw u hraw hvalid hu =>
    have hagrees := hu.agrees hs.agrees
    have hdisc : u.disc = s.disc := (plannerOnly_channelEdited s hu).disc
    refine State.Agrees.sound_finish (s := u.bumpGeneration) hagrees (fun hd => ?_) ?_ _ _
    · change u.disc.device ≠ .run at hd
      rw [hdisc] at hd
      exact (hu.allOff (hs.allOff hd)).of_kept rfl rfl rfl ⟨rfl, rfl⟩ rfl
    · show u.disc.Fits
      rw [hdisc]
      exact hs.disc
  | editedLevel l body x =>
    refine State.Agrees.sound_finish (s := (s.setLevelTable x).cancelDwell.bumpGeneration) hs.agrees (fun hd => ?_) hs.disc _ _
    exact (hs.allOff hd).of_kept rfl rfl rfl ⟨rfl, rfl⟩ rfl
  | editedTimer n body raw =>
    refine ⟨hs.agrees, hs.served, State.deviceOk_iff.2 ⟨fun hd => ?_, hs.disc⟩⟩
    have hoff := hs.allOff hd
    refine ⟨hoff.chans, hoff.entries, hoff.slot, hoff.excess, hoff.overload, ?_⟩
    show s.overtaken.filter _ = []
    rw [hoff.overtaken]
    rfl
  | _ => exact hs

/-! ### The resets -/

theorem State.sound_of_planner {r : State} (h : r.PlannerOnly t) (hchan : t.chan = r.chan) (hslot : t.slot = r.slot)
    (hstandby : t.standby = r.standby) (hplanner : t.planner = r.planner) (hr : r.Sound) : t.Sound := by
  refine ⟨hr.agrees.of_kept h hchan hslot hstandby, hr.served.of_kept hslot (by rw [h.sag]), State.deviceOk_iff.2 ⟨fun hd => ?_, ?_⟩⟩
  · rw [h.disc] at hd
    exact (hr.allOff hd).of_kept hchan hstandby hslot ⟨by rw [hplanner], by rw [hplanner]⟩ h.overtaken
  · rw [h.disc]
    exact hr.disc

theorem powerOnBlocks_chan (straps : Straps) (service : Bool) (c : Chan) :
    (s.powerOnBlocks straps service).chan c = Channel.initial := by
  show (Vector.replicate 16 Channel.initial)[c] = _
  simp

theorem powerOnBlocks_sound (straps : Straps) (service : Bool) : (s.powerOnBlocks straps service).Sound := by
  have hoff : ∀ c, ((s.powerOnBlocks straps service).chan c).state = .off ∨ ((s.powerOnBlocks straps service).chan c).state = .locked :=
    fun c => by
      rw [powerOnBlocks_chan]
      exact .inl rfl
  refine ⟨agrees_of_isolated (fun c => ?_) hoff rfl rfl (show 0 < 256 by decide), State.served_of_empty rfl,
    State.AllOff.deviceOk ⟨hoff, rfl, rfl, rfl, rfl, rfl⟩
      ⟨⟨fun _ => nofun, fun _ => rfl⟩, ⟨nofun, nofun⟩, ?_, nofun⟩⟩
  · rw [powerOnBlocks_chan]
    exact Channel.initial_fits
  · intro p hp
    change some (PulseKind.closeRelay, pulseMs) = some p at hp
    rw [Option.some.injEq] at hp
    rw [← hp]
    rfl

theorem Channel.Fits.afterBrownout {ch : Channel} (h : ch.Fits) (r : ChannelRec) : (ch.afterBrownout r).Fits := by
  unfold Channel.afterBrownout
  split
  · rename_i hst
    simp only [Bool.and_eq_true, decide_eq_true_eq] at hst
    exact h.deactivated (.inr hst.1)
  · exact h

theorem Channel.afterBrownout_state {ch : Channel} (h : ch.state = .off ∨ ch.state = .locked) (r : ChannelRec) :
    (ch.afterBrownout r).state = .off ∨ (ch.afterBrownout r).state = .locked := by
  unfold Channel.afterBrownout
  split
  · exact .inl rfl
  · exact h

theorem brownoutIsolation_chan (c : Chan) :
    s.brownoutIsolation.chan c = (s.chan c).isolated.afterBrownout (s.crec c) := by
  have hmap := (s.isolateBlocks.isolateUnit .brownout).chan_mapChans (fun c ch => ch.afterBrownout (s.crec c)) c
  unfold State.brownoutIsolation
  dsimp only
  generalize State.mapChans (s.isolateBlocks.isolateUnit .brownout) (fun c ch => ch.afterBrownout (s.crec c)) = cut at hmap ⊢
  refine hmap.trans ?_
  exact congrArg (fun ch : Channel => ch.afterBrownout (s.crec c)) (isolateBlocks_chan c)

theorem brownoutIsolation_slot : s.brownoutIsolation.slot = ⟨none, []⟩ := by
  have hmap := (s.isolateBlocks.isolateUnit .brownout).mapChans_slot (fun c ch => ch.afterBrownout (s.crec c))
  unfold State.brownoutIsolation
  dsimp only
  generalize State.mapChans (s.isolateBlocks.isolateUnit .brownout) (fun c ch => ch.afterBrownout (s.crec c)) = cut at hmap ⊢
  exact hmap.trans isolateBlocks_slot

theorem brownoutIsolation_planner : s.brownoutIsolation.planner = ⟨none, none, false⟩ := by
  have hmap := (s.isolateBlocks.isolateUnit .brownout).mapChans_planner (fun c ch => ch.afterBrownout (s.crec c))
  unfold State.brownoutIsolation
  dsimp only
  generalize State.mapChans (s.isolateBlocks.isolateUnit .brownout) (fun c ch => ch.afterBrownout (s.crec c)) = cut at hmap ⊢
  exact hmap.trans isolateBlocks_planner

theorem brownoutIsolation_standby : s.brownoutIsolation.standby =
    ⟨[], if s.standby.entries = [] then s.standby.version else nextVersion s.standby.version⟩ := by
  have hmap := (s.isolateBlocks.isolateUnit .brownout).mapChans_standby (fun c ch => ch.afterBrownout (s.crec c))
  unfold State.brownoutIsolation
  dsimp only
  generalize State.mapChans (s.isolateBlocks.isolateUnit .brownout) (fun c ch => ch.afterBrownout (s.crec c)) = cut at hmap ⊢
  exact hmap.trans isolateBlocks_standby

theorem brownoutIsolation_fits (hfits : ∀ c, (s.chan c).Fits) (c : Chan) : (s.brownoutIsolation.chan c).Fits := by
  rw [brownoutIsolation_chan]
  exact (hfits c).isolated.afterBrownout _

theorem brownoutIsolation_off (c : Chan) :
    (s.brownoutIsolation.chan c).state = .off ∨ (s.brownoutIsolation.chan c).state = .locked := by
  rw [brownoutIsolation_chan]
  exact Channel.afterBrownout_state (Channel.isolated_state _) _

/-- R164: the isolation of a BROWNOUT. -/
theorem brownoutIsolation_sound (hfits : ∀ c, (s.chan c).Fits) (hversion : s.standby.version < 256) :
    s.brownoutIsolation.Sound := by
  have hframe := plannerOnly_brownoutIsolation s
  have hslot := brownoutIsolation_slot (s := s)
  have hplanner := brownoutIsolation_planner (s := s)
  have hstandby := brownoutIsolation_standby (s := s)
  have hf := brownoutIsolation_fits hfits
  have hoff := brownoutIsolation_off (s := s)
  have hunit := isolateUnit_fits (s := s) (r := .brownout) nofun
  have hdisc : s.brownoutIsolation.disc.Fits := by
    rw [hframe.disc]
    exact ⟨hunit.reason, hunit.lastPulse, hunit.pulse, hunit.entry⟩
  generalize s.brownoutIsolation = t at hframe hslot hplanner hstandby hf hoff hdisc ⊢
  have hentries : t.standby.entries = [] := by rw [hstandby]
  refine ⟨agrees_of_isolated hf hoff hslot hentries ?_, State.served_of_empty (by rw [hslot]),
    State.AllOff.deviceOk ⟨hoff, hentries, hslot, by rw [hplanner], by rw [hplanner], hframe.overtaken⟩ hdisc⟩
  rw [hstandby]
  exact emptied_version_lt hversion

/-- R139: a channel that a RESTART does not keep is OFF or LOCKED. -/
theorem Channel.afterRestart_state (ch : Channel) {r : ChannelRec} (h : ¬(r.rank = 0 ∧ r.active = true)) :
    (ch.afterRestart r).state = .off ∨ (ch.afterRestart r).state = .locked := by
  unfold Channel.afterRestart
  split
  · rename_i hrank
    split
    · rename_i hactive
      exact absurd ⟨hrank, hactive⟩ h
    · exact .inl rfl
  · split
    · split
      · exact .inr ‹_›
      · exact .inl rfl
    · exact .inl ‹_›
    all_goals exact .inl rfl

theorem Channel.afterRestart_of_kept (ch : Channel) {r : ChannelRec} (hrank : r.rank = 0) (hactive : r.active = true) :
    ch.afterRestart r = ch := by
  unfold Channel.afterRestart
  rw [if_pos hrank, if_pos hactive]

theorem Channel.Fits.afterRestart {ch : Channel} (h : ch.Fits) (r : ChannelRec) : (ch.afterRestart r).Fits := by
  unfold Channel.afterRestart
  split
  · split
    · exact h
    · obtain ⟨h1, h2, h3, h4, h5, h6, h7, h8, h9, h10, h11, h12, h13, h14, h15⟩ := h.stopped .deactivated
      exact ⟨h1, h2, h3, h4, h5, h6, h7, h8, h9, h10, h11, h12, h13, h14, h15⟩
  · split
    · split
      · exact h
      · exact h.deactivated (.inr ‹_›)
    · exact h
    all_goals exact h.stopped .restart

theorem Plan.keeps_iff (p : Plan) (c : Chan) : p.keeps c = true ↔ p.channels[c].rank = 0 ∧ p.channels[c].active = true := by
  simp only [Plan.keeps, Bool.and_eq_true, decide_eq_true_eq]

/-- R111: the list after a RESTART. -/
theorem Standby.Fits.afterRestart {l : Standby} {rank : Chan → Nat} {pending : Bool} (h : l.Fits rank pending) (p : Plan)
    (rank' : Chan → Nat) (hrank : ∀ c, rank' c = p.channels[c].rank) : (l.afterRestart p).Fits rank' false := by
  have hrank' : rank' = fun c => p.channels[c].rank := funext hrank
  have honce : (((l.entries.filter fun e => p.keeps e.channel).map fun e => { e with held := false }).map (·.channel)).Nodup := by
    rw [List.map_map]
    exact h.once.sublist (List.filter_sublist.map _)
  have hperm := sortEntries_perm (fun c => p.channels[c].rank)
    ((l.entries.filter fun e => p.keeps e.channel).map fun e => { e with held := false })
  refine ⟨?_, ?_, ?_, ?_⟩
  · exact (hperm.map (·.channel)).nodup_iff.2 honce
  · rw [hrank']
    exact sortEntries_ordered _ _ honce
  · intro e he hheld
    obtain ⟨x, -, rfl⟩ := List.mem_map.1 (hperm.mem_iff.1 he)
    cases hheld
  · unfold Standby.afterRestart
    dsimp only
    split
    · exact h.version
    · exact nextVersion_lt _

theorem Standby.lists_afterRestart (l : Standby) (p : Plan) (d : Chan) :
    (l.afterRestart p).Lists d ↔ p.keeps d = true ∧ l.Lists d := by
  have hperm := sortEntries_perm (fun c => p.channels[c].rank)
    ((l.entries.filter fun e => p.keeps e.channel).map fun e => { e with held := false })
  unfold Standby.Lists Standby.afterRestart
  rw [(hperm.map (·.channel)).mem_iff, List.map_map]
  simp only [List.mem_map, List.mem_filter, Function.comp_apply]
  constructor
  · rintro ⟨e, ⟨he, hk⟩, rfl⟩
    exact ⟨hk, e, he, rfl⟩
  · rintro ⟨hk, e, he, rfl⟩
    exact ⟨e, ⟨he, hk⟩, rfl⟩

theorem restartBlocks_chan (p : Plan) (c : Chan) : (s.restartBlocks p).chan c = (s.chan c).afterRestart p.channels[c] := by
  unfold State.restartBlocks State.chan
  simp only [Fin.getElem_fin, Vector.getElem_ofFn]

/-- R92, R111, R139: what a RESTART leaves agrees. -/
theorem State.Agrees.restartBlocks (hs : s.Agrees) (p : Plan) : (s.restartBlocks p).Agrees := by
  refine ⟨fun c => ?_, hs.once.filter _, hs.list.afterRestart p _ fun c => rfl⟩
  have hold := hs.placed c
  rw [restartBlocks_chan]
  by_cases hk : p.keeps c = true
  · obtain ⟨hrank, hactive⟩ := (p.keeps_iff c).1 hk
    rw [Channel.afterRestart_of_kept _ hrank hactive]
    refine ⟨hold.fits, ?_, ?_, ?_⟩
    · show s.slot.holder.filter p.keeps = some c ↔ _
      rw [Option.filter_eq_some_iff, ← hold.holder]
      simp [hk]
    · show c ∈ s.slot.waiting.filter p.keeps ↔ _
      rw [List.mem_filter, ← hold.waiting]
      simp [hk]
    · exact (Standby.lists_afterRestart s.standby p c).trans (by rw [← hold.entry]; simp [hk])
  · have hnot := mt (p.keeps_iff c).2 hk
    refine (hold.fits.afterRestart _).placed_of_off (Channel.afterRestart_state _ hnot) ?_ ?_ ?_
    · show s.slot.holder.filter p.keeps ≠ some c
      rw [ne_eq, Option.filter_eq_some_iff]
      exact fun h => hk h.2
    · show c ∉ s.slot.waiting.filter p.keeps
      rw [List.mem_filter]
      exact fun h => hk h.2
    · rw [show (s.restartBlocks p).standby = s.standby.afterRestart p from rfl, Standby.lists_afterRestart]
      exact fun h => hk h.1

theorem State.Agrees.realign (hs : s.Agrees) (old : Plan) (cs : List Chan) : (s.realign old cs).Agrees := by
  induction cs generalizing s with
  | nil => exact hs
  | cons c cs ih =>
    unfold State.realign
    split
    · rename_i h
      simp only [Bool.and_eq_true, decide_eq_true_eq] at h
      exact ih (hs.editUnthrottle h.1)
    · exact ih hs

/-- R139: outside RUN a RESTART leaves everything off. -/
theorem State.AllOff.restartBlocks (hs : s.AllOff) (p : Plan) : (s.restartBlocks p).AllOff := by
  refine ⟨fun c => ?_, ?_, ?_, rfl, rfl, rfl⟩
  · rw [restartBlocks_chan]
    by_cases hk : p.channels[c].rank = 0 ∧ p.channels[c].active = true
    · rw [Channel.afterRestart_of_kept _ hk.1 hk.2]
      exact hs.chans c
    · exact Channel.afterRestart_state _ hk
  · show (s.standby.afterRestart p).entries = []
    unfold Standby.afterRestart
    rw [hs.entries]
    rfl
  · show s.slot.afterRestart p = _
    rw [hs.slot]
    rfl

theorem State.AllOff.realign (hs : s.AllOff) (old : Plan) (cs : List Chan) : s.realign old cs = s := by
  induction cs with
  | nil => rfl
  | cons c cs ih =>
    unfold State.realign
    rw [if_neg]
    · exact ih
    · intro h
      simp only [Bool.and_eq_true, decide_eq_true_eq] at h
      rcases hs.chans c with k | k <;> rw [k] at h <;> cases h.1

theorem Disconnect.Fits.restart {d : Disconnect} (h : d.Fits) : Disconnect.Fits { d with isolateCount := 0, chargeCount := 0 } :=
  ⟨h.reason, h.lastPulse, h.pulse, h.entry⟩

/-- R197: a RESTART. -/
theorem State.Sound.restart (hs : s.Sound) : s.restart.Sound := by
  have hframe := plannerOnly_restarted s
  have hring : s.restarted = { s.restartBlocks (loadPlan s.store.image s.sys.straps).plan with ring := s.restarted.ring } := by
    unfold State.restarted
    rw [State.pushAll_eq, State.pushAll_eq]
    rfl
  have hagrees : s.restarted.Agrees := by
    rw [hring]
    exact hs.agrees.restartBlocks _
  have hoff : s.disc.device ≠ .run → s.restarted.AllOff := fun hd => by
    rw [hring]
    exact ((hs.allOff hd).restartBlocks _).of_kept rfl rfl rfl ⟨rfl, rfl⟩ rfl
  have hdisc : (s.restarted.realign s.plan allChans).disc = { s.disc with isolateCount := 0, chargeCount := 0 } :=
    (plannerOnly_realign s.restarted s.plan allChans).disc.trans hframe.disc
  rw [State.restart_eq]
  refine (hagrees.realign s.plan allChans).sound_settle (fun hd => ?_) (by rw [hdisc]; exact hs.disc.restart) true
  rw [hdisc] at hd
  rw [(hoff hd).realign]
  exact hoff hd

theorem State.ResetTo.sound {i : Instr} (h : s.ResetTo i t) (hs : s.Sound) : t.Sound := by
  cases h with
  | powerOn straps service =>
    refine State.sound_of_planner ((plannerOnly_push _ _ _ _ _).trans (plannerOnly_pushAll _ _)) ?_ ?_ ?_ ?_
      (powerOnBlocks_sound straps service) <;>
    · rw [State.powerOn, State.pushAll_eq]
      rfl
  | brownout straps =>
    have hblocks : (s.brownoutSystem straps).brownoutIsolation.Sound :=
      brownoutIsolation_sound hs.fits hs.agrees.list.version
    refine State.sound_of_planner (((plannerOnly_push _ _ _ _ _).trans (plannerOnly_pushAll _ _)).trans
      (plannerOnly_push _ _ _ _ _)) ?_ ?_ ?_ ?_ hblocks <;>
    · rw [State.brownout, State.pushAll_eq]
      rfl
  | restart => exact hs.restart

/-! ### A millisecond -/

theorem tick_chan (c : Chan) : s.tick.chan c = (s.chan c).tick := by
  unfold State.tick State.chan
  simp only [Fin.getElem_fin, Vector.getElem_ofFn]

theorem State.Agrees.tick (hs : s.Agrees) : s.tick.Agrees := by
  refine ⟨fun c => ?_, hs.once, hs.list⟩
  have hold := hs.placed c
  rw [tick_chan]
  refine ⟨hold.fits.tick, hold.holder.trans ?_, hold.waiting.trans ?_, hold.entry⟩
  · rw [Channel.tick, Inrush.isOpen_tick]
  · rw [Channel.tick, Timer.tick_eq_none]

theorem Disconnect.Fits.tick {d : Disconnect} (h : d.Fits) :
    Disconnect.Fits { d with pulse := d.pulse.map fun p => (p.1, p.2 - 1) } := by
  refine ⟨h.reason, h.lastPulse, fun p hp => ?_, fun k => ?_⟩
  · obtain ⟨x, hx, rfl⟩ := Option.mem_map.1 hp
    exact h.pulse x hx
  · obtain ⟨hd, hp⟩ := h.entry k
    exact ⟨hd, by rw [Option.isSome_map, hp]⟩

theorem State.AllOff.tick (hs : s.AllOff) : s.tick.AllOff := by
  refine ⟨fun c => ?_, hs.entries, hs.slot, ?_, hs.overload, rfl⟩
  · rw [tick_chan]
    exact hs.chans c
  · show Timer.tick s.planner.excess = none
    rw [hs.excess]
    rfl

theorem State.Sound.tick (hs : s.Sound) : s.tick.Sound :=
  ⟨hs.agrees.tick, hs.served, State.deviceOk_iff.2 ⟨fun hd => (hs.allOff hd).tick, hs.disc.tick⟩⟩

/-! ### Every step -/

/-- Every step keeps the coherence of the blocks. -/
theorem State.Coherent.step (hs : s.Coherent) (h : Machine.step s = .next t) : t.Coherent := by
  rw [State.coherent_iff] at hs ⊢
  refine step_preserves (P := fun s => s.SagOk ∧ s.Sound) (fun _ _ h => h) (fun _ h => ⟨State.tick_sagOk h.1, h.2.tick⟩) ?_ hs h
  intro i s t hs h
  exact exec_preserves (P := fun s => s.SagOk ∧ s.Sound) (fun _ _ _ h => h)
    (fun ty body s hs hstart _ => ⟨(ty.owned body s).sagOk hs.1, (ty.owned body s).sound hstart hs.2⟩)
    (fun _ _ _ hs h => ⟨h.sagOk hs.1, h.sound hs.2⟩) (fun _ _ _ hs h => ⟨h.block.sagOk hs.1, h.sound hs.1 hs.2⟩) hs h

end

/-- Settles O13: the items of a channel follow its state as a part of the coherence that every step keeps. -/
theorem channelItemsFollowTheState : Obligations.ChannelItemsFollowTheState :=
  fun _ _ hs h => (hs.step h).channels

/-- Settles O14. -/
theorem slotFollowsTheChannels : Obligations.SlotFollowsTheChannels :=
  fun _ _ hs h => (hs.step h).slot

/-- Settles O15. -/
theorem standbyListMatchesWaiting : Obligations.StandbyListMatchesWaiting :=
  fun _ _ hs h => (hs.step h).standby

/-- Settles O16. -/
theorem outsideRunEverythingIsOff : Obligations.OutsideRunEverythingIsOff :=
  fun _ _ hs h => (hs.step h).device

end Sys2Proof.Machine
end

section
/-!
PROOF. The reset state, a millisecond, and the bytes on the line (R166 to R170, R196, R198).
-/

namespace Sys2Proof.Machine

section
variable {s t : State}

/-! ### The reset state -/

theorem reset_chan (c : Chan) : State.reset.chan c = Channel.initial := by
  show (Vector.replicate 16 Channel.initial)[c] = _
  simp

theorem reset_coherent : State.reset.Coherent := by
  have hoff : ∀ c, (State.reset.chan c).state = .off ∨ (State.reset.chan c).state = .locked := fun c => by
    rw [reset_chan]
    exact .inl rfl
  refine State.coherent_iff.2 ⟨State.sagOk_of_initial rfl fun _ => rfl, agrees_of_isolated (fun c => ?_) hoff rfl rfl (by decide),
    State.served_of_empty rfl,
    State.AllOff.deviceOk ⟨hoff, rfl, rfl, rfl, rfl, rfl⟩ ⟨by decide, by decide, by decide, by decide⟩⟩
  rw [reset_chan]
  exact Channel.initial_fits

end

/-- Settles O5. -/
theorem resetIsOk : Obligations.ResetIsOk where
  plan := factoryPlan_fitsStraps Config.resetStraps
  estimator := by decide
  uptime := by decide
  ring := by decide
  level := by decide
  sag := reset_coherent.sag
  idle := by decide
  channels := reset_coherent.channels
  slot := reset_coherent.slot
  standby := reset_coherent.standby
  device := reset_coherent.device
  link := by decide

/-! ### A millisecond -/

section
variable {s t : State}

theorem Channel.tick_eq_fallen (ch : Channel) : ch.tick =
    { ch with
      inrush := match ch.inrush with | .timed r => .timed r.fallen | w => w
      offTimer := ch.offTimer.map Run.fallen, onTimer := ch.onTimer.map Run.fallen
      rundownTimer := ch.rundownTimer.map Run.fallen, retryTimer := ch.retryTimer.map Run.fallen
      goodRun := ch.goodRun.map Run.fallen, checkTimer := ch.checkTimer.map Run.fallen } := by
  unfold Channel.tick
  cases ch.inrush <;> rfl

/-- R198: while uptime is a number of 32 bits, the milliseconds of a second stay below 1000. -/
theorem Startup.tick_eq {x : Startup} (h : x.msec < 1000) : x.tick =
    { x with
      uptime := if x.msec = 999 then min 4294967295 (x.uptime + 1) else x.uptime
      msec := if x.msec = 999 then 0 else x.msec + 1 } := by
  unfold Startup.tick
  by_cases hm : x.msec = 999
  · rw [if_neg (by omega), if_pos hm, if_pos hm]
    rfl
  · rw [if_pos (by omega), if_neg hm, if_neg hm]

theorem secondEnds_iff (h : s.sys.msec < 1000) : s.secondEnds = true ↔ s.sys.msec = 999 := by
  unfold State.secondEnds
  rw [decide_eq_true_eq]
  omega

theorem tick_idle (h : s.sys.msec < 1000) (n : TimerIx) : s.tick.idle[n].state = s.idle[n].state ∧ s.tick.idle[n].count =
    if s.sys.msec = 999 ∧ s.disc.device = .run ∧ s.idle[n].state = .running then s.idle[n].count - 1 else s.idle[n].count := by
  have hidle : s.tick.idle[n] = if s.sys.msec = 999 ∧ s.disc.device = .run then s.idle[n].second else s.idle[n] := by
    unfold State.tick
    simp only [Bool.and_eq_true, decide_eq_true_eq, secondEnds_iff h]
    split <;> simp only [Fin.getElem_fin, Vector.getElem_ofFn]
  rw [hidle]
  unfold IdleTimer.second
  by_cases hrun : s.idle[n].state = .running <;> by_cases hend : s.sys.msec = 999 ∧ s.disc.device = .run
  · rw [if_pos hend, if_pos hrun, if_pos ⟨hend.1, hend.2, hrun⟩]
    exact ⟨rfl, rfl⟩
  · rw [if_neg hend, if_neg fun k => hend ⟨k.1, k.2.1⟩]
    exact ⟨rfl, rfl⟩
  · rw [if_pos hend, if_neg hrun, if_neg fun k => hrun k.2.2]
    exact ⟨rfl, rfl⟩
  · rw [if_neg hend, if_neg fun k => hrun k.2.2]
    exact ⟨rfl, rfl⟩

theorem tick_aux (n : AuxIx) : s.tick.aux[n] = { s.aux[n] with stability := s.aux[n].stability.map Run.fallen } := by
  unfold State.tick
  simp only [Fin.getElem_fin, Vector.getElem_ofFn]
  rfl

end

/-- Settles O2. -/
theorem emptyQueueLetsAMillisecondPass : Obligations.EmptyQueueLetsAMillisecondPass := by
  intro s hup hpending
  refine ⟨s.tick, by unfold step; rw [hpending], ?_, fun c => ?_, tick_idle hup.2, tick_aux⟩
  · have hsys := Startup.tick_eq hup.2
    unfold State.tick
    rw [hsys]
    rfl
  · rw [tick_chan]
    exact (s.chan c).tick_eq_fallen

/-! ### Bytes -/

section
variable {s t : State}

theorem setRx_setRx (rx rx' : RxState) (b b' : List Byte) : (s.setRx rx b).setRx rx' b' = s.setRx rx' b' := rfl

/-- R166: a byte short of the length byte is appended. -/
theorem appendByte_of_short {b : Byte} (h : s.link.buffer.length < 5) :
    s.appendByte b = s.setRx .receiving (s.link.buffer ++ [b]) := by
  unfold State.appendByte
  dsimp only
  rw [if_neg (by simp; omega), if_neg (by simp; omega)]

/-- R166: the length byte. -/
theorem appendByte_of_length {b : Byte} (h : s.link.buffer.length = 5) :
    s.appendByte b = if 56 < b.toNat then s.setRx .skip [] else s.setRx .receiving (s.link.buffer ++ [b]) := by
  unfold State.appendByte
  dsimp only
  have hlen : (s.link.buffer ++ [b]).length = 6 := by simp [h]
  rw [hlen]
  by_cases hb : 56 < b.toNat
  · rw [if_pos hb, if_pos (by simp [hb])]
  · rw [if_neg hb, if_neg (by simp [hb]), if_neg (by omega)]

/-- R166: a byte after the length byte, short of the whole frame. -/
theorem appendByte_of_inside {b : Byte} (h : 6 ≤ s.link.buffer.length)
    (hshort : s.link.buffer.length + 1 < 8 + (s.link.buffer.getD 5 0).toNat) :
    s.appendByte b = s.setRx .receiving (s.link.buffer ++ [b]) := by
  unfold State.appendByte
  dsimp only
  rw [getD_append_of_lt (b := b) (by omega : 5 < s.link.buffer.length), List.length_append, List.length_singleton]
  rw [if_neg (by simp; omega), if_neg (by omega)]

/-- R166: the byte that completes a frame. -/
theorem appendByte_of_complete {b : Byte} (h : 6 ≤ s.link.buffer.length)
    (hwhole : 8 + (s.link.buffer.getD 5 0).toNat ≤ s.link.buffer.length + 1) :
    s.appendByte b = s.frameComplete (s.link.buffer ++ [b]) := by
  unfold State.appendByte
  dsimp only
  rw [getD_append_of_lt (b := b) (by omega : 5 < s.link.buffer.length), List.length_append, List.length_singleton]
  rw [if_neg (by simp; omega), if_pos hwhole]

/-- R166: what a buffer that is a frame holds. -/
theorem whole_of_parseFrame {buf : List Byte} {f : Frame} (h : parseFrame buf = some f) :
    8 + (buf.getD 5 0).toNat = buf.length := by
  unfold parseFrame at h
  split at h
  · split at h
    · rename_i hall
      simp only [Bool.and_eq_true, decide_eq_true_eq] at hall
      simp only [List.getD_cons_succ, List.getD_cons_zero, List.length_cons, hall.2]
      omega
    · cases h
  · cases h

/-- R168: the tests that a frame fails. -/
theorem acceptsFrame_of_fails {f : Frame}
    (h : f.checkPasses = false ∨ f.dst ≠ linkAddress s.sys.straps ∨ f.src.toNat < 0x40 ∨ 0x47 < f.src.toNat) :
    s.acceptsFrame f = false := by
  unfold State.acceptsFrame fromPanel
  rcases h with h | h | h | h
  · simp [h]
  · simp [h]
  · simp [Nat.not_le.2 h]
  · simp [Nat.not_le.2 h]

theorem frameComplete_of_fails {buf : List Byte} {f : Frame} (hparse : parseFrame buf = some f)
    (h : s.acceptsFrame f = false) : s.frameComplete buf = s.setRx .skip [] := by
  unfold State.frameComplete
  rw [hparse]
  dsimp only
  rw [h]
  rfl

theorem receiveByte_of_receiving {b : Byte} (h : s.link.rx = .receiving) : s.receiveByte b false = s.appendByte b := by
  unfold State.receiveByte
  rw [h]
  rfl

end

/-- Settles O21, by the arms of the four events. -/
theorem replyIsSentAndTheLineRests : Obligations.ReplyIsSentAndTheLineRests := by
  refine ⟨fun s f h => ?_, fun s f h => ?_, fun s h hrx => ?_, fun s h hrx => ?_⟩
  · show Host.Outcome.next _ = _
    rw [h]
  · show Host.Outcome.next _ = _
    rw [h]
    rfl
  · show Host.Outcome.next _ = _
    rw [if_pos h]
    rcases hrx with hrx | hrx <;> rw [hrx]
  · show Host.Outcome.next _ = _
    rw [if_pos h]
    rcases hrx with hrx | hrx <;> rw [hrx]

/-- Settles O22, by the receiver's state. -/
theorem bytesAndRejectedFramesMoveTheReceiver : Obligations.BytesAndRejectedFramesMoveTheReceiver := by
  refine ⟨fun s b err sv h => ?_, fun s b err sv h => ?_, fun s b err sv h => ?_, fun s b err sv h hlen => ?_,
    fun s b sv h hlen => ?_, fun s b sv h hlen hshort => ?_, fun s b sv h => ?_, fun s b sv f h hparse hfails => ?_,
    fun s frame f hparse hfails => ?_⟩
  all_goals refine congrArg Host.Outcome.next ?_
  · unfold State.receiveByte
    rw [show (s.setService sv).link.rx = .idle from h]
    by_cases hb : b = 0xC3 ∧ err = false
    · rw [if_pos hb]
      dsimp only
      rw [if_pos (by simp [hb])]
      rfl
    · rw [if_neg hb]
      dsimp only
      rw [if_neg (by simpa using hb)]
      rfl
  · unfold State.receiveByte
    rw [show (s.setService sv).link.rx = .skip from h]
    rfl
  · unfold State.receiveByte
    rw [show (s.setService sv).link.rx = .hold from h]
    rfl
  · cases err
    · rw [receiveByte_of_receiving (s := s.setService sv) h, appendByte_of_short (s := s.setService sv) hlen]
      rfl
    · unfold State.receiveByte
      rw [show (s.setService sv).link.rx = .receiving from h]
      rfl
  · rw [receiveByte_of_receiving (s := s.setService sv) h, appendByte_of_length (s := s.setService sv) hlen]
    split <;> rfl
  · rw [receiveByte_of_receiving (s := s.setService sv) h, appendByte_of_inside (s := s.setService sv) hlen hshort]
    rfl
  · unfold State.receiveByte
    rw [show (s.setService sv).link.rx = .receiving from h]
    rfl
  · have hwhole := whole_of_parseFrame hparse
    rw [List.length_append, List.length_singleton] at hwhole
    have hlen : 6 ≤ s.link.buffer.length := by omega
    rw [getD_append_of_lt (b := b) (by omega : 5 < s.link.buffer.length)] at hwhole
    rw [receiveByte_of_receiving (s := s.setService sv) h, appendByte_of_complete (s := s.setService sv) hlen hwhole.le,
      show (s.setService sv).link.buffer = s.link.buffer from rfl,
      frameComplete_of_fails (s := s.setService sv) hparse (acceptsFrame_of_fails (s := s.setService sv) hfails)]
    rfl
  · rw [hparse]
    dsimp only
    rw [acceptsFrame_of_fails hfails, if_neg Bool.false_ne_true]
    by_cases hrx : s.link.rx = .hold
    · rw [if_pos hrx, if_pos hrx]
      rfl
    · rw [if_neg hrx, if_neg hrx]
      rfl

/-! ### A whole frame -/

section
variable {s t : State}

theorem frameOf_length (dst src tag ty : Byte) (body : List Byte) : (frameOf dst src tag ty body).length = 8 + body.length := by
  simp [frameOf, u16]
  omega

theorem frameOf_lengthByte {body : List Byte} (dst src tag ty : Byte) (h : body.length ≤ 56) :
    ((frameOf dst src tag ty body).getD 5 0).toNat = body.length := by
  simp [frameOf]
  omega

theorem beNat_u16 {r : Nat} (h : r < 65536) : beNat (u16 r) = r := by
  have := beNat_take_u16 h []
  rwa [List.append_nil, List.take_of_length_le (by simp [u16])] at this

/-- R167: a frame that is sent is read back. -/
theorem parseFrame_frameOf {body : List Byte} (dst src tag ty : Byte) (h : body.length ≤ 56) :
    parseFrame (frameOf dst src tag ty body) =
      some ⟨dst, src, tag, ty, body, crc ([dst, src, tag, ty, BitVec.ofNat 8 body.length] ++ body)⟩ := by
  have hn : (BitVec.ofNat 8 body.length).toNat = body.length := by simp; omega
  unfold frameOf parseFrame
  simp only [List.cons_append, List.nil_append, hn]
  rw [if_pos (by simp [u16, h]), List.take_left, List.drop_left, beNat_u16 (BitVec.isLt _)]
  simp

theorem fromPanel_panelAddress (n : Fin 8) : fromPanel (panelAddress n) = true := by revert n; decide

/-- R168: the whole frame of a panel device's request is taken. -/
theorem frameComplete_frameOf (p : Peer) (ty : Byte) {body : List Byte} (h : body.length ≤ 56)
    (hrestart : s.sys.restartPending = false) :
    s.frameComplete (frameOf (linkAddress s.sys.straps) (panelAddress p.panel) p.tag ty body) =
      s.takeRequest (panelAddress p.panel) p.tag ty body := by
  unfold State.frameComplete
  rw [parseFrame_frameOf _ _ _ _ h]
  have haccept : s.acceptsFrame ⟨linkAddress s.sys.straps, panelAddress p.panel, p.tag, ty, body,
      crc ([linkAddress s.sys.straps, panelAddress p.panel, p.tag, ty, BitVec.ofNat 8 body.length] ++ body)⟩ = true := by
    simp [State.acceptsFrame, Frame.checkPasses, fromPanel_panelAddress]
  dsimp only
  rw [haccept, hrestart]
  rfl

theorem getD_append {buf : List Byte} (rest : List Byte) {n : Nat} (h : n < buf.length) :
    (buf ++ rest).getD n 0 = buf.getD n 0 := by
  rw [List.getD_eq_getElem?_getD, List.getD_eq_getElem?_getD, List.getElem?_append_left h]

/-- R166: a buffer that begins a frame and takes its next byte, short of the last. -/
theorem appendByte_of_prefix {frame buf rest : List Byte} {b : Byte} (hbuf : s.link.buffer = buf)
    (hframe : buf ++ b :: rest = frame) (hrest : rest ≠ []) (hn : (frame.getD 5 0).toNat ≤ 56)
    (hlen : frame.length = 8 + (frame.getD 5 0).toNat) : s.appendByte b = s.setRx .receiving (buf ++ [b]) := by
  have hpos := List.length_pos_iff.2 hrest
  have htotal : buf.length + (rest.length + 1) = frame.length := by rw [← hframe]; simp
  rcases Nat.lt_trichotomy buf.length 5 with h | h | h
  · rw [appendByte_of_short (by rwa [hbuf]), hbuf]
  · have hb : frame.getD 5 0 = b := by rw [← hframe, ← h]; simp
    rw [appendByte_of_length (by rwa [hbuf]), hbuf, if_neg (by rw [← hb]; omega)]
  · have hget : frame.getD 5 0 = buf.getD 5 0 := by rw [← hframe]; exact getD_append _ h
    rw [appendByte_of_inside (by rw [hbuf]; omega) (by rw [hbuf, ← hget]; omega), hbuf]

/-- R166: the rest of a frame, byte by byte. -/
theorem runCommands_frame {frame : List Byte} {service : Bool} (hn : (frame.getD 5 0).toNat ≤ 56)
    (hlen : frame.length = 8 + (frame.getD 5 0).toNat) (rest buf : List Byte) (hframe : buf ++ rest = frame) (hrest : rest ≠ []) :
    runCommands ((s.setService service).setRx .receiving buf) (rest.map fun b => .byteReceived b false service) =
      .next ((s.setService service).frameComplete frame) := by
  induction rest generalizing buf with
  | nil => exact absurd rfl hrest
  | cons b rest ih =>
    have hbyte : exec (.byteReceived b false service) ((s.setService service).setRx .receiving buf) =
        .next (((s.setService service).setRx .receiving buf).appendByte b) := rfl
    rw [List.map_cons, runCommands, hbyte]
    dsimp only
    by_cases hlast : rest = []
    · subst hlast
      have htotal : buf.length + 1 = frame.length := by rw [← hframe]; simp
      have hbuf : 5 < buf.length := by omega
      have hget : frame.getD 5 0 = buf.getD 5 0 := by rw [← hframe]; exact getD_append _ hbuf
      rw [appendByte_of_complete (s := (s.setService service).setRx .receiving buf) (show 6 ≤ buf.length by omega)
        (show 8 + (buf.getD 5 0).toNat ≤ buf.length + 1 by rw [← hget]; omega)]
      show Host.Outcome.next (State.frameComplete ((s.setService service).setRx .receiving buf) (buf ++ [b])) = _
      rw [hframe]
      rfl
    · rw [appendByte_of_prefix (s := (s.setService service).setRx .receiving buf) rfl hframe hlast hn hlen]
      exact ih (buf ++ [b]) (by rw [← hframe]; simp) hlast

end

/-- Settles O20: the start byte begins the frame, and the bytes after it are appended until the frame is whole. -/
theorem frameBytesMakeTheRequest : Obligations.FrameBytesMakeTheRequest := by
  intro s p ty body hidle hbuffer hrestart hbody
  have hn := frameOf_lengthByte (linkAddress s.sys.straps) (panelAddress p.panel) p.tag ty hbody
  have hlen := frameOf_length (linkAddress s.sys.straps) (panelAddress p.panel) p.tag ty body
  have hcomplete := frameComplete_frameOf (s := s.setService p.service) p ty hbody hrestart
  obtain ⟨rest, hframe⟩ : ∃ rest, frameOf (linkAddress s.sys.straps) (panelAddress p.panel) p.tag ty body = 0xC3 :: rest :=
    ⟨_, rfl⟩
  have hrest : rest ≠ [] := by
    rintro rfl
    rw [hframe, List.length_singleton] at hlen
    omega
  have hrun := runCommands_frame (s := s) (service := p.service) (by omega) (by omega) rest [0xC3] hframe.symm hrest
  have hstart : exec (.byteReceived 0xC3 false p.service) s = .next ((s.setService p.service).setRx .receiving [0xC3]) := by
    refine congrArg Host.Outcome.next ?_
    unfold State.receiveByte
    rw [show (s.setService p.service).link.rx = .idle from hidle]
    rfl
  have harrive : s.arrive p ty body = (s.setService p.service).takeRequest (panelAddress p.panel) p.tag ty body := by
    unfold State.arrive State.linkHeld
    dsimp only
    rw [show (s.setService p.service).link.rx = .idle from hidle,
      show (s.setService p.service).sys.restartPending = false from hrestart, if_neg (by simp), if_neg (by omega)]
  rw [harrive, ← hcomplete, hframe, List.map_cons, runCommands, hstart]
  dsimp only
  exact hrun

end Sys2Proof.Machine
end

section
/-!
PROOF. What all that follows an event does to one channel: nothing to a channel that it leaves alone (R72, R78, R81, R88),
and to one that waits in the list nothing but its admission (R84).
-/

namespace Sys2Proof.Machine

/-! ### Entries found by channel -/

section
variable {c d : Chan}

theorem find?_placeEntry_of_ne (rank : Chan → Nat) {e : Entry} (h : e.channel ≠ d) (l : List Entry) :
    (placeEntry rank e l).find? (fun x => x.channel = d) = l.find? fun x => x.channel = d := by
  induction l with
  | nil => simp [placeEntry, h]
  | cons x xs ih =>
    unfold placeEntry
    split
    · simp [h]
    · rw [List.find?_cons, List.find?_cons, ih]

theorem find?_placeEntry_self (rank : Chan → Nat) (e : Entry) {l : List Entry}
    (h : l.find? (fun x => x.channel = e.channel) = none) :
    (placeEntry rank e l).find? (fun x => x.channel = e.channel) = some e := by
  induction l with
  | nil => simp [placeEntry]
  | cons x xs ih =>
    rw [List.find?_cons] at h
    split at h
    · cases h
    · rename_i hx
      unfold placeEntry
      split
      · simp
      · rw [List.find?_cons, hx]
        exact ih h

theorem find?_filter_of_ne (h : d ≠ c) (l : List Entry) :
    (l.filter fun x => x.channel ≠ c).find? (fun x => x.channel = d) = l.find? fun x => x.channel = d := by
  rw [List.find?_filter]
  congr 1
  funext x
  by_cases hx : x.channel = d <;> simp [hx, h]

theorem find?_filter_self (l : List Entry) :
    (l.filter fun x => x.channel ≠ c).find? (fun x => x.channel = c) = none := by
  rw [List.find?_filter]
  simp

end

/-! ### Channels that an operation does not touch -/

/-- Channel `d` is as it was, with the entry that it had, and it neither joins the slot's waiting set nor takes the slot. -/
structure State.Aside (s t : State) (d : Chan) : Prop where
  chan : t.chan d = s.chan d
  entry : t.entry? d = s.entry? d
  waits : d ∈ t.slot.waiting → d ∈ s.slot.waiting
  holder : s.slot.holder ≠ some d → t.slot.holder ≠ some d
  plan : t.plan = s.plan

section
variable {s t u : State} {c d : Chan}

theorem State.Aside.refl (s : State) (d : Chan) : s.Aside s d := ⟨rfl, rfl, id, id, rfl⟩

theorem State.Aside.trans (h : s.Aside t d) (k : t.Aside u d) : s.Aside u d :=
  ⟨k.chan.trans h.chan, k.entry.trans h.entry, h.waits ∘ k.waits, k.holder ∘ h.holder, k.plan.trans h.plan⟩

theorem State.Aside.rank (h : s.Aside t d) : t.rank d = s.rank d := State.rank_congr h.plan d

theorem crec_congr (h : t.plan = s.plan) : t.crec c = s.crec c := by rw [State.crec, State.crec, h]

theorem State.Aside.unlisted (h : s.Aside t d) (u : s.Unlisted d) : t.Unlisted d := by
  obtain ⟨hentry, hwait⟩ := u
  refine ⟨h.entry.trans hentry, ?_⟩
  unfold State.waitsForSlot at hwait ⊢
  rw [List.contains_eq_mem, decide_eq_false_iff_not] at hwait ⊢
  exact fun k => hwait (h.waits k)

/-- What leaves the channels, the slot, the list and the plan. -/
theorem State.Aside.of_kept (hchan : t.chan = s.chan) (hslot : t.slot = s.slot) (hstandby : t.standby = s.standby)
    (hplan : t.plan = s.plan) (d : Chan) : s.Aside t d := by
  refine ⟨by rw [hchan], ?_, by rw [hslot]; exact id, by rw [hslot]; exact id, hplan⟩
  unfold State.entry?
  rw [hstandby]

theorem aside_push (k : NoticeKind) (j : Option Nat) (a b : Nat) (d : Chan) : s.Aside (s.push k j a b) d :=
  ⟨rfl, rfl, id, id, rfl⟩

theorem aside_startQuiet (d : Chan) : s.Aside s.startQuiet d := ⟨rfl, rfl, id, id, rfl⟩

theorem aside_setChan (h : d ≠ c) (ch : Channel) : s.Aside (s.setChan c ch) d :=
  ⟨State.chan_setChan_of_ne s c d ch h, rfl, id, id, rfl⟩

theorem aside_releaseSlot (c d : Chan) : s.Aside (s.releaseSlot c) d := by
  refine ⟨congrFun (State.releaseSlot_chan s c) d, by unfold State.entry?; rw [State.releaseSlot_standby], ?_, ?_, ?_⟩
  · rw [State.releaseSlot_slot]
    unfold Slot.release
    split <;> exact id
  · rw [State.releaseSlot_slot]
    unfold Slot.release
    split
    · exact fun _ => nofun
    · exact id
  · rw [State.releaseSlot_eq]

theorem aside_leaveWaiting (c d : Chan) : s.Aside (s.leaveWaiting c) d :=
  ⟨rfl, rfl, fun h => List.mem_of_mem_filter h, id, rfl⟩

theorem aside_setHolder (h : d ≠ c) : s.Aside (s.setHolder (some c)) d :=
  ⟨rfl, rfl, id, fun _ k => h (Option.some.inj k).symm, rfl⟩

theorem entry?_removeEntry_of_ne (h : d ≠ c) : (s.removeEntry c).entry? d = s.entry? d := by
  unfold State.removeEntry
  split
  · exact find?_filter_of_ne h _
  · rfl

theorem entry?_removeEntry_self (c : Chan) : (s.removeEntry c).entry? c = none := by
  unfold State.removeEntry
  split
  · exact find?_filter_self _
  · rename_i hany
    rw [State.entry?, List.find?_eq_none]
    intro e he hc
    exact hany (List.any_eq_true.2 ⟨e, he, hc⟩)

theorem aside_removeEntry (h : d ≠ c) : s.Aside (s.removeEntry c) d := by
  refine ⟨congrFun (State.removeEntry_chan s c) d, entry?_removeEntry_of_ne h, ?_, ?_, ?_⟩
  · rw [State.removeEntry_slot]
    exact id
  · rw [State.removeEntry_slot]
    exact id
  · rw [State.removeEntry_eq]

theorem entry?_insertEntry_of_ne (h : d ≠ c) (o : Origin) (b : Bool) : (s.insertEntry c o b).entry? d = s.entry? d :=
  find?_placeEntry_of_ne s.rank (fun k => h k.symm) _

theorem entry?_insertEntry_self (h : s.entry? c = none) (o : Origin) (b : Bool) :
    (s.insertEntry c o b).entry? c = some ⟨c, o, b, o = .sag && s.sag.releasePending, s.sys.uptime⟩ :=
  find?_placeEntry_self s.rank ⟨c, o, b, o = .sag && s.sag.releasePending, s.sys.uptime⟩ h

theorem aside_insertEntry (h : d ≠ c) (o : Origin) (b : Bool) : s.Aside (s.insertEntry c o b) d :=
  ⟨rfl, entry?_insertEntry_of_ne h o b, id, id, rfl⟩

theorem aside_cutTo (h : d ≠ c) (st : ChState) (r : Reason) : s.Aside (s.cutTo c st r) d :=
  ((aside_setChan h _).trans (aside_releaseSlot c d)).trans (aside_leaveWaiting c d)

theorem aside_cutToWaiting (h : d ≠ c) (o : Origin) (r : Reason) : s.Aside (s.cutToWaiting c o r) d :=
  (aside_cutTo h _ _).trans (aside_insertEntry h _ _)

theorem aside_shedChannel (h : d ≠ c) (o : Origin) (r : Reason) (i : Intent) : s.Aside (s.shedChannel c o r i) d := by
  unfold State.shedChannel
  split
  · exact aside_setChan h _
  · exact aside_cutToWaiting h _ _

theorem aside_shedStep (h : d ≠ c) : s.Aside (s.shedStep c) d := by
  unfold State.shedStep
  dsimp only
  split
  · exact State.Aside.trans (t := s.throttle c) (aside_setChan h _) ((aside_push _ _ _ _ d).trans (aside_startQuiet d))
  · exact (aside_shedChannel h .shed .shed .waitShed).trans ((aside_push _ _ _ _ d).trans (aside_startQuiet d))

theorem aside_startFromWaiting (h : d ≠ c) : s.Aside (s.startFromWaiting c) d :=
  ((aside_setChan h _).trans (aside_setHolder h)).trans (aside_removeEntry h)

theorem aside_startFromRest (h : d ≠ c) : s.Aside (s.startFromRest c) d :=
  ((aside_setChan h _).trans (aside_setHolder h)).trans (aside_leaveWaiting c d)

theorem aside_grantSlot (h : d ≠ c) : s.Aside (s.grantSlot c) d := by
  unfold State.grantSlot
  split
  · exact aside_startFromRest h
  · exact ((aside_setChan h _).trans (aside_setHolder h)).trans (aside_leaveWaiting c d)

theorem aside_unthrottle (h : d ≠ c) : s.Aside (s.unthrottle c) d := by
  unfold State.unthrottle
  split
  · exact aside_setChan h _
  · exact aside_startFromRest h

theorem aside_admitEntry (h : d ≠ c) (k : Nat) : s.Aside (s.admitEntry c k) d :=
  (aside_startFromWaiting h).trans (aside_push _ _ _ _ d)

/-! ### What follows an event -/

/-- An act that has no reason to choose channel `d`. -/
theorem State.Act.aside (h : s.Act t) (hshed : s.isShedCandidate d = false) (hthrottled : (s.chan d).state ≠ .throttled)
    (hwaits : d ∉ s.slot.waiting) : s.Aside t d := by
  cases h with
  | sheds c hd h => exact aside_shedStep (by rintro rfl; rw [h] at hshed; cases hshed)
  | reports => exact ⟨rfl, rfl, id, id, rfl⟩
  | timer x b => exact ⟨rfl, rfl, id, id, rfl⟩
  | unthrottles c hm h =>
    exact (aside_unthrottle (c := c) (by rintro rfl; exact hthrottled h)).trans (aside_push _ _ _ _ d)
  | serves c hfree hsag h => exact aside_grantSlot (by rintro rfl; exact hwaits h)

theorem Channel.leftAlone_states {ch : Channel} {r : Nat} (h : ch.leftAlone r = true) :
    ch.state ≠ .throttled ∧ ch.state ≠ .waiting ∧ (ch.state = .on ∨ ch.state = .starting → r = 0) := by
  unfold Channel.leftAlone at h
  cases hst : ch.state <;> simp_all

theorem isShedCandidate_of_leftAlone (h : (s.chan d).leftAlone (s.rank d) = true) : s.isShedCandidate d = false := by
  obtain ⟨hthrottled, -, hrank⟩ := Channel.leftAlone_states h
  rw [← Bool.not_eq_true, State.isShedCandidate_iff]
  rintro ⟨hst, hne⟩
  rcases hst with hst | hst | hst
  · exact hne (hrank (.inl hst))
  · exact hne (hrank (.inr hst))
  · exact hthrottled hst

theorem State.Unlisted.not_mem_waiting (u : s.Unlisted d) : d ∉ s.slot.waiting := ((State.unlisted_iff s d).1 u).2

theorem State.Aside.leftAlone (h : s.Aside t d) (k : (s.chan d).leftAlone (s.rank d) = true) :
    (t.chan d).leftAlone (t.rank d) = true := by
  rw [h.chan, h.rank]
  exact k

/-- R72, R78, R81, R88: an unlisted channel that the Planner and the slot leave alone. -/
theorem State.Works.aside (h : s.Works t) (u : s.Unlisted d) (k : (s.chan d).leftAlone (s.rank d) = true) : s.Aside t d := by
  refine h.keeps (P := fun t => s.Aside t d) (fun m n hm h => ?_) (fun m e n hm _ he => ?_) (.refl s d)
  · have hleft := hm.leftAlone k
    exact hm.trans (h.aside (isShedCandidate_of_leftAlone hleft) (Channel.leftAlone_states hleft).1
      (hm.unlisted u).not_mem_waiting)
  · exact hm.trans (aside_admitEntry (ne_of_mem_unheld (hm.unlisted u) he) n)

/-- What an operation on the channels of `cs` and all that follows it leave. -/
theorem State.Works.othersKept {cs : List Chan} (h : t.Works u) (hst : ∀ d, d ∉ cs → s.Aside t d) : s.OthersKept u cs := by
  intro d hd hu hk
  have haside := hst d hd
  exact (h.aside (haside.unlisted hu) (haside.leftAlone hk)).chan.trans haside.chan

theorem State.Works.othersKept_nil (h : s.Works t) (cs : List Chan) : s.OthersKept t cs :=
  h.othersKept fun d _ => .refl s d

/-! ### A channel that waits -/

/-- Channel `c` waits in the list with entry `e`, and does not wait for the slot. -/
structure State.Queued (s : State) (c : Chan) (ch : Channel) (e : Entry) : Prop where
  chan : s.chan c = ch
  state : ch.state = .waiting
  entry : s.entry? c = some e
  apart : c ∉ s.slot.waiting

theorem State.Aside.queued {ch : Channel} {e : Entry} (h : s.Aside t d) (k : s.Queued d ch e) : t.Queued d ch e :=
  ⟨h.chan.trans k.chan, k.state, h.entry.trans k.entry, fun x => k.apart (h.waits x)⟩

theorem State.Queued.aside {ch : Channel} {e : Entry} (k : s.Queued d ch e) (h : s.Act t) : s.Aside t d := by
  have hst : (s.chan d).state = .waiting := by rw [k.chan, k.state]
  refine h.aside ?_ (by rw [hst]; nofun) k.apart
  rw [← Bool.not_eq_true, State.isShedCandidate_iff, hst]
  rintro ⟨h | h | h, -⟩ <;> cases h

/-- R84: the channel that an admission starts. -/
theorem admitEntry_chan_self (c : Chan) (k : Nat) : (s.admitEntry c k).chan c =
    { (s.chan c).close (s.crec c) with state := .starting, startTime := s.sys.uptime } := by
  show (State.removeEntry _ c).chan c = _
  rw [State.removeEntry_chan]
  exact State.chan_setChan_self s c _

theorem admitEntry_entry?_self (c : Chan) (k : Nat) : (s.admitEntry c k).entry? c = none := entry?_removeEntry_self c

/-- R84, R98: a channel that waits still waits after all that follows an event, or has been admitted. -/
theorem State.Queued.works {ch : Channel} {e : Entry} (k : s.Queued c ch e) (h : s.Works t) :
    t.Queued c ch e
      ∨ (t.chan c = { ch.close (s.crec c) with state := .starting, startTime := s.sys.uptime } ∧ t.slot.holder = some c) := by
  cases h with
  | acts h => exact .inl (h.keeps (P := fun t => t.Queued c ch e) (fun _ _ hs h => (hs.aside h).queued hs) k)
  | @admits m h x n hm hx =>
    have hkept := h.keeps (P := fun t => t.Queued c ch e) (fun _ _ hs h => (hs.aside h).queued hs) k
    have hplanner := (State.Works.acts h).plannerOnly
    by_cases hc : c = x.channel
    · refine .inr ⟨?_, ?_⟩
      · rw [← hc, admitEntry_chan_self, hkept.chan, hplanner.sys, crec_congr hplanner.plan]
      · rw [State.admitEntry_holder, hc]
    · exact .inl ((aside_admitEntry hc n).queued hkept)

/-- R98: an entry that has been created, and all that follows. -/
theorem State.Queued.waitsOrStarts {ch : Channel} {o : Origin} {held : Bool} {up : Nat}
    (k : t.Queued c ch ⟨c, o, false, held, up⟩) (hup : up = s.sys.uptime) (h : t.Works u) :
    s.waitsOrStarts u c o held ∧ (u.chan c).reason = ch.reason ∧ (u.chan c).retryCount = ch.retryCount
      ∧ (u.chan c).retryTimer = ch.retryTimer := by
  rcases k.works h with hq | ⟨hchan, hholder⟩
  · exact ⟨.inl ⟨by rw [hq.chan, hq.state], by rw [hq.entry, hup]⟩, by rw [hq.chan], by rw [hq.chan], by rw [hq.chan]⟩
  · refine ⟨.inr ⟨by rw [hchan], hholder⟩, ?_⟩
    rw [hchan]
    exact ⟨rfl, rfl, rfl⟩

end

end Sys2Proof.Machine
end

section
/-!
PROOF. From a request command to its reply (R168 to R177): what the admission meets, the refusals, and the requests that
read.
-/

namespace Sys2Proof.Machine

/-- R168, R174: the state in which the owner of a request from `p` finds the part: the SERVICE level that the request finds,
and the receiver in HOLD. -/
def State.heard (s : State) (p : Peer) : State := (s.setService p.service).setRx .hold []

section
variable {s t : State} {p : Peer} {ty : ReqType} {body : List Byte}

/-- R173 to R177: an admitted request is answered by its owner. -/
theorem arrive_of_admitted (hs : s.Serves) (hlen : body.length ≤ 56) (hadm : ty.refusal body (s.heard p) = none) :
    s.arrive p ty.code body = (ty.own body (s.heard p)).state.repliedWith (ty.own body (s.heard p)).summary p ty.code
      (ty.own body (s.heard p)).status (answerFields ty (ty.own body (s.heard p))) := by
  have howned := ty.owned body (s.heard p)
  have hhandle := State.handle_of_admitted (s.heard p) ty body hs.2 hadm
  have hlink := howned.link
  have hstraps := howned.straps
  rw [s.arrive_of_listens p ty.code body hs.1 hlen]
  unfold State.takeRequest State.repliedWith
  rw [show ((s.setService p.service).setRx .hold []).handle ty.code body = _ from hhandle]
  dsimp only
  rw [hlink, hstraps]
  rfl

/-- The reply to an admitted request, by what its owner answers. -/
theorem arrive_of_own {a : Answer} {fields : List Byte} (hs : s.Serves) (hlen : body.length ≤ 56)
    (hadm : ty.refusal body (s.heard p) = none) (hown : ty.own body (s.heard p) = a) (hfields : answerFields ty a = fields) :
    s.arrive p ty.code body = a.state.repliedWith a.summary p ty.code a.status fields := by
  rw [arrive_of_admitted hs hlen hadm, hown, hfields]

/-- R173: a refused request changes nothing but the link and the SERVICE level seen. -/
theorem arrive_of_refused {x : Status} (hs : s.Serves) (hlen : body.length ≤ 56) (h : ty.refusal body (s.heard p) = some x) :
    s.arrive p ty.code body = (s.setService p.service).replied p ty.code x (refusalFields (some ty) s) := by
  have hhandle : (s.heard p).handle ty.code body = .whole (s.heard p) x (refusalFields (some ty) s) := by
    unfold State.handle
    rw [if_neg (show (s.heard p).disc.device ≠ .start from hs.2), reqTypeOf_code]
    dsimp only
    rw [h]
    rfl
  rw [s.arrive_of_listens p ty.code body hs.1 hlen]
  exact State.takeRequest_eq_replied (s := s.setService p.service) (t := s.heard p) hhandle rfl rfl

/-- R173: a type that the catalogue does not hold. -/
theorem arrive_of_unknown {b : Byte} (hs : s.Serves) (hlen : body.length ≤ 56) (h : reqTypeOf b = none) :
    s.arrive p b body = (s.setService p.service).replied p b .unknownType [] := by
  have hhandle : (s.heard p).handle b body = .whole (s.heard p) .unknownType [] := by
    unfold State.handle
    rw [if_neg (show (s.heard p).disc.device ≠ .start from hs.2), h]
    rfl
  rw [s.arrive_of_listens p b body hs.1 hlen]
  exact State.takeRequest_eq_replied (s := s.setService p.service) (t := s.heard p) hhandle rfl rfl

/-! ### The refusals, in their order -/

theorem refusal_of_short (h : body.length < ty.minBody) : ty.refusal body s = some .invalid := if_pos h

theorem refusal_of_denied (h : ty.minBody ≤ body.length) (hty : ty.installer = true) (hs : s.sys.service = false) :
    ty.refusal body s = some .denied := by
  unfold ReqType.refusal
  rw [if_neg (Nat.not_lt.2 h), if_pos (by simp [hty, hs])]

theorem refusal_of_locked (h : ty.minBody ≤ body.length) (hty : ty.gated = true) (hs : s.sys.service = true)
    (hlock : s.plan.lock = true) : ty.refusal body s = some .planLocked := by
  unfold ReqType.refusal
  rw [if_neg (Nat.not_lt.2 h), if_neg (by simp [hs]), if_pos (by simp [hty, hlock])]

theorem refusal_of_fields (h : ty.minBody ≤ body.length) (hty : ty.installer = false) (hf : ty.fieldsPass body = false) :
    ty.refusal body s = some .invalid := by
  have hgated : ty.gated = false := by unfold ReqType.gated; rw [hty]; rfl
  unfold ReqType.refusal
  rw [if_neg (Nat.not_lt.2 h), if_neg (by simp [hty]), if_neg (by simp [hgated]), if_pos (by simp [hf])]

/-- R173: what admits a USER request. -/
theorem refusal_of_user (h : ty.minBody ≤ body.length) (hty : ty.installer = false) (hf : ty.fieldsPass body = true) :
    ty.refusal body s = none := by
  have hgated : ty.gated = false := by unfold ReqType.gated; rw [hty]; rfl
  rw [ReqType.refusal_eq_none_iff]
  exact ⟨h, fun k => absurd k (by simp [hty]), fun k => absurd k (by simp [hgated]), hf⟩

/-- R173: what admits an INSTALLER request. -/
theorem refusal_of_installer (h : ty.minBody ≤ body.length) (hs : s.sys.service = true)
    (hlock : ty.gated = true → s.plan.lock = false) (hf : ty.fieldsPass body = true) : ty.refusal body s = none := by
  rw [ReqType.refusal_eq_none_iff]
  exact ⟨h, fun _ => hs, hlock, hf⟩

/-! ### The rows of requests -/

theorem minBody_eq {ty : ReqType} (h : ty ≠ .configRead) (k : ty ≠ .switch) : ty.minBody = minimumBody ty.code := by
  cases ty with
  | configRead => exact absurd rfl h
  | switch => exact absurd rfl k
  | _ => rfl

/-- A row of requests and the types that it stands for. -/
theorem userRequests_arrive (p : Peer) (body : List Byte) (s : State) : ∀ x ∈ userRequests p body, ∃ ty : ReqType,
    x.2 = ty.code ∧ exec x.1 s = .next (s.arrive p ty.code body) ∧ ty.minBody = minimumBody x.2
      ∧ refusalFields (some ty) s = [] := by
  intro x hx
  simp only [userRequests, List.mem_cons, List.not_mem_nil, or_false] at hx
  rcases hx with rfl | rfl | rfl | rfl | rfl | rfl | rfl | rfl
  · exact ⟨.status, rfl, rfl, minBody_eq nofun nofun, rfl⟩
  · exact ⟨.channel, rfl, rfl, minBody_eq nofun nofun, rfl⟩
  · exact ⟨.standbyPage, rfl, rfl, minBody_eq nofun nofun, rfl⟩
  · exact ⟨.notices, rfl, rfl, minBody_eq nofun nofun, rfl⟩
  · exact ⟨.clearLockout, rfl, rfl, minBody_eq nofun nofun, rfl⟩
  · exact ⟨.check, rfl, rfl, minBody_eq nofun nofun, rfl⟩
  · exact ⟨.reconnect, rfl, rfl, minBody_eq nofun nofun, rfl⟩
  · exact ⟨.clearCauses, rfl, rfl, minBody_eq nofun nofun, rfl⟩

theorem installerRequests_arrive (p : Peer) (body : List Byte) (s : State) : ∀ x ∈ installerRequests p body, ∃ ty : ReqType,
    x.2 = ty.code ∧ exec x.1 s = .next (s.arrive p ty.code body) ∧ ty.minBody = minimumBody x.2 ∧ ty.installer = true
      ∧ (x.2 ≠ 0x29 → x.2 ≠ 0x2C → ty.gated = true)
      ∧ refusalFields (some ty) s = (if x.2.toNat ≤ 0x25 then u16 s.plan.generation else []) := by
  intro x hx
  simp only [installerRequests, List.mem_cons, List.not_mem_nil, or_false] at hx
  rcases hx with rfl | rfl | rfl | rfl | rfl | rfl | rfl | rfl | rfl | rfl | rfl
  · exact ⟨.setChannel, rfl, rfl, minBody_eq nofun nofun, rfl, fun _ _ => rfl, rfl⟩
  · exact ⟨.setLevel, rfl, rfl, minBody_eq nofun nofun, rfl, fun _ _ => rfl, rfl⟩
  · exact ⟨.setBattery, rfl, rfl, minBody_eq nofun nofun, rfl, fun _ _ => rfl, rfl⟩
  · exact ⟨.setOcv, rfl, rfl, minBody_eq nofun nofun, rfl, fun _ _ => rfl, rfl⟩
  · exact ⟨.setTimer, rfl, rfl, minBody_eq nofun nofun, rfl, fun _ _ => rfl, rfl⟩
  · exact ⟨.setAux, rfl, rfl, minBody_eq nofun nofun, rfl, fun _ _ => rfl, rfl⟩
  · exact ⟨.setCharge, rfl, rfl, minBody_eq nofun nofun, rfl, fun _ _ => rfl, rfl⟩
  · exact ⟨.isolate, rfl, rfl, minBody_eq nofun nofun, rfl, fun h => absurd rfl h, rfl⟩
  · exact ⟨.save, rfl, rfl, minBody_eq nofun nofun, rfl, fun _ _ => rfl, rfl⟩
  · exact ⟨.lockPlan, rfl, rfl, minBody_eq nofun nofun, rfl, fun _ _ => rfl, rfl⟩
  · exact ⟨.restart, rfl, rfl, minBody_eq nofun nofun, rfl, fun _ h => absurd rfl h, rfl⟩

/-- The CONFIG_READ commands by their section codes. -/
theorem configReads_arrive (p : Peer) (index : Byte) (extra : List Byte) (s : State) : ∀ i ∈ configReads p index extra,
    ∃ code : Byte, exec i s = .next (s.arrive p ReqType.configRead.code (code :: index :: extra)) := by
  intro i hi
  simp only [configReads, List.mem_cons, List.not_mem_nil, or_false] at hi
  rcases hi with rfl | rfl | rfl | rfl | rfl | rfl
  · exact ⟨0, rfl⟩
  · exact ⟨1, rfl⟩
  · exact ⟨2, rfl⟩
  · exact ⟨3, rfl⟩
  · exact ⟨4, rfl⟩
  · exact ⟨5, rfl⟩

theorem switches_arrive (p : Peer) (index : Byte) (flags : BitVec 7) (extra : List Byte) (s : State) :
    ∀ i ∈ switches p index flags extra, ∃ action : Bool,
      exec i s = .next (s.arrive p ReqType.switch.code (index :: controlByte flags action :: extra)) := by
  intro i hi
  simp only [switches, List.mem_cons, List.not_mem_nil, or_false] at hi
  rcases hi with rfl | rfl
  · exact ⟨true, rfl⟩
  · exact ⟨false, rfl⟩

theorem controlByte_toNat (flags : BitVec 7) (action : Bool) : (controlByte flags action).toNat = 2 * flags.toNat + action.toNat := by
  revert flags action
  decide

theorem reqTypeOf_of_unknown {b : Byte} (h : typeUnknown b = true) : reqTypeOf b = none := by
  revert b
  decide

/-- The channel that an index byte names. -/
theorem chan_of_byte {b : Byte} (h : b.toNat < 16) : ∃ c : Chan, b = BitVec.ofNat 8 c.val :=
  ⟨⟨b.toNat, h⟩, by simp⟩

end

/-! ### Refused requests -/

section
variable {s : State} {p : Peer}

/-- R173: in START every row is answered BUSY. -/
theorem refused_in_start (hs : s.Listens) (hd : s.disc.device = .start) :
    (∀ (ty : Byte) (body : List Byte), typeUnknown ty = true → body.length ≤ 56 →
        exec (.unknownTypeRequest p ty body) s = .next ((s.setService p.service).replied p ty .busy []))
      ∧ (∀ (body : List Byte), body.length ≤ 56 →
        (∀ x ∈ userRequests p body, exec x.1 s = .next ((s.setService p.service).replied p x.2 .busy []))
          ∧ ∀ x ∈ installerRequests p body, exec x.1 s = .next ((s.setService p.service).replied p x.2 .busy
              (if x.2.toNat ≤ 0x25 then u16 s.plan.generation else [])))
      ∧ (∀ (index : Byte) (extra : List Byte), extra.length ≤ 54 →
        (∀ i ∈ configReads p index extra, exec i s = .next ((s.setService p.service).replied p 0x05 .busy []))
          ∧ ∀ flags : BitVec 7, ∀ i ∈ switches p index flags extra,
              exec i s = .next ((s.setService p.service).replied p 0x10 .busy [0])) := by
  refine ⟨fun ty body hty hlen => ?_, fun body hlen => ⟨fun x hx => ?_, fun x hx => ?_⟩,
    fun index extra hlen => ⟨fun i hi => ?_, fun flags i hi => ?_⟩⟩
  · refine congrArg Host.Outcome.next ((State.arrive_of_start hs hlen hd).trans ?_)
    rw [reqTypeOf_of_unknown hty]
    rfl
  · obtain ⟨ty, hcode, hexec, -, hfields⟩ := userRequests_arrive p body s x hx
    rw [hexec, State.arrive_of_start hs hlen hd, reqTypeOf_code, hfields, hcode]
  · obtain ⟨ty, hcode, hexec, -, -, -, hfields⟩ := installerRequests_arrive p body s x hx
    rw [hexec, State.arrive_of_start hs hlen hd, reqTypeOf_code, hfields, hcode]
  · obtain ⟨code, hexec⟩ := configReads_arrive p index extra s i hi
    rw [hexec, State.arrive_of_start hs (by simp; omega) hd]
    rfl
  · obtain ⟨action, hexec⟩ := switches_arrive p index flags extra s i hi
    rw [hexec, State.arrive_of_start hs (by simp; omega) hd]
    rfl

/-- R176: a body shorter than the type's minimum. -/
theorem refused_of_short (hs : s.Serves) (body : List Byte) :
    (∀ x ∈ userRequests p body, body.length < minimumBody x.2 →
        exec x.1 s = .next ((s.setService p.service).replied p x.2 .invalid []))
      ∧ (∀ x ∈ installerRequests p body, body.length < minimumBody x.2 →
        exec x.1 s = .next ((s.setService p.service).replied p x.2 .invalid
          (if x.2.toNat ≤ 0x25 then u16 s.plan.generation else [])))
      ∧ (body.length < 2 →
        s.arrive p 0x05 body = (s.setService p.service).replied p 0x05 .invalid []
          ∧ s.arrive p 0x10 body = (s.setService p.service).replied p 0x10 .invalid [0]) := by
  have hmin : ∀ b : Byte, minimumBody b ≤ 3 := fun b => by unfold minimumBody; split_ifs <;> omega
  refine ⟨fun x hx hlen => ?_, fun x hx hlen => ?_, fun hlen => ⟨?_, ?_⟩⟩
  · obtain ⟨ty, hcode, hexec, hbody, hfields⟩ := userRequests_arrive p body s x hx
    have := hmin x.2
    rw [hexec, arrive_of_refused hs (by omega) (refusal_of_short (hbody ▸ hlen)), hfields, hcode]
  · obtain ⟨ty, hcode, hexec, hbody, -, -, hfields⟩ := installerRequests_arrive p body s x hx
    have := hmin x.2
    rw [hexec, arrive_of_refused hs (by omega) (refusal_of_short (hbody ▸ hlen)), hfields, hcode]
  · exact arrive_of_refused (ty := .configRead) hs (by omega) (refusal_of_short hlen)
  · exact arrive_of_refused (ty := .switch) hs (by omega) (refusal_of_short hlen)

/-- R174: an INSTALLER request without SERVICE. -/
theorem refused_of_denied (hs : s.Serves) (hservice : p.service = false) {body : List Byte} (hlen : body.length ≤ 56) :
    ∀ x ∈ installerRequests p body, minimumBody x.2 ≤ body.length →
      exec x.1 s = .next ((s.setService false).replied p x.2 .denied
        (if x.2.toNat ≤ 0x25 then u16 s.plan.generation else [])) := by
  intro x hx hbody
  obtain ⟨ty, hcode, hexec, hmin, hty, -, hfields⟩ := installerRequests_arrive p body s x hx
  rw [hexec, arrive_of_refused hs hlen (refusal_of_denied (hmin ▸ hbody) hty hservice), hfields, hcode, hservice]

/-- R175: a gated request under the plan lock. -/
theorem refused_of_locked (hs : s.Serves) (hservice : p.service = true) (hlock : s.plan.lock = true) {body : List Byte}
    (hlen : body.length ≤ 56) :
    ∀ x ∈ installerRequests p body, minimumBody x.2 ≤ body.length → x.2 ≠ 0x29 → x.2 ≠ 0x2C →
      exec x.1 s = .next ((s.setService true).replied p x.2 .planLocked
        (if x.2.toNat ≤ 0x25 then u16 s.plan.generation else [])) := by
  intro x hx hbody hisolate hrestart
  obtain ⟨ty, hcode, hexec, hmin, hty, hgated, hfields⟩ := installerRequests_arrive p body s x hx
  rw [hexec, arrive_of_refused hs hlen (refusal_of_locked (hmin ▸ hbody) (hgated hisolate hrestart) hservice hlock), hfields,
    hcode, hservice]

/-- R176: a USER request whose fields fail the link's test. -/
theorem arrive_of_badFields {ty : ReqType} {body : List Byte} (hs : s.Serves) (hlen : body.length ≤ 56)
    (hmin : ty.minBody ≤ body.length) (hty : ty.installer = false) (hf : ty.fieldsPass body = false) :
    s.arrive p ty.code body = (s.setService p.service).replied p ty.code .invalid (refusalFields (some ty) s) :=
  arrive_of_refused hs hlen (refusal_of_fields hmin hty hf)

/-- R176: a channel index above 15. -/
theorem refused_of_channel (hs : s.Serves) {index : Byte} {extra : List Byte} (hlen : extra.length ≤ 54)
    (h : 15 < index.toNat) :
    exec (.channel p (index :: extra)) s = .next ((s.setService p.service).replied p 0x02 .invalid [])
      ∧ exec (.clearLockout p (index :: extra)) s = .next ((s.setService p.service).replied p 0x11 .invalid [])
      ∧ exec (.check p (index :: extra)) s = .next ((s.setService p.service).replied p 0x12 .invalid [])
      ∧ exec (.configReadChannel p index extra) s = .next ((s.setService p.service).replied p 0x05 .invalid []) := by
  refine ⟨congrArg Host.Outcome.next ?_, congrArg Host.Outcome.next ?_, congrArg Host.Outcome.next ?_,
    congrArg Host.Outcome.next ?_⟩
  · exact arrive_of_badFields (ty := .channel) hs (by simp; omega) (by simp [ReqType.minBody]) rfl
      (by simp [ReqType.fieldsPass]; omega)
  · exact arrive_of_badFields (ty := .clearLockout) hs (by simp; omega) (by simp [ReqType.minBody]) rfl
      (by simp [ReqType.fieldsPass]; omega)
  · exact arrive_of_badFields (ty := .check) hs (by simp; omega) (by simp [ReqType.minBody]) rfl
      (by simp [ReqType.fieldsPass]; omega)
  · exact arrive_of_badFields (ty := .configRead) hs (by simp; omega) (by simp [ReqType.minBody]) rfl
      (by simp [ReqType.fieldsPass, sectionAccepts]; omega)

/-- R176: the section code and the index of a CONFIG_READ. -/
theorem refused_configRead (hs : s.Serves) {code index : Byte} {extra : List Byte} (hlen : extra.length ≤ 54)
    (h : sectionAccepts code.toNat index.toNat = false) :
    s.arrive p 0x05 (code :: index :: extra) = (s.setService p.service).replied p 0x05 .invalid [] :=
  arrive_of_badFields (ty := .configRead) hs (by simp; omega) (by simp [ReqType.minBody]) rfl
    (by simpa [ReqType.fieldsPass] using h)

theorem sectionAccepts_of_gt {code : Nat} (h : 5 < code) (index : Nat) : sectionAccepts code index = false := by
  match code, h with
  | _ + 6, _ => rfl

/-- R176: the channel index and the flags of a SWITCH. -/
theorem refused_switch (hs : s.Serves) {index : Byte} {flags : BitVec 7} {extra : List Byte} (hlen : extra.length ≤ 54)
    (h : 15 < index.toNat ∨ 1 < flags.toNat) :
    ∀ i ∈ switches p index flags extra, exec i s = .next ((s.setService p.service).replied p 0x10 .invalid [0]) := by
  intro i hi
  obtain ⟨action, hexec⟩ := switches_arrive p index flags extra s i hi
  have hcontrol := controlByte_toNat flags action
  rw [hexec]
  refine congrArg Host.Outcome.next (arrive_of_badFields (ty := .switch) hs (by simp; omega) (by simp [ReqType.minBody]) rfl ?_)
  simp [ReqType.fieldsPass, hcontrol]
  omega

/-- R108: a start position of 0 or above 16 is refused by its owner. -/
theorem refused_standbyPage (hs : s.Serves) {index : Byte} {extra : List Byte} (hlen : extra.length ≤ 54)
    (h : index = 0 ∨ 16 < index.toNat) :
    exec (.standbyPage p (index :: extra)) s = .next ((s.setService p.service).replied p 0x03 .invalid []) := by
  have hown : ownStandbyPage (index :: extra) (s.heard p) = .plain (s.heard p) .invalid := by
    unfold ownStandbyPage
    dsimp only
    rw [if_neg]
    rcases h with rfl | h
    · simp
    · simp
      omega
  exact congrArg Host.Outcome.next (arrive_of_own (ty := .standbyPage) hs (by simp; omega)
    (refusal_of_user (by simp [ReqType.minBody]) rfl rfl) hown rfl)

end

/-! ### Plan edits -/

section
variable {s t : State} {p : Peer} {ty : ReqType}

theorem u16_length (n : Nat) : (u16 n).length = 2 := rfl

/-- R191: the expected generation of a plan edit passes. -/
theorem generation_passes {g : Nat} (h : s.Passes g) (rest : List Byte) :
    ¬(decide (beNat ((u16 g ++ rest).take 2) ≠ 65535) && decide (beNat ((u16 g ++ rest).take 2) ≠ s.plan.generation)) = true := by
  have hg : g < 65536 := by omega
  rw [beNat_take_u16 hg]
  rcases h with rfl | ⟨rfl, -⟩ <;> simp

theorem planEdit_ok {g : Nat} (h : s.Passes g) {rest : List Byte} {owner : List Byte → State × Status}
    (ho : owner rest = (t, .ok)) : planEdit (u16 g ++ rest) s owner = (t.bumpGeneration, .ok) := by
  unfold planEdit
  dsimp only
  rw [if_neg (generation_passes h rest), List.drop_left' (u16_length g), ho]

theorem planEdit_refused {g : Nat} {x : Status} (h : s.Passes g) {rest : List Byte} {owner : List Byte → State × Status}
    (ho : owner rest = (t, x)) (hx : x ≠ .ok) : planEdit (u16 g ++ rest) s owner = (s, x) := by
  unfold planEdit
  dsimp only
  rw [if_neg (generation_passes h rest), List.drop_left' (u16_length g), ho]
  cases x with
  | ok => exact absurd rfl hx
  | _ => rfl

/-- R191: the expected generation of a plan edit does not pass. -/
theorem planEdit_stale {g : Nat} (hg : g < 65535) (h : g ≠ s.plan.generation) (rest : List Byte)
    (owner : List Byte → State × Status) : planEdit (u16 g ++ rest) s owner = (s, .stale) := by
  unfold planEdit
  dsimp only
  rw [beNat_take_u16 (by omega), if_pos (by simp [h]; omega)]

/-- R177: the six plan edits. -/
theorem isPlanEdit_iff : ty.isPlanEdit = true ↔ ty = .setChannel ∨ ty = .setLevel ∨ ty = .setBattery ∨ ty = .setOcv
    ∨ ty = .setTimer ∨ ty = .setAux := by
  cases ty <;> decide

/-- R177: every plan edit passes the Plan Store's test first. -/
theorem own_planEdit (h : ty.isPlanEdit = true) (body : List Byte) (s : State) : ∃ owner acts,
    ty.own body s = editAnswer (planEdit body s owner) acts := by
  rcases isPlanEdit_iff.1 h with rfl | rfl | rfl | rfl | rfl | rfl
  · exact ⟨fun rest => s.editChannel (rest.getD 0 0).toNat (rest.drop 1), fun t => s.finish t true, rfl⟩
  · exact ⟨fun rest => s.editLevel (rest.getD 0 0).toNat (rest.drop 1), fun t => s.finish t (s.levelEditTells t), rfl⟩
  · exact ⟨s.editBattery, id, rfl⟩
  · exact ⟨s.editOcv, id, rfl⟩
  · exact ⟨fun rest => s.editTimer (rest.getD 0 0).toNat (rest.drop 1), id, rfl⟩
  · exact ⟨fun rest => s.editAux (rest.getD 0 0).toNat (rest.drop 1), id, rfl⟩

theorem refusal_of_planEdit (hty : ty.isPlanEdit = true) (h : s.Admits p) {body : List Byte} (hmin : ty.minBody ≤ body.length) :
    ty.refusal body (s.heard p) = none := by
  refine refusal_of_installer hmin h.2.1 (fun _ => h.2.2) ?_
  rcases isPlanEdit_iff.1 hty with rfl | rfl | rfl | rfl | rfl | rfl <;> rfl

theorem heard_eq (h : p.service = true) : s.heard p = (s.setService true).setRx .hold [] := by rw [State.heard, h]

/-- R181, R190: the reply to an accepted plan edit; the Start Slot and the Planner act behind it. -/
theorem arrive_of_accepted {body : List Byte} {x : State × Status} {acts : State → State} (hty : ty.isPlanEdit = true)
    (h : s.Admits p) (hmin : ty.minBody ≤ body.length) (hlen : body.length ≤ 56)
    (hown : ty.own body (s.heard p) = editAnswer x acts) (hx : x = (t, .ok)) :
    s.arrive p ty.code body = (acts t).repliedWith t.summary p ty.code .ok (u16 t.plan.generation) := by
  subst hx
  refine (arrive_of_own h.1 hlen (refusal_of_planEdit hty h hmin) hown (fields := u16 t.plan.generation) ?_).trans ?_
  · rcases isPlanEdit_iff.1 hty with rfl | rfl | rfl | rfl | rfl | rfl <;> rfl
  · rfl

/-- R181: the reply to a refused plan edit. -/
theorem arrive_of_editRefused {body : List Byte} {x : State × Status} {acts : State → State} {y : Status}
    (hty : ty.isPlanEdit = true) (h : s.Admits p) (hmin : ty.minBody ≤ body.length) (hlen : body.length ≤ 56)
    (hown : ty.own body (s.heard p) = editAnswer x acts) (hx : x = (s.heard p, y)) (hy : y ≠ .ok) (hq : y ≠ .queued) :
    s.arrive p ty.code body = (s.setService true).replied p ty.code y (u16 s.plan.generation) := by
  subst hx
  have hanswer : editAnswer (s.heard p, y) acts = .whole (s.heard p) y (u16 s.plan.generation) := by
    unfold editAnswer Answer.before
    dsimp only
    rw [if_neg hy]
    rfl
  refine (arrive_of_own h.1 hlen (refusal_of_planEdit hty h hmin) (hown.trans hanswer) (fields := u16 s.plan.generation) ?_).trans
    ?_
  · unfold answerFields Answer.whole refusalFields
    dsimp only
    rw [if_neg hy, if_neg hq, if_pos hty]
    rfl
  · rw [heard_eq h.2.1]
    rfl

/-- R181: a plan edit that its owner refuses, whatever the reason. -/
theorem arrive_of_ownerRefused {g : Nat} {rest : List Byte} {owner : List Byte → State × Status} {acts : State → State}
    {y : Status} (hty : ty.isPlanEdit = true) (h : s.Admits p) (hg : s.Passes g) (hmin : ty.minBody ≤ rest.length + 2)
    (hlen : rest.length ≤ 54)
    (hown : ty.own (u16 g ++ rest) (s.heard p) = editAnswer (planEdit (u16 g ++ rest) (s.heard p) owner) acts)
    (ho : owner rest = (t, y)) (hy : y ≠ .ok) (hq : y ≠ .queued) :
    s.arrive p ty.code (u16 g ++ rest) = (s.setService true).replied p ty.code y (u16 s.plan.generation) :=
  arrive_of_editRefused hty h (by simp [u16]; omega) (by simp [u16]; omega) hown
    (planEdit_refused (s := s.heard p) hg ho hy) hy hq

/-- R190: a plan edit that its owner accepts. -/
theorem arrive_of_ownerAccepted {g : Nat} {rest : List Byte} {owner : List Byte → State × Status} {acts : State → State}
    (hty : ty.isPlanEdit = true) (h : s.Admits p) (hg : s.Passes g) (hmin : ty.minBody ≤ rest.length + 2)
    (hlen : rest.length ≤ 54)
    (hown : ty.own (u16 g ++ rest) (s.heard p) = editAnswer (planEdit (u16 g ++ rest) (s.heard p) owner) acts)
    (ho : owner rest = (t, .ok)) :
    s.arrive p ty.code (u16 g ++ rest) =
      (acts t.bumpGeneration).repliedWith t.summary p ty.code .ok (u16 t.bumpGeneration.plan.generation) :=
  arrive_of_accepted hty h (by simp [u16]; omega) (by simp [u16]; omega) hown (planEdit_ok (s := s.heard p) hg ho)

/-- R176: the index of a plan edit out of its range. -/
theorem refused_editIndex (h : s.Admits p) {g : Nat} (hg : s.Passes g) {index : Byte} {rest : List Byte}
    (hlen : rest.length ≤ 53) :
    (15 < index.toNat → exec (.setChannel p (u16 g ++ [index] ++ rest)) s =
        .next ((s.setService true).replied p 0x20 .invalid (u16 s.plan.generation)))
      ∧ (7 < index.toNat → exec (.setLevel p (u16 g ++ [index] ++ rest)) s =
        .next ((s.setService true).replied p 0x21 .invalid (u16 s.plan.generation)))
      ∧ (3 < index.toNat →
        exec (.setTimer p (u16 g ++ [index] ++ rest)) s =
            .next ((s.setService true).replied p 0x24 .invalid (u16 s.plan.generation))
          ∧ exec (.setAux p (u16 g ++ [index] ++ rest)) s =
            .next ((s.setService true).replied p 0x25 .invalid (u16 s.plan.generation))) := by
  rw [List.append_assoc]
  refine ⟨fun hi => congrArg Host.Outcome.next ?_, fun hi => congrArg Host.Outcome.next ?_,
    fun hi => ⟨congrArg Host.Outcome.next ?_, congrArg Host.Outcome.next ?_⟩⟩
  · exact arrive_of_ownerRefused (ty := .setChannel) rfl h hg (by simp [ReqType.minBody]) (by simp; omega) rfl
      (dif_neg (by simp; omega)) nofun nofun
  · exact arrive_of_ownerRefused (ty := .setLevel) rfl h hg (by simp [ReqType.minBody]) (by simp; omega) rfl
      (dif_neg (by simp; omega)) nofun nofun
  · exact arrive_of_ownerRefused (ty := .setTimer) rfl h hg (by simp [ReqType.minBody]) (by simp; omega) rfl
      (dif_neg (by simp; omega)) nofun nofun
  · exact arrive_of_ownerRefused (ty := .setAux) rfl h hg (by simp [ReqType.minBody]) (by simp; omega) rfl
      (dif_neg (by simp; omega)) nofun nofun

theorem planEdits_arrive (p : Peer) (body : List Byte) (s : State) : ∀ x ∈ planEdits p body, ∃ ty : ReqType,
    x.2 = ty.code ∧ exec x.1 s = .next (s.arrive p ty.code body) ∧ ty.isPlanEdit = true ∧ ty.minBody ≤ 3 := by
  intro x hx
  simp only [planEdits, List.mem_cons, List.not_mem_nil, or_false] at hx
  rcases hx with rfl | rfl | rfl | rfl | rfl | rfl
  · exact ⟨.setChannel, rfl, rfl, rfl, le_rfl⟩
  · exact ⟨.setLevel, rfl, rfl, rfl, le_rfl⟩
  · exact ⟨.setBattery, rfl, rfl, rfl, by decide⟩
  · exact ⟨.setOcv, rfl, rfl, rfl, by decide⟩
  · exact ⟨.setTimer, rfl, rfl, rfl, le_rfl⟩
  · exact ⟨.setAux, rfl, rfl, rfl, le_rfl⟩

end

/-- Settles O26: the Plan Store's test stands ahead of every owner. -/
theorem staleEditChangesNothing : Obligations.StaleEditChangesNothing := by
  intro s p g rest h hg hgen hone hlen x hx
  obtain ⟨ty, hcode, hexec, hty, hmin⟩ := planEdits_arrive p (u16 g ++ rest) s x hx
  obtain ⟨owner, acts, hown⟩ := own_planEdit hty (u16 g ++ rest) (s.heard p)
  rw [hexec, hcode, arrive_of_editRefused hty h (by simp [u16]; omega) (by simp [u16]; omega) hown
    (planEdit_stale (s := s.heard p) hg hgen rest owner) nofun nofun]

/-- Settles O25, one lemma for each test of the order. -/
theorem refusedRequestsChangeNothing : Obligations.RefusedRequestsChangeNothing := by
  intro s p hs
  refine ⟨refused_in_start hs, fun hd ty body hty hlen => ?_, fun hd => refused_of_short ⟨hs, hd⟩,
    fun hd hservice body hlen => refused_of_denied ⟨hs, hd⟩ hservice hlen,
    fun hd hservice hlock body hlen => refused_of_locked ⟨hs, hd⟩ hservice hlock hlen,
    fun hd index extra hlen => ⟨refused_of_channel ⟨hs, hd⟩ hlen, fun flags h => refused_switch ⟨hs, hd⟩ hlen h, fun h => ?_,
      fun h => ⟨?_, ?_⟩, fun code h => ?_, refused_standbyPage ⟨hs, hd⟩ hlen⟩,
    fun h g index rest hg hlen => refused_editIndex h hg hlen⟩
  · exact congrArg Host.Outcome.next (arrive_of_unknown ⟨hs, hd⟩ hlen (reqTypeOf_of_unknown hty))
  · exact congrArg Host.Outcome.next (refused_configRead (code := 1) ⟨hs, hd⟩ hlen (by simp [sectionAccepts]; omega))
  · exact congrArg Host.Outcome.next (refused_configRead (code := 4) ⟨hs, hd⟩ hlen (by simp [sectionAccepts]; omega))
  · exact congrArg Host.Outcome.next (refused_configRead (code := 5) ⟨hs, hd⟩ hlen (by simp [sectionAccepts]; omega))
  · exact refused_configRead ⟨hs, hd⟩ hlen (sectionAccepts_of_gt h _)

end Sys2Proof.Machine
end

section
/-!
PROOF. The requests that read (R108, R142, R145, R178, R179, R187, R188), the edits of estimator, timers and inputs (R3, R14,
R142, R143), and the store (R192, R193).
-/

namespace Sys2Proof.Machine

section
variable {s t : State} {p : Peer}

/-- R173 to R177: a USER request that its owner answers OK without touching the state. -/
theorem arrive_of_reading {ty : ReqType} {body fields : List Byte} (hs : s.Serves) (hlen : body.length ≤ 56)
    (hmin : ty.minBody ≤ body.length) (hty : ty.installer = false) (hswitch : ty ≠ .switch) (hf : ty.fieldsPass body = true)
    (hown : ty.own body (s.heard p) = .whole (s.heard p) .ok fields) :
    s.arrive p ty.code body = (s.setService p.service).replied p ty.code .ok fields := by
  rw [arrive_of_own hs hlen (refusal_of_user hmin hty hf) hown (fields := fields)]
  · rfl
  · unfold answerFields Answer.whole
    dsimp only
    rw [if_pos rfl, if_neg hswitch]

/-! ### STATUS -/

theorem ofNat_yesNo (b : Bool) : BitVec.ofNat 8 (yesNo b) = if b then 1 else 0 := by cases b <;> rfl

theorem reported_yesNo (a : AuxInput) : yesNo a.reported = if a.level = some true then 1 else 0 := by
  unfold AuxInput.reported
  rcases a.level with - | - | - <;> rfl

/-- R178: the forty bytes of STATUS, one by one. -/
theorem statusBytes_eq : s.statusBytes =
    [BitVec.ofNat 8 s.disc.device.code, BitVec.ofNat 8 s.disc.reason.code, BitVec.ofNat 8 s.level.current.val,
      BitVec.ofNat 8 s.level.pending.code] ++ u16 s.dwellRemaining
    ++ u16 s.est.r ++ u16 s.est.vb ++ u16 s.est.vc ++ i16 s.est.i
    ++ i8 s.est.temp ++ [if s.est.tempValid then 1 else 0] ++ u16 (s.est.qUse / 3600000)
    ++ [if s.est.synced then 1 else 0, BitVec.ofNat 8 s.sag.state.code]
    ++ u16 s.totalT ++ u16 s.totalP ++ u16 s.plan.levels.recs[s.level.current].ceiling
    ++ [match s.slot.holder with | some c => BitVec.ofNat 8 c.val | none => 0xFF,
      BitVec.ofNat 8 s.standby.entries.length, BitVec.ofNat 8 s.ring.notices.length,
      BitVec.ofNat 8 ((if s.sys.causes.powerOn then 1 else 0) + (if s.sys.causes.brownout then 2 else 0)
        + (if s.sys.causes.restart then 4 else 0))]
    ++ u16 s.plan.generation ++ [if s.plan.lock then 1 else 0, if s.sys.service then 1 else 0]
    ++ [BitVec.ofNat 8 ((if s.aux[0].level = some true then 1 else 0) + (if s.aux[1].level = some true then 2 else 0)
        + (if s.aux[2].level = some true then 4 else 0) + (if s.aux[3].level = some true then 8 else 0)),
      if s.store.writing.isSome then 1 else 0] ++ u32 s.sys.uptime := by
  have hholder : BitVec.ofNat 8 s.holderCode = match s.slot.holder with | some c => BitVec.ofNat 8 c.val | none => 0xFF := by
    unfold State.holderCode
    cases s.slot.holder <;> rfl
  have haux : s.auxLevels = (if s.aux[0].level = some true then 1 else 0) + (if s.aux[1].level = some true then 2 else 0)
      + (if s.aux[2].level = some true then 4 else 0) + (if s.aux[3].level = some true then 8 else 0) := by
    unfold State.auxLevels
    simp only [reported_yesNo, mul_ite, Nat.mul_one, Nat.mul_zero]
  unfold State.statusBytes u8
  simp only [haux, hholder, ofNat_yesNo, Causes.code, State.ceiling, List.append_assoc, List.cons_append, List.nil_append]

theorem u8_length (n : Nat) : (u8 n).length = 1 := rfl

theorem u32_length (n : Nat) : (u32 n).length = 4 := rfl

theorem i8_length (i : Int) : (i8 i).length = 1 := rfl

theorem i16_length (i : Int) : (i16 i).length = 2 := rfl

theorem statusBytes_length : s.statusBytes.length = 40 := by
  unfold State.statusBytes
  simp only [List.length_append, u8_length, u16_length, u32_length, i8_length, i16_length]

theorem channelBytes_length (c : Chan) : (s.channelBytes c).length = 16 := by
  unfold State.channelBytes
  simp only [List.length_append, u8_length, u16_length]

/-! ### The other reading requests -/

theorem execChannel_of_serves (hs : s.Serves) (c : Chan) {extra : List Byte} (hlen : extra.length ≤ 55) :
    exec (.channel p (BitVec.ofNat 8 c.val :: extra)) s =
      .next ((s.setService p.service).replied p 0x02 .ok (s.channelBytes c)) := by
  refine congrArg Host.Outcome.next (arrive_of_reading (ty := .channel) hs (by simp; omega) (by simp [ReqType.minBody]) rfl
    nofun ?_ ?_)
  · simp only [ReqType.fieldsPass, List.getD_cons_zero, toNat_chanByte, decide_eq_true_eq]
    omega
  · simp only [ReqType.own, ownChannel, List.getD_cons_zero, toNat_chanByte, dif_pos c.isLt]
    rfl

theorem execStandbyPage_of_serves (hs : s.Serves) {start : Nat} {extra : List Byte} (hone : 1 ≤ start) (hmax : start ≤ 16)
    (hlen : extra.length ≤ 55) :
    exec (.standbyPage p (BitVec.ofNat 8 start :: extra)) s =
      .next ((s.setService p.service).replied p 0x03 .ok (s.pageBytes start)) := by
  have hbyte : (BitVec.ofNat 8 start).toNat = start := by simp; omega
  refine congrArg Host.Outcome.next (arrive_of_reading (ty := .standbyPage) hs (by simp; omega) (by simp [ReqType.minBody]) rfl
    nofun rfl ?_)
  simp only [ReqType.own, ownStandbyPage, List.getD_cons_zero, hbyte]
  rw [if_pos (by simp [hone, hmax])]
  rfl

/-- R179: a CONFIG_READ whose section and index pass the link's test. -/
theorem arrive_of_configRead (hs : s.Serves) {code index : Byte} {extra fields : List Byte} (hlen : extra.length ≤ 54)
    (hf : sectionAccepts code.toNat index.toNat = true)
    (hown : ownConfigRead (code :: index :: extra) (s.heard p) = .whole (s.heard p) .ok fields) :
    s.arrive p 0x05 (code :: index :: extra) = (s.setService p.service).replied p 0x05 .ok fields :=
  arrive_of_reading (ty := .configRead) hs (by simp; omega) (by simp [ReqType.minBody]) rfl nofun
    (by simpa [ReqType.fieldsPass] using hf) hown

theorem toNat_ofNat_fin {n : Nat} (h : n ≤ 256) (i : Fin n) : (BitVec.ofNat 8 i.val).toNat = i.val := by
  have := i.isLt
  simp
  omega

theorem ownConfigRead_channel (c : Chan) (extra : List Byte) :
    ownConfigRead (0 :: BitVec.ofNat 8 c.val :: extra) s = .whole s .ok (s.configChannel (BitVec.ofNat 8 c.val) c) := by
  show dite _ _ _ = _
  simp only [List.getD_cons_succ, List.getD_cons_zero, toNat_chanByte, dif_pos c.isLt]

theorem ownConfigRead_level (l : Level) (extra : List Byte) :
    ownConfigRead (1 :: BitVec.ofNat 8 l.val :: extra) s = .whole s .ok (s.configLevel (BitVec.ofNat 8 l.val) l) := by
  show dite _ _ _ = _
  simp only [List.getD_cons_succ, List.getD_cons_zero, toNat_ofNat_fin (by decide : 8 ≤ 256), dif_pos l.isLt]

theorem ownConfigRead_timer (n : TimerIx) (extra : List Byte) :
    ownConfigRead (4 :: BitVec.ofNat 8 n.val :: extra) s = .whole s .ok (s.configTimer (BitVec.ofNat 8 n.val) n) := by
  show dite _ _ _ = _
  simp only [List.getD_cons_succ, List.getD_cons_zero, toNat_ofNat_fin (by decide : 4 ≤ 256), dif_pos n.isLt]

theorem ownConfigRead_aux (n : AuxIx) (extra : List Byte) :
    ownConfigRead (5 :: BitVec.ofNat 8 n.val :: extra) s = .whole s .ok (s.configAux (BitVec.ofNat 8 n.val) n) := by
  show dite _ _ _ = _
  simp only [List.getD_cons_succ, List.getD_cons_zero, toNat_ofNat_fin (by decide : 4 ≤ 256), dif_pos n.isLt]

end

/-- Settles O23, one lemma for each row. -/
theorem readingRequestsAnswerAndChangeNothing : Obligations.ReadingRequestsAnswerAndChangeNothing := by
  intro s p hs
  refine ⟨⟨(s.setService p.service).statusBytes, statusBytes_length, statusBytes_eq, fun body hlen => ?_⟩,
    fun c extra hlen => ⟨execChannel_of_serves hs c hlen, channelBytes_length c⟩,
    fun start extra hone hmax hlen => execStandbyPage_of_serves hs hone hmax hlen,
    fun c extra hlen => congrArg Host.Outcome.next ?_, fun l extra hlen => congrArg Host.Outcome.next ?_,
    fun index extra hlen => congrArg Host.Outcome.next ?_, fun index extra hlen => congrArg Host.Outcome.next ?_,
    fun n extra hlen => congrArg Host.Outcome.next ?_, fun n extra hlen => congrArg Host.Outcome.next ?_⟩
  · exact congrArg Host.Outcome.next (arrive_of_reading (ty := .status) hs hlen (Nat.zero_le _) rfl nofun rfl rfl)
  · refine arrive_of_configRead (code := 0) hs hlen ?_ (ownConfigRead_channel c extra)
    rw [toNat_chanByte]
    exact decide_eq_true (by omega : c.val ≤ 15)
  · refine arrive_of_configRead (code := 1) hs hlen ?_ (ownConfigRead_level l extra)
    rw [toNat_ofNat_fin (by decide)]
    exact decide_eq_true (by omega : l.val ≤ 7)
  · exact arrive_of_configRead (code := 2) hs hlen rfl rfl
  · exact arrive_of_configRead (code := 3) hs hlen rfl rfl
  · refine arrive_of_configRead (code := 4) hs hlen ?_ (ownConfigRead_timer n extra)
    rw [toNat_ofNat_fin (by decide)]
    exact decide_eq_true (by omega : n.val ≤ 3)
  · refine arrive_of_configRead (code := 5) hs hlen ?_ (ownConfigRead_aux n extra)
    rw [toNat_ofNat_fin (by decide)]
    exact decide_eq_true (by omega : n.val ≤ 3)

/-! ### SET_TIMER and SET_AUX -/

section
variable {s : State} {p : Peer} {g : Nat} {rest : List Byte}

theorem RawTimer.toRec_fresh (raw : RawTimer) :
    raw.toRec.fresh = if raw.enabled ≠ 0 then ⟨.running, raw.terminal * 60⟩ else ⟨.disabled, 0⟩ := by
  unfold TimerRec.fresh RawTimer.toRec
  simp only [decide_eq_true_eq]
  rfl

theorem editTimer_of_valid {n : TimerIx} {raw : RawTimer} (h : timerFromBody s.plan.timers[n] rest = some raw)
    (hvalid : raw.valid = true) : s.editTimer n.val rest =
      (((s.setTimerRec n raw.toRec).setIdle n raw.toRec.fresh).dropOvertaken n, .ok) := by
  unfold State.editTimer
  rw [dif_pos n.isLt]
  dsimp only [Fin.eta]
  rw [h]
  dsimp only
  rw [if_pos hvalid]
  rfl

theorem editTimer_of_invalid {n : TimerIx} (h : timerFromBody s.plan.timers[n] rest = none
    ∨ ∃ raw, timerFromBody s.plan.timers[n] rest = some raw ∧ raw.valid = false) : s.editTimer n.val rest = (s, .invalid) := by
  unfold State.editTimer
  rw [dif_pos n.isLt]
  dsimp only [Fin.eta]
  rcases h with h | ⟨raw, h, hvalid⟩
  · rw [h]
  · rw [h]
    dsimp only
    rw [if_neg (by simp [hvalid])]

theorem editAux_of_valid {n : AuxIx} {r : AuxRec} (h : auxFromBody s.plan.aux[n] rest = some r) :
    s.editAux n.val rest = (s.setAuxRec n r, .ok) := by
  unfold State.editAux
  rw [dif_pos n.isLt]
  dsimp only [Fin.eta]
  rw [h]
  rfl

theorem editAux_of_invalid {n : AuxIx} (h : auxFromBody s.plan.aux[n] rest = none) : s.editAux n.val rest = (s, .invalid) := by
  unfold State.editAux
  rw [dif_pos n.isLt]
  dsimp only [Fin.eta]
  rw [h]

/-- R176: an edit on an index byte reads the index and the fields after it. -/
theorem indexed_owner (owner : Nat → List Byte → State × Status) {n : Nat} (i : Fin n) (hn : n ≤ 256)
    {x : State × Status} (h : owner i.val rest = x) :
    owner ((BitVec.ofNat 8 i.val :: rest).getD 0 0).toNat ((BitVec.ofNat 8 i.val :: rest).drop 1) = x := by
  rw [List.getD_cons_zero, toNat_ofNat_fin hn]
  exact h

end

/-- Settles O35. -/
theorem setTimerAndSetAuxReplaceTheirRecords : Obligations.SetTimerAndSetAuxReplaceTheirRecords := by
  intro s p g n rest h hg hlen
  rw [List.append_assoc]
  refine ⟨fun raw hraw hvalid => ?_, fun hnot => ?_, fun r hr => ?_, fun hnone => ?_⟩
  · rw [← RawTimer.toRec_fresh]
    have hedit := editTimer_of_valid (s := s.heard p) hraw hvalid
    refine congrArg Host.Outcome.next ((arrive_of_ownerAccepted (ty := .setTimer) rfl h hg (by simp [ReqType.minBody])
      (by simp; omega) rfl (indexed_owner (s.heard p).editTimer n (by decide) hedit)).trans ?_)
    rw [heard_eq h.2.1]
    rfl
  · exact congrArg Host.Outcome.next (arrive_of_ownerRefused (ty := .setTimer) rfl h hg (by simp [ReqType.minBody])
      (by simp; omega) rfl (indexed_owner (s.heard p).editTimer n (by decide) (editTimer_of_invalid hnot)) nofun nofun)
  · refine congrArg Host.Outcome.next ((arrive_of_ownerAccepted (ty := .setAux) rfl h hg (by simp [ReqType.minBody])
      (by simp; omega) rfl (indexed_owner (s.heard p).editAux n (by decide) (editAux_of_valid hr))).trans ?_)
    rw [heard_eq h.2.1]
    rfl
  · exact congrArg Host.Outcome.next (arrive_of_ownerRefused (ty := .setAux) rfl h hg (by simp [ReqType.minBody])
      (by simp; omega) rfl (indexed_owner (s.heard p).editAux n (by decide) (editAux_of_invalid hnone)) nofun nofun)

/-! ### SET_BATTERY and SET_OCV -/

section
variable {s : State} {p : Peer} {g : Nat} {rest : List Byte}

theorem editBattery_of_valid {b : Battery} (h : batteryFromBody s.plan.battery rest = some b)
    (hvalid : validBattery s.sys.straps.vsys b = true) : s.editBattery rest = (s.setProfile b, .ok) := by
  unfold State.editBattery
  rw [h]
  dsimp only
  rw [if_pos hvalid]
  rfl

theorem editBattery_of_invalid (h : batteryFromBody s.plan.battery rest = none
    ∨ ∃ b, batteryFromBody s.plan.battery rest = some b ∧ validBattery s.sys.straps.vsys b = false) :
    s.editBattery rest = (s, .invalid) := by
  unfold State.editBattery
  rcases h with h | ⟨b, h, hvalid⟩
  · rw [h]
  · rw [h]
    dsimp only
    rw [if_neg (by simp [hvalid])]

theorem editOcv_of_valid {o : Vector OcvPoint 8} (h : ocvFromBody s.plan.ocv rest = some o)
    (hvalid : validOcv s.sys.straps.vsys o = true) : s.editOcv rest = (s.setOcvTable o, .ok) := by
  unfold State.editOcv
  rw [h]
  dsimp only
  rw [if_pos hvalid]
  rfl

theorem editOcv_of_invalid (h : ocvFromBody s.plan.ocv rest = none
    ∨ ∃ o, ocvFromBody s.plan.ocv rest = some o ∧ validOcv s.sys.straps.vsys o = false) :
    s.editOcv rest = (s, .invalid) := by
  unfold State.editOcv
  rcases h with h | ⟨o, h, hvalid⟩
  · rw [h]
  · rw [h]
    dsimp only
    rw [if_neg (by simp [hvalid])]

end

/-- R4, R22: what a new profile does to Q, the remainder, Q_use and R. -/
def Estimator.recounted (e : Estimator) (old new : Battery) : Estimator :=
  if new.cNom ≠ old.cNom then e.rescale old new else if new.k ≠ old.k then e.recompute new else e

theorem recompute_qUse_r (e : Estimator) (b : Battery) :
    (e.recompute b).qUse = usable b e.temp ∧ (e.recompute b).r = reserveOf (e.recompute b).q (e.recompute b).qUse :=
  ⟨e.recompute_qUse b, by rw [Estimator.recompute_r, Estimator.recompute_qUse, Estimator.recompute_q]⟩

section
variable (e : Estimator) (old new : Battery)

theorem reprofile_eq : e.reprofile old new =
    { e.recounted old new with
      tailTimer :=
        if new.vFull ≠ old.vFull || new.tailCurrent ≠ old.tailCurrent || new.tailTime ≠ old.tailTime then 0
        else (e.recounted old new).tailTimer
      emptyTimer := if new.vEmpty ≠ old.vEmpty then 0 else (e.recounted old new).emptyTimer
      restTimer :=
        if new.restCurrent ≠ old.restCurrent || new.restTime ≠ old.restTime then 0 else (e.recounted old new).restTimer } :=
  rfl

/-- R4, R22: the items that a recount leaves. -/
theorem recounted_eq : e.recounted old new =
    { e with
      q := (e.recounted old new).q, rem := (e.recounted old new).rem, qUse := (e.recounted old new).qUse
      r := (e.recounted old new).r } := by
  unfold Estimator.recounted Estimator.rescale Estimator.recompute
  split_ifs <;> rfl

theorem reprofile_q : (e.reprofile old new).q = if new.cNom ≠ old.cNom then new.qNom * e.q / old.qNom else e.q := by
  show (e.recounted old new).q = _
  unfold Estimator.recounted Estimator.rescale Estimator.recompute
  split_ifs <;> rfl

theorem reprofile_rem : (e.reprofile old new).rem = if new.cNom ≠ old.cNom then 0 else e.rem := by
  show (e.recounted old new).rem = _
  unfold Estimator.recounted Estimator.rescale Estimator.recompute
  split_ifs <;> rfl

/-- R4: a changed C_nom or k recomputes Q_use and R. -/
theorem reprofile_recomputes (h : new.cNom ≠ old.cNom ∨ new.k ≠ old.k) :
    (e.reprofile old new).qUse = usable new e.temp
      ∧ (e.reprofile old new).r = reserveOf (e.reprofile old new).q (e.reprofile old new).qUse := by
  show (e.recounted old new).qUse = _ ∧ (e.recounted old new).r = reserveOf (e.recounted old new).q (e.recounted old new).qUse
  unfold Estimator.recounted
  by_cases hc : new.cNom ≠ old.cNom
  · rw [if_pos hc, Estimator.rescale]
    exact recompute_qUse_r _ new
  · rw [if_neg hc, if_pos (h.resolve_left hc)]
    exact recompute_qUse_r e new

theorem reprofile_stands (hc : new.cNom = old.cNom) (hk : new.k = old.k) :
    (e.reprofile old new).qUse = e.qUse ∧ (e.reprofile old new).r = e.r := by
  show (e.recounted old new).qUse = _ ∧ (e.recounted old new).r = _
  unfold Estimator.recounted
  rw [if_neg (not_not.2 hc), if_neg (not_not.2 hk)]
  exact ⟨rfl, rfl⟩

/-- R22: the items of the estimator that a new profile leaves. -/
theorem reprofile_rest : ((e.reprofile old new).synced, (e.reprofile old new).vc, (e.reprofile old new).vb,
      (e.reprofile old new).i, (e.reprofile old new).temp, (e.reprofile old new).tempValid, (e.reprofile old new).restMade,
      (e.reprofile old new).fullArm, (e.reprofile old new).emptyArm, (e.reprofile old new).startSyncDue)
    = (e.synced, e.vc, e.vb, e.i, e.temp, e.tempValid, e.restMade, e.fullArm, e.emptyArm, e.startSyncDue) := by
  rw [reprofile_eq, recounted_eq]

theorem reprofile_tailTimer : (e.reprofile old new).tailTimer =
    if new.vFull = old.vFull ∧ new.tailCurrent = old.tailCurrent ∧ new.tailTime = old.tailTime then e.tailTimer else 0 := by
  rw [reprofile_eq, recounted_eq]
  dsimp only
  by_cases h : new.vFull = old.vFull ∧ new.tailCurrent = old.tailCurrent ∧ new.tailTime = old.tailTime
  · rw [if_pos h, if_neg (by simp [h])]
  · rw [if_neg h, if_pos (by simp only [Bool.or_eq_true, decide_eq_true_eq]; tauto)]

theorem reprofile_emptyTimer : (e.reprofile old new).emptyTimer = if new.vEmpty = old.vEmpty then e.emptyTimer else 0 := by
  rw [reprofile_eq, recounted_eq]
  dsimp only
  by_cases h : new.vEmpty = old.vEmpty
  · rw [if_pos h, if_neg (not_not.2 h)]
  · rw [if_neg h, if_pos h]

theorem reprofile_restTimer : (e.reprofile old new).restTimer =
    if new.restCurrent = old.restCurrent ∧ new.restTime = old.restTime then e.restTimer else 0 := by
  rw [reprofile_eq, recounted_eq]
  dsimp only
  by_cases h : new.restCurrent = old.restCurrent ∧ new.restTime = old.restTime
  · rw [if_pos h, if_neg (by simp [h])]
  · rw [if_neg h, if_pos (by simp only [Bool.or_eq_true, decide_eq_true_eq]; tauto)]

end

/-- Settles O34: the new profile's part in the estimator is `Estimator.reprofile`, told field by field. -/
theorem setBatteryAndSetOcvReplaceTheirTables : Obligations.SetBatteryAndSetOcvReplaceTheirTables := by
  intro s p g rest h hg hlen
  refine ⟨fun b hb hvalid => ⟨_, s.est.reprofile s.plan.battery b, congrArg Host.Outcome.next ?_, rfl, reprofile_q _ _ _,
      reprofile_rem _ _ _, reprofile_recomputes _ _ _, reprofile_stands _ _ _, reprofile_tailTimer _ _ _,
      reprofile_emptyTimer _ _ _, reprofile_restTimer _ _ _, reprofile_rest _ _ _⟩, fun hnot => ?_, fun o ho hvalid => ?_,
    fun hnot => ?_⟩
  · refine (arrive_of_ownerAccepted (ty := .setBattery) rfl h hg (by simp [ReqType.minBody]) hlen rfl
      (editBattery_of_valid (s := s.heard p) hb hvalid)).trans ?_
    rw [heard_eq h.2.1]
    rfl
  · exact congrArg Host.Outcome.next (arrive_of_ownerRefused (ty := .setBattery) rfl h hg (by simp [ReqType.minBody]) hlen rfl
      (editBattery_of_invalid (s := s.heard p) hnot) nofun nofun)
  · refine congrArg Host.Outcome.next ((arrive_of_ownerAccepted (ty := .setOcv) rfl h hg (by simp [ReqType.minBody]) hlen rfl
      (editOcv_of_valid (s := s.heard p) ho hvalid)).trans ?_)
    rw [heard_eq h.2.1]
    rfl
  · exact congrArg Host.Outcome.next (arrive_of_ownerRefused (ty := .setOcv) rfl h hg (by simp [ReqType.minBody]) hlen rfl
      (editOcv_of_invalid (s := s.heard p) hnot) nofun nofun)

/-! ### SAVE, LOCK_PLAN, RESTART and the store write -/

section
variable {s : State} {p : Peer} {ty : ReqType} {body : List Byte}

/-- R173 to R177: an admitted INSTALLER request that is no plan edit, answered without fields. -/
theorem arrive_of_installerPlain {u : State} {x : Status} (hs : s.Serves) (hservice : p.service = true)
    (hlock : ty.gated = true → s.plan.lock = false) (hlen : body.length ≤ 56) (hmin : ty.minBody = 0)
    (hf : ty.fieldsPass body = true) (hswitch : ty ≠ .switch) (hedit : ty.isPlanEdit = false)
    (hown : ty.own body (s.heard p) = .plain u x) :
    s.arrive p ty.code body = u.replied p ty.code x [] := by
  have hadm : ty.refusal body (s.heard p) = none := refusal_of_installer (by omega) hservice hlock hf
  exact arrive_of_own hs hlen hadm hown (answerFields_plain hswitch hedit u x)

theorem arrive_save (h : s.Admits p) (hlen : body.length ≤ 56) : s.arrive p 0x2A body =
    if s.store.writing.isSome = true then (s.setService true).replied p 0x2A .busy []
    else State.replied { s.setService true with store := ⟨.badCheck, some s.plan⟩ } p 0x2A .ok [] := by
  split
  · rename_i hw
    have hown : ReqType.save.own body (s.heard p) = .plain (s.heard p) .busy := if_pos hw
    exact (arrive_of_installerPlain (ty := .save) h.1 h.2.1 (fun _ => h.2.2) hlen rfl rfl nofun rfl hown).trans (by rw [heard_eq h.2.1]; rfl)
  · rename_i hw
    have hown : ReqType.save.own body (s.heard p) = .plain (s.heard p).startWrite .ok := if_neg hw
    exact (arrive_of_installerPlain (ty := .save) h.1 h.2.1 (fun _ => h.2.2) hlen rfl rfl nofun rfl hown).trans (by rw [heard_eq h.2.1]; rfl)

theorem arrive_lockPlan (h : s.Admits p) (hlen : body.length ≤ 56) : s.arrive p 0x2B body =
    if s.store.writing.isSome = true then (s.setService true).replied p 0x2B .busy []
    else State.replied { s.setService true with
      plan := { s.plan with lock := true }, store := ⟨.badCheck, some { s.plan with lock := true }⟩ } p 0x2B .ok [] := by
  split
  · rename_i hw
    have hown : ReqType.lockPlan.own body (s.heard p) = .plain (s.heard p) .busy := if_pos hw
    exact (arrive_of_installerPlain (ty := .lockPlan) h.1 h.2.1 (fun _ => h.2.2) hlen rfl rfl nofun rfl hown).trans (by rw [heard_eq h.2.1]; rfl)
  · rename_i hw
    have hown : ReqType.lockPlan.own body (s.heard p) = .plain ((s.heard p).setLock true).startWrite .ok := if_neg hw
    exact (arrive_of_installerPlain (ty := .lockPlan) h.1 h.2.1 (fun _ => h.2.2) hlen rfl rfl nofun rfl hown).trans (by rw [heard_eq h.2.1]; rfl)

/-- R197: the lock does not gate RESTART. -/
theorem arrive_restart (hs : s.Serves) (hservice : p.service = true) (hlen : body.length ≤ 56) : s.arrive p 0x2C body =
    if s.store.writing.isSome = true then (s.setService true).replied p 0x2C .busy []
    else State.replied { s with sys := { s.sys with service := true, restartPending := true } } p 0x2C .ok [] := by
  split
  · rename_i hw
    have hown : ReqType.restart.own body (s.heard p) = .plain (s.heard p) .busy := if_pos hw
    exact (arrive_of_installerPlain (ty := .restart) hs hservice nofun hlen rfl rfl nofun rfl hown).trans (by rw [heard_eq hservice]; rfl)
  · rename_i hw
    have hown : ReqType.restart.own body (s.heard p) = .plain (s.heard p).setRestartPending .ok := if_neg hw
    exact (arrive_of_installerPlain (ty := .restart) hs hservice nofun hlen rfl rfl nofun rfl hown).trans (by rw [heard_eq hservice]; rfl)

end

/-- Settles O37. -/
theorem saveLockAndTheStoreWrite : Obligations.SaveLockAndTheStoreWrite := by
  refine ⟨fun s p body h hlen hw => ?_, fun s p body h hlen hw => ?_, fun s x hx => ?_⟩
  · have hnot : ¬s.store.writing.isSome = true := by simp [hw]
    exact ⟨congrArg Host.Outcome.next ((arrive_save h hlen).trans (if_neg hnot)),
      congrArg Host.Outcome.next ((arrive_lockPlan h hlen).trans (if_neg hnot))⟩
  · exact ⟨congrArg Host.Outcome.next ((arrive_save h hlen).trans (if_pos hw)),
      congrArg Host.Outcome.next ((arrive_lockPlan h hlen).trans (if_pos hw))⟩
  · constructor
    · show Host.Outcome.next _ = _
      rw [hx]
      rfl
    · show Host.Outcome.next _ = _
      rw [hx]
      rfl

end Sys2Proof.Machine
end

section
/-!
PROOF. What a battery sample and a temperature sample make of the estimator (R1, R2, R5 to R19).
-/

namespace Sys2Proof.Machine

/-! ### Stages A to D -/

/-- R1: the estimator after stages A to D. -/
def Estimator.met (e : Estimator) (b : Battery) (ocv : Vector OcvPoint 8) (vb : Nat) (i : Int) : Estimator :=
  (e.stagesAC b ocv vb i).stageD b

section
variable (e : Estimator) (b : Battery) (ocv : Vector OcvPoint 8) (vb : Nat) (i : Int)

/-- R5, R6: counting touches Q and the remainder. -/
theorem count_eq : e.count b i = { e with q := (e.count b i).q, rem := (e.count b i).rem } := by
  unfold Estimator.count
  split <;> rfl

theorem count_q : (e.count b i).q =
    if i ≤ 0 then e.q - (-i).toNat else min b.qNom (e.q + (e.rem + i.toNat * b.eta) / 1000) := by
  unfold Estimator.count
  split <;> rfl

theorem count_rem : (e.count b i).rem = if i ≤ 0 then e.rem else (e.rem + i.toNat * b.eta) % 1000 := by
  unfold Estimator.count
  split <;> rfl

theorem syncTo_eq (r : Nat) : e.syncTo r = { e with q := e.qUse * r / 1000, rem := 0 } := by rw [Estimator.syncTo]

/-- R1: a sample after the start sync is counted. -/
theorem met_of_counted (h : e.startSyncDue = false) : e.met b ocv vb i =
    { e with
      vb := vb, i := i, vc := compensated b vb i, q := (e.count b i).q, rem := (e.count b i).rem
      r := reserveOf (e.count b i).q e.qUse
      fullArm := e.fullArm || reserveOf (e.count b i).q e.qUse < 950
      emptyArm := e.emptyArm || b.vEmpty + 300 < compensated b vb i } := by
  unfold Estimator.met Estimator.stagesAC
  dsimp only
  rw [h, if_neg Bool.false_ne_true, count_eq]
  rw [count_q, count_rem, count_q, count_rem, Estimator.stageD]

/-- R16: the first sample after POWER_ON makes the start sync. -/
theorem met_of_due (h : e.startSyncDue = true) : e.met b ocv vb i =
    { e with
      vb := vb, i := i, vc := compensated b vb i, q := e.qUse * ocvLookup ocv (compensated b vb i) / 1000, rem := 0
      r := reserveOf (e.qUse * ocvLookup ocv (compensated b vb i) / 1000) e.qUse
      synced := false, startSyncDue := false
      fullArm := e.fullArm || reserveOf (e.qUse * ocvLookup ocv (compensated b vb i) / 1000) e.qUse < 950
      emptyArm := e.emptyArm || b.vEmpty + 300 < compensated b vb i } := by
  unfold Estimator.met Estimator.stagesAC
  dsimp only
  rw [if_pos h, syncTo_eq, Estimator.stageD]

/-- R1, R10, R12, R18, R19: whatever stage B was, what stages A to D touch. -/
theorem met_eq : e.met b ocv vb i =
    { e with
      vb := vb, i := i, vc := compensated b vb i, q := (e.met b ocv vb i).q, rem := (e.met b ocv vb i).rem
      r := reserveOf (e.met b ocv vb i).q e.qUse
      synced := (e.met b ocv vb i).synced, startSyncDue := false
      fullArm := e.fullArm || (e.met b ocv vb i).r < 950
      emptyArm := e.emptyArm || b.vEmpty + 300 < compensated b vb i } := by
  cases h : e.startSyncDue with
  | false => rw [met_of_counted e b ocv vb i h]; dsimp only; rw [h]
  | true => rw [met_of_due e b ocv vb i h]

end

/-! ### Stages E to G without a sync -/

section
variable {e : Estimator} {b : Battery} {ocv : Vector OcvPoint 8}

/-- R17: a sample that does not complete the rest timer. -/
theorem stageE_of_short (h : e.restMade = true ∨ e.restTimer + 1 < b.restTime * 600) : e.stageE b ocv =
    ({ e with
        restTimer := if e.i.natAbs ≤ b.restCurrent then min (e.restTimer + 1) (b.restTime * 600) else 0
        restMade := e.restMade && e.i.natAbs ≤ b.restCurrent }, false) := by
  unfold Estimator.stageE
  by_cases hi : e.i.natAbs ≤ b.restCurrent
  · have hshort : ¬(decide (b.restTime * 600 ≤ min (e.restTimer + 1) (b.restTime * 600)) && !e.restMade) = true := by
      simp only [Bool.and_eq_true, decide_eq_true_eq, Bool.not_eq_true']
      rcases h with h | h
      · simp [h]
      · omega
    rw [if_pos hi, if_pos hi]
    dsimp only
    rw [if_neg hshort, decide_eq_true hi, Bool.and_true]
  · rw [if_neg hi, if_neg hi, decide_eq_false hi, Bool.and_false]

/-- R18: a sample that does not complete the tail timer. -/
theorem stageF_of_short (h : e.tailTimer + 1 < b.tailTime * 10) : e.stageF b =
    ({ e with
        tailTimer :=
          if e.fullArm = true ∧ 0 < e.i ∧ e.i ≤ (b.tailCurrent : Int) ∧ b.vFull ≤ e.vb then e.tailTimer + 1 else 0 },
      false) := by
  unfold Estimator.stageF
  by_cases harm : e.fullArm = true
  · rw [if_neg (by simp [harm])]
    by_cases htail : 0 < e.i ∧ e.i ≤ (b.tailCurrent : Int) ∧ b.vFull ≤ e.vb
    · rw [if_pos (by simp [htail]), if_neg (Nat.not_le.2 h), if_pos ⟨harm, htail⟩]
    · rw [if_neg (by simpa [and_assoc] using htail), if_neg fun k => htail k.2]
  · rw [if_pos (by simpa using harm), if_neg fun k => harm k.1]

/-- R19: a sample that does not complete the empty timer. -/
theorem stageG_of_short (h : e.emptyTimer + 1 < 100) : e.stageG b =
    ({ e with emptyTimer := if e.emptyArm = true ∧ e.vc ≤ b.vEmpty then e.emptyTimer + 1 else 0 }, false) := by
  unfold Estimator.stageG
  by_cases harm : e.emptyArm = true
  · rw [if_neg (by simp [harm])]
    by_cases hlow : e.vc ≤ b.vEmpty
    · rw [if_pos hlow, if_neg (Nat.not_le.2 h), if_pos ⟨harm, hlow⟩]
    · rw [if_neg hlow, if_neg fun k => hlow k.2]
  · rw [if_pos (by simpa using harm), if_neg fun k => harm k.1]

/-! ### Stages E to G with a sync -/

/-- R17: the sample that completes the rest timer. -/
theorem stageE_of_full (hi : e.i.natAbs ≤ b.restCurrent) (hmade : e.restMade = false) (h : b.restTime * 600 ≤ e.restTimer + 1) :
    e.stageE b ocv =
      ({ e with
          q := if b.resync < max (ocvLookup ocv e.vc) e.r - min (ocvLookup ocv e.vc) e.r then e.qUse * ocvLookup ocv e.vc / 1000
            else e.q
          rem := if b.resync < max (ocvLookup ocv e.vc) e.r - min (ocvLookup ocv e.vc) e.r then 0 else e.rem
          restTimer := b.restTime * 600, restMade := true, synced := true }, true) := by
  have hmin : min (e.restTimer + 1) (b.restTime * 600) = b.restTime * 600 := Nat.min_eq_right h
  unfold Estimator.stageE
  rw [if_pos hi]
  dsimp only
  rw [hmin, if_pos (by simp [hmade])]
  split_ifs <;> rfl

/-- R18: the sample at which the full anchor fires. -/
theorem stageF_of_full (harm : e.fullArm = true) (hpos : 0 < e.i) (hcurrent : e.i ≤ (b.tailCurrent : Int))
    (hvolt : b.vFull ≤ e.vb) (h : b.tailTime * 10 ≤ e.tailTimer + 1) :
    e.stageF b = ({ e with q := b.qNom, rem := 0, fullArm := false, tailTimer := 0, synced := true }, true) := by
  unfold Estimator.stageF
  rw [if_neg (by simp [harm]), if_pos (by simp [hpos, hcurrent, hvolt]), if_pos h]

/-- R19: the sample at which the empty anchor fires. -/
theorem stageG_of_full (harm : e.emptyArm = true) (hlow : e.vc ≤ b.vEmpty) (h : 99 ≤ e.emptyTimer) :
    e.stageG b =
      ({ e with
          q := if b.rAnchor < e.r then e.qUse * b.rAnchor / 1000 else e.q
          rem := if b.rAnchor < e.r then 0 else e.rem
          emptyArm := false, emptyTimer := 0, synced := true }, true) := by
  unfold Estimator.stageG
  rw [if_neg (by simp [harm]), if_pos hlow, if_pos (by omega)]
  split_ifs <;> rfl

end

/-! ### A sample -/

section
variable {s : State} {vb i : Int}

theorem clampInt_of_mem {lo hi x : Int} (h : lo ≤ x) (k : x ≤ hi) : clampInt lo hi x = x := by
  unfold clampInt
  omega

/-- R1: the stages of a sample as the front end delivers it. -/
theorem sampleResult_eq (h0 : 0 ≤ vb) (h1 : vb ≤ 40000) (h2 : -30000 ≤ i) (h3 : i ≤ 30000) {x y z : Estimator} {m n k : Bool}
    (hx : (s.est.met s.plan.battery s.plan.ocv vb.toNat i).stageE s.plan.battery s.plan.ocv = (x, m))
    (hy : x.stageF s.plan.battery = (y, n)) (hz : y.stageG s.plan.battery = (z, k)) :
    s.sampleResult vb i =
      ⟨{ z with r := reserveOf z.q z.qUse }, syncOf .rest (x, m) ++ syncOf .full (y, n) ++ syncOf .empty (z, k)⟩ := by
  unfold State.sampleResult Estimator.sample
  unfold Estimator.met at hx
  rw [clampInt_of_mem h0 h1, clampInt_of_mem h2 h3]
  dsimp only
  rw [hx]
  dsimp only
  rw [hy]
  dsimp only
  rw [hz]
  rfl

/-- R23, R41: what a sample publishes. -/
theorem publish_eq (e : Estimator) : s.mail.publish e.update s.comparatorListens =
    ⟨s.mail.level ++ [⟨e.r, e.vc, e.vb, e.i⟩], s.mail.disconnect ++ [⟨e.r, e.vc, e.vb, e.i⟩],
      if s.disc.device = .isolated then s.mail.sag else s.mail.sag ++ [e.vb]⟩ := by
  unfold Mail.publish Estimator.update State.comparatorListens
  by_cases h : s.disc.device = .isolated <;> simp [h]

theorem takeBatterySample_of_result {e : Estimator} {syncs : List (SyncOrigin × Nat)}
    (h : s.sampleResult vb i = ⟨e, syncs⟩) : s.takeBatterySample vb i =
      { s with
        est := e, ring := (syncs.map fun o => s.notice .sync none o.1.code o.2).foldl Ring.push s.ring
        mail := ⟨s.mail.level ++ [⟨e.r, e.vc, e.vb, e.i⟩], s.mail.disconnect ++ [⟨e.r, e.vc, e.vb, e.i⟩],
          if s.disc.device = .isolated then s.mail.sag else s.mail.sag ++ [e.vb]⟩ } := by
  unfold State.takeBatterySample
  rw [h, ← publish_eq]
  dsimp only
  rw [State.pushAll_eq, State.pushAll_ring, List.map_map]
  rfl

end

/-- R12: V_c as the statements write it. -/
theorem compensated_eq (b : Battery) {vb : Int} (h : 0 ≤ vb) (i : Int) :
    compensated b vb.toNat i = (max 0 (min 40000 (vb - (i * (b.rInt : Int)).tdiv 100))).toNat := by
  unfold compensated clampInt
  rw [Int.toNat_of_nonneg h]

section
variable {s : State} {vb i : Int}

/-- R1: the estimator after a sample at which no sync of stages E to G is made. -/
def State.sampledEst (s : State) (vb : Nat) (i : Int) : Estimator :=
  let d := s.est.met s.plan.battery s.plan.ocv vb i
  { d with
    restTimer := if d.i.natAbs ≤ s.plan.battery.restCurrent then min (d.restTimer + 1) (s.plan.battery.restTime * 600) else 0
    restMade := d.restMade && d.i.natAbs ≤ s.plan.battery.restCurrent
    tailTimer :=
      if d.fullArm = true ∧ 0 < d.i ∧ d.i ≤ (s.plan.battery.tailCurrent : Int) ∧ s.plan.battery.vFull ≤ d.vb then
        d.tailTimer + 1 else 0
    emptyTimer := if d.emptyArm = true ∧ d.vc ≤ s.plan.battery.vEmpty then d.emptyTimer + 1 else 0
    r := reserveOf d.q d.qUse }

theorem met_kept (e : Estimator) (b : Battery) (ocv : Vector OcvPoint 8) (vb : Nat) (i : Int) :
    (e.met b ocv vb i).restMade = e.restMade ∧ (e.met b ocv vb i).restTimer = e.restTimer
      ∧ (e.met b ocv vb i).tailTimer = e.tailTimer ∧ (e.met b ocv vb i).emptyTimer = e.emptyTimer
      ∧ (e.met b ocv vb i).i = i ∧ (e.met b ocv vb i).vb = vb ∧ (e.met b ocv vb i).vc = compensated b vb i := by
  rw [met_eq]
  exact ⟨rfl, rfl, rfl, rfl, rfl, rfl, rfl⟩

theorem sampleResult_of_short (h0 : 0 ≤ vb) (h1 : vb ≤ 40000) (h2 : -30000 ≤ i) (h3 : i ≤ 30000)
    (hrest : s.est.restMade = true ∨ s.est.restTimer + 1 < s.plan.battery.restTime * 600)
    (htail : s.est.tailTimer + 1 < s.plan.battery.tailTime * 10) (hempty : s.est.emptyTimer + 1 < 100) :
    s.sampleResult vb i = ⟨s.sampledEst vb.toNat i, []⟩ := by
  obtain ⟨hmade, hrestTimer, htailTimer, hemptyTimer, -, -, -⟩ :=
    met_kept s.est s.plan.battery s.plan.ocv vb.toNat i
  exact sampleResult_eq h0 h1 h2 h3 (stageE_of_short (by rwa [hmade, hrestTimer]))
    (stageF_of_short (by rwa [← htailTimer] at htail)) (stageG_of_short (by rwa [← hemptyTimer] at hempty))

end

/-- Settles O41: stages A to D, and the timers of stages E to G short of their ends. -/
theorem batterySamplesCountTheCharge : Obligations.BatterySamplesCountTheCharge := by
  intro s vb i h0 h1 h2 h3 hrest htail hempty
  have hresult := sampleResult_of_short h0 h1 h2 h3 hrest htail hempty
  have hmet := met_eq s.est s.plan.battery s.plan.ocv vb.toNat i
  have hcounted := met_of_counted s.est s.plan.battery s.plan.ocv vb.toNat i
  have hdue := met_of_due s.est s.plan.battery s.plan.ocv vb.toNat i
  refine ⟨_, congrArg Host.Outcome.next (takeBatterySample_of_result hresult), ?_⟩
  rw [← compensated_eq _ h0, ← Battery.qNom, ← count_q, ← count_rem]
  unfold State.sampledEst
  generalize s.est.met s.plan.battery s.plan.ocv vb.toNat i = d at hmet hcounted hdue ⊢
  rw [hmet]
  refine ⟨rfl, rfl, rfl, rfl, fun h => ?_, fun h => ?_, rfl, rfl, rfl, rfl, rfl, ?_, rfl, rfl, rfl, rfl, rfl⟩
  · rw [hcounted h]
    exact ⟨rfl, rfl, rfl⟩
  · rw [hdue h]
    exact ⟨rfl, rfl, rfl⟩
  · rw [hmet]

/-! ### Samples that make a sync -/

section
variable {s : State} {vb i : Int} {e : Estimator} {o : SyncOrigin} {r : Nat}

theorem sampleMakes_of_result (h : s.sampleResult vb i = ⟨e, [(o, r)]⟩) : s.sampleMakes o vb i = true := by
  unfold State.sampleMakes
  rw [h]
  simp

theorem exec_restSync_of_result (h : s.sampleResult vb i = ⟨e, [(.rest, r)]⟩) :
    exec (.restSync vb i) s = .next (s.takeBatterySample vb i) :=
  congrArg Host.Outcome.next (if_pos (sampleMakes_of_result h))

theorem exec_fullAnchor_of_result (h : s.sampleResult vb i = ⟨e, [(.full, r)]⟩) :
    exec (.fullAnchor vb i) s = .next (s.takeBatterySample vb i) :=
  congrArg Host.Outcome.next (if_pos (sampleMakes_of_result h))

theorem exec_emptyAnchor_of_result (h : s.sampleResult vb i = ⟨e, [(.empty, r)]⟩) :
    exec (.emptyAnchor vb i) s = .next (s.takeBatterySample vb i) :=
  congrArg Host.Outcome.next (if_pos (sampleMakes_of_result h))

theorem takeBatterySample_of_sync (h : s.sampleResult vb i = ⟨e, [(o, e.r)]⟩) (hvb : e.vb = vb.toNat) (hi : e.i = i) :
    s.takeBatterySample vb i =
      { s with
        est := e
        mail := ⟨s.mail.level ++ [⟨e.r, e.vc, vb.toNat, i⟩], s.mail.disconnect ++ [⟨e.r, e.vc, vb.toNat, i⟩],
          if s.disc.device = .isolated then s.mail.sag else s.mail.sag ++ [vb.toNat]⟩
        ring := s.ring.push (s.notice .sync none o.code e.r) } := by
  rw [takeBatterySample_of_result h, hvb, hi]
  rfl

end

/-- R17: the estimator `d` of stages A to D after the rest sync. -/
def Estimator.restSynced (d : Estimator) (b : Battery) (ocv : Vector OcvPoint 8) : Estimator :=
  let ro := ocvLookup ocv d.vc
  let q := if b.resync < max ro d.r - min ro d.r then d.qUse * ro / 1000 else d.q
  { d with
    q := q, rem := if b.resync < max ro d.r - min ro d.r then 0 else d.rem
    restTimer := b.restTime * 600, restMade := true, synced := true
    tailTimer :=
      if d.fullArm = true ∧ 0 < d.i ∧ d.i ≤ (b.tailCurrent : Int) ∧ b.vFull ≤ d.vb then d.tailTimer + 1 else 0
    emptyTimer := if d.emptyArm = true ∧ d.vc ≤ b.vEmpty then d.emptyTimer + 1 else 0
    r := reserveOf q d.qUse }

/-- R17: the rest timer and its note after a sample that does not complete it. -/
def Estimator.rested (d : Estimator) (b : Battery) : Estimator :=
  { d with
    restTimer := if d.i.natAbs ≤ b.restCurrent then min (d.restTimer + 1) (b.restTime * 600) else 0
    restMade := d.restMade && d.i.natAbs ≤ b.restCurrent }

/-- R18: the estimator `d` of stages A to D after the full anchor. -/
def Estimator.fullAnchored (d : Estimator) (b : Battery) : Estimator :=
  { d.rested b with
    q := b.qNom, rem := 0, fullArm := false, tailTimer := 0, synced := true
    emptyTimer := if d.emptyArm = true ∧ d.vc ≤ b.vEmpty then d.emptyTimer + 1 else 0
    r := reserveOf b.qNom d.qUse }

/-- R19: the estimator `d` of stages A to D after the empty anchor. -/
def Estimator.emptyAnchored (d : Estimator) (b : Battery) : Estimator :=
  let q := if b.rAnchor < d.r then d.qUse * b.rAnchor / 1000 else d.q
  { d.rested b with
    q := q, rem := if b.rAnchor < d.r then 0 else d.rem
    emptyArm := false, emptyTimer := 0, synced := true
    tailTimer :=
      if d.fullArm = true ∧ 0 < d.i ∧ d.i ≤ (b.tailCurrent : Int) ∧ b.vFull ≤ d.vb then d.tailTimer + 1 else 0
    r := reserveOf q d.qUse }

section
variable {s : State} {vb i : Int}

theorem sampleResult_of_rest (h0 : 0 ≤ vb) (h1 : vb ≤ 40000) (h2 : -30000 ≤ i) (h3 : i ≤ 30000)
    (hi : i.natAbs ≤ s.plan.battery.restCurrent) (hmade : s.est.restMade = false)
    (hrest : s.plan.battery.restTime * 600 ≤ s.est.restTimer + 1)
    (htail : s.est.tailTimer + 1 < s.plan.battery.tailTime * 10) (hempty : s.est.emptyTimer + 1 < 100) :
    s.sampleResult vb i =
      ⟨(s.est.met s.plan.battery s.plan.ocv vb.toNat i).restSynced s.plan.battery s.plan.ocv,
        [(.rest, ((s.est.met s.plan.battery s.plan.ocv vb.toNat i).restSynced s.plan.battery s.plan.ocv).r)]⟩ := by
  obtain ⟨hmade', hrestTimer, htailTimer, hemptyTimer, hi', -, -⟩ :=
    met_kept s.est s.plan.battery s.plan.ocv vb.toNat i
  exact sampleResult_eq h0 h1 h2 h3 (stageE_of_full (by rwa [hi']) (by rwa [hmade']) (by rwa [hrestTimer]))
    (stageF_of_short (by rwa [← htailTimer] at htail)) (stageG_of_short (by rwa [← hemptyTimer] at hempty))

/-- R17: a sample that does not complete the rest timer. -/
theorem stageE_of_rested (hrest : s.est.restMade = true ∨ s.est.restTimer + 1 < s.plan.battery.restTime * 600) (x : Nat) :
    (s.est.met s.plan.battery s.plan.ocv x i).stageE s.plan.battery s.plan.ocv =
      ((s.est.met s.plan.battery s.plan.ocv x i).rested s.plan.battery, false) := by
  obtain ⟨hmade', hrestTimer, -⟩ := met_kept s.est s.plan.battery s.plan.ocv x i
  exact stageE_of_short (by rwa [hmade', hrestTimer])

theorem sampleResult_of_fullAnchor (h0 : 0 ≤ vb) (h1 : vb ≤ 40000) (h2 : -30000 ≤ i) (h3 : i ≤ 30000)
    (hrest : s.est.restMade = true ∨ s.est.restTimer + 1 < s.plan.battery.restTime * 600)
    (harm : (s.est.met s.plan.battery s.plan.ocv vb.toNat i).fullArm = true) (hpos : 0 < i)
    (hcurrent : i ≤ (s.plan.battery.tailCurrent : Int)) (hvolt : s.plan.battery.vFull ≤ vb.toNat)
    (htail : s.plan.battery.tailTime * 10 ≤ s.est.tailTimer + 1) (hempty : s.est.emptyTimer + 1 < 100) :
    s.sampleResult vb i =
      ⟨(s.est.met s.plan.battery s.plan.ocv vb.toNat i).fullAnchored s.plan.battery,
        [(.full, ((s.est.met s.plan.battery s.plan.ocv vb.toNat i).fullAnchored s.plan.battery).r)]⟩ := by
  obtain ⟨-, -, htailTimer, hemptyTimer, hi', hvb, -⟩ := met_kept s.est s.plan.battery s.plan.ocv vb.toNat i
  exact sampleResult_eq h0 h1 h2 h3 (stageE_of_rested (i := i) hrest vb.toNat)
    (stageF_of_full harm (by rwa [← hi'] at hpos) (by rwa [← hi'] at hcurrent) (by rwa [← hvb] at hvolt)
      (by rwa [← htailTimer] at htail))
    (stageG_of_short (by rwa [← hemptyTimer] at hempty))

theorem sampleResult_of_emptyAnchor (h0 : 0 ≤ vb) (h1 : vb ≤ 40000) (h2 : -30000 ≤ i) (h3 : i ≤ 30000)
    (hrest : s.est.restMade = true ∨ s.est.restTimer + 1 < s.plan.battery.restTime * 600)
    (harm : (s.est.met s.plan.battery s.plan.ocv vb.toNat i).emptyArm = true)
    (hlow : compensated s.plan.battery vb.toNat i ≤ s.plan.battery.vEmpty) (hempty : 99 ≤ s.est.emptyTimer)
    (htail : s.est.tailTimer + 1 < s.plan.battery.tailTime * 10) :
    s.sampleResult vb i =
      ⟨(s.est.met s.plan.battery s.plan.ocv vb.toNat i).emptyAnchored s.plan.battery,
        [(.empty, ((s.est.met s.plan.battery s.plan.ocv vb.toNat i).emptyAnchored s.plan.battery).r)]⟩ := by
  obtain ⟨-, -, htailTimer, hemptyTimer, -, -, hvc⟩ := met_kept s.est s.plan.battery s.plan.ocv vb.toNat i
  exact sampleResult_eq h0 h1 h2 h3 (stageE_of_rested (i := i) hrest vb.toNat)
    (stageF_of_short (by rwa [← htailTimer] at htail))
    (stageG_of_full harm (by rwa [← hvc] at hlow) (by rwa [← hemptyTimer] at hempty))

end

/-- Settles O42: stage E completes the rest timer, and stages F and G make no sync. -/
theorem restSyncFollowsTheOcvTable : Obligations.RestSyncFollowsTheOcvTable := by
  intro s vb i h0 h1 h2 h3 hdue hi hmade hrest htail hempty
  have hcounted := met_of_counted s.est s.plan.battery s.plan.ocv vb.toNat i hdue
  obtain ⟨-, -, -, -, hi', hvb, -⟩ := met_kept s.est s.plan.battery s.plan.ocv vb.toNat i
  have hresult := sampleResult_of_rest h0 h1 h2 h3 hi hmade hrest htail hempty
  have hsample := takeBatterySample_of_sync hresult hvb hi'
  rw [← compensated_eq _ h0]
  refine ⟨_, (exec_restSync_of_result hresult).trans (congrArg _ hsample), congrArg Host.Outcome.next hsample, rfl, ?_⟩
  rw [hcounted]
  exact ⟨rfl, ⟨rfl, rfl⟩, rfl, rfl, rfl, rfl, rfl⟩

/-- Settles O43: stage F or stage G fires, and the other stages make no sync. -/
theorem anchorsSetTheCount : Obligations.AnchorsSetTheCount := by
  intro s vb i h0 h1 h2 h3 hdue hrest
  have hcounted := met_of_counted s.est s.plan.battery s.plan.ocv vb.toNat i hdue
  obtain ⟨-, -, -, -, hi', hvb, -⟩ := met_kept s.est s.plan.battery s.plan.ocv vb.toNat i
  refine ⟨fun harm hpos hcurrent hvolt htail hempty => ?_, fun harm hlow hempty htail => ?_⟩
  · have hresult := sampleResult_of_fullAnchor h0 h1 h2 h3 hrest (by rw [hcounted]; simp [harm]) hpos hcurrent hvolt htail
      hempty
    have hsample := takeBatterySample_of_sync hresult hvb hi'
    rw [← Battery.qNom]
    refine ⟨_, (exec_fullAnchor_of_result hresult).trans (congrArg _ hsample), congrArg Host.Outcome.next hsample, rfl, ?_⟩
    rw [hcounted]
    exact ⟨rfl, rfl, rfl, rfl, rfl, rfl, rfl⟩
  · have hresult := sampleResult_of_emptyAnchor h0 h1 h2 h3 hrest (by rw [hcounted]; simp [harm]) hlow hempty htail
    have hsample := takeBatterySample_of_sync hresult hvb hi'
    refine ⟨_, (exec_emptyAnchor_of_result hresult).trans (congrArg _ hsample), congrArg Host.Outcome.next hsample, rfl, ?_⟩
    rw [hcounted]
    exact ⟨⟨rfl, rfl⟩, rfl, rfl, rfl, rfl, rfl⟩

/-- Settles O44. -/
theorem temperatureSetsUsableCapacity : Obligations.TemperatureSetsUsableCapacity := by
  intro s temp valid
  refine ⟨fun hvalid hlow hhigh => ?_, fun h => ?_⟩
  · have hdelivered : temperatureDelivered temp valid = true := by
      simp [temperatureDelivered, hvalid, hlow, hhigh]
    have htake : s.est.takeTemperature s.plan.battery temp valid =
        ({ s.est with temp := temp, tempValid := true } : Estimator).recompute s.plan.battery := if_pos hdelivered
    refine ⟨{ s with est := ({ s.est with temp := temp, tempValid := true } : Estimator).recompute s.plan.battery }, ?_, ?_, ?_, ?_⟩
    · exact congrArg (fun e => Host.Outcome.next { s with est := e }) htake
    · rw [Estimator.recompute]
    · dsimp only
      rw [Estimator.recompute_qUse, usable, Battery.qNom, derate]
    · dsimp only
      rw [Estimator.recompute_r, Estimator.recompute_qUse, reserveOf]
  · have hdelivered : ¬temperatureDelivered temp valid = true := by
      simp only [temperatureDelivered, Bool.and_eq_true, decide_eq_true_eq]
      rcases h with h | h | h
      · simp [h]
      · omega
      · omega
    exact congrArg (fun e => Host.Outcome.next { s with est := e }) (if_neg hdelivered)

end Sys2Proof.Machine
end

section
/-!
PROOF. The choices among channels (R72, R73, R78, R82, R88), and the end of a shed pass (R72, R76).
-/

namespace Sys2Proof.Machine

/-! ### The first of a list in an order -/

/-- A strict order that tells any two channels apart. -/
structure OrdersChannels (before : Chan → Chan → Bool) : Prop where
  total : ∀ a b, a ≠ b → before a b = true ∨ before b a = true
  trans : ∀ a b c, before a b = true → before b c = true → before a c = true

theorem OrdersChannels.swap {before : Chan → Chan → Bool} (h : OrdersChannels before) :
    OrdersChannels fun a b => before b a :=
  ⟨fun a b hab => h.total b a hab.symm, fun a b c hab hbc => h.trans c b a hbc hab⟩

theorem pickFirst_isSome {before : Chan → Chan → Bool} {l : List Chan} {c : Chan} (h : c ∈ l) :
    (pickFirst before l).isSome = true := by
  cases l with
  | nil => cases h
  | cons x xs =>
    unfold pickFirst
    split
    · rfl
    · split <;> rfl

/-- The channel picked stands before every other. -/
theorem pickFirst_before {before : Chan → Chan → Bool} (hb : OrdersChannels before) {l : List Chan} {c : Chan}
    (h : pickFirst before l = some c) : ∀ d ∈ l, d ≠ c → before c d = true := by
  induction l generalizing c with
  | nil => exact fun d hd => absurd hd List.not_mem_nil
  | cons x xs ih =>
    intro d hd hne
    unfold pickFirst at h
    split at h
    · rename_i hnone
      cases h
      rcases List.mem_cons.1 hd with rfl | hd
      · exact absurd rfl hne
      · have := pickFirst_isSome (before := before) hd
        rw [hnone] at this
        cases this
    · rename_i y hy
      split at h
      · rename_i hyx
        cases h
        rcases List.mem_cons.1 hd with rfl | hd
        · exact hyx
        · exact ih hy d hd hne
      · rename_i hyx
        cases h
        rcases List.mem_cons.1 hd with rfl | hd
        · exact absurd rfl hne
        · by_cases hyd : d = y
          · subst hyd
            exact (hb.total _ _ hne).resolve_left hyx
          · have hyd' := ih hy d hd hyd
            by_cases hxy : y = x
            · rwa [hxy] at hyd'
            · exact hb.trans x y d ((hb.total y x hxy).resolve_left hyx) hyd'

/-- R88: the first of the channels with the greatest measure. -/
theorem pickFirst_greatest (f : Chan → Nat) {l : List Chan} {c : Chan} (h : pickFirst (fun a b => f b < f a) l = some c) :
    ∃ k m, l = k ++ c :: m ∧ (∀ d ∈ k, f d < f c) ∧ ∀ d ∈ m, f d ≤ f c := by
  induction l generalizing c with
  | nil => cases h
  | cons x xs ih =>
    unfold pickFirst at h
    split at h
    · rename_i hnone
      cases h
      refine ⟨[], xs, rfl, fun d hd => absurd hd List.not_mem_nil, fun d hd => ?_⟩
      have := pickFirst_isSome (before := fun a b => f b < f a) hd
      rw [hnone] at this
      cases this
    · rename_i y hy
      obtain ⟨k, m, hxs, hk, hm⟩ := ih hy
      split at h
      · rename_i hlt
        rw [decide_eq_true_eq] at hlt
        cases h
        exact ⟨x :: k, m, by rw [hxs]; rfl, List.forall_mem_cons.2 ⟨hlt, hk⟩, hm⟩
      · rename_i hle
        rw [decide_eq_true_eq, Nat.not_lt] at hle
        cases h
        refine ⟨[], xs, rfl, fun d hd => absurd hd List.not_mem_nil, fun d hd => ?_⟩
        rw [hxs, List.mem_append, List.mem_cons] at hd
        rcases hd with hd | rfl | hd
        · exact (hk d hd).le.trans hle
        · exact hle
        · exact (hm d hd).trans hle

section
variable (s : State)

/-- R73: the shed order, written out. -/
theorem shedBefore_iff (a b : Chan) : s.shedBefore a b = true ↔
    s.rank a < s.rank b ∨ (s.rank a = s.rank b ∧ ((s.chan b).startTime < (s.chan a).startTime
      ∨ ((s.chan b).startTime = (s.chan a).startTime ∧ b < a))) := by
  unfold State.shedBefore
  by_cases hr : s.rank a = s.rank b
  · rw [if_neg (not_not.2 hr)]
    by_cases ht : (s.chan a).startTime = (s.chan b).startTime
    · rw [if_neg (not_not.2 ht), decide_eq_true_eq]
      simp [hr, ht]
    · rw [if_pos ht, decide_eq_true_eq]
      simp [hr, Ne.symm ht]
  · rw [if_pos hr, decide_eq_true_eq]
    simp [hr]

theorem shedBefore_orders : OrdersChannels s.shedBefore where
  total a b hab := by
    rw [shedBefore_iff, shedBefore_iff, Fin.lt_def, Fin.lt_def]
    have := Fin.val_ne_of_ne hab
    omega
  trans a b c hab hbc := by
    rw [shedBefore_iff, Fin.lt_def] at hab hbc ⊢
    omega

end

/-- Settles O51: each choice is the first of its channels in an order that tells any two apart; the slot's is the first of those
of the highest rank. -/
theorem candidatesFollowTheShedOrder : Obligations.CandidatesFollowTheShedOrder := by
  intro s c
  have hmem : ∀ (q : Chan → Bool) d, q d = true → d ∈ allChans.filter q := fun q d hq =>
    List.mem_filter.2 ⟨mem_allChans d, hq⟩
  have hthrottled : ∀ d, (s.chan d).state = .throttled → decide ((s.chan d).state = .throttled) = true := fun d h =>
    decide_eq_true h
  refine ⟨fun h => ⟨isShedCandidate_of_shedCandidate h, fun d hd hne => ?_⟩,
    fun h => ⟨isSagCandidate_of_sagCandidate h, fun d hd hne => ?_⟩, fun h => ⟨state_of_bestThrottled h, fun d hd hne => ?_⟩,
    fun h => pickFirst_greatest s.rank h, fun h => pickFirst_isSome (hmem _ c h), fun h => pickFirst_isSome (hmem _ c h),
    fun h => pickFirst_isSome (hmem _ c (hthrottled c h)), fun h => pickFirst_isSome h⟩
  · exact (shedBefore_iff s c d).1 (pickFirst_before (shedBefore_orders s) h d (hmem _ d hd) hne)
  · exact (shedBefore_iff s c d).1 (pickFirst_before (shedBefore_orders s) h d (hmem _ d hd) hne)
  · have := (shedBefore_iff s d c).1 (pickFirst_before (shedBefore_orders s).swap h d (hmem _ d (hthrottled d hd)) hne)
    rwa [eq_comm (a := s.rank d), eq_comm (a := (s.chan c).startTime)] at this

/-! ### The end of a shed pass -/

section
variable {s : State}

/-- How many steps of a pass a channel can still take: two while it is ON, one while it is STARTING or THROTTLED. -/
def ChState.shedSteps (st : ChState) : Nat :=
  match st with
  | .on => 2
  | .starting => 1
  | .throttled => 1
  | _ => 0

/-- The steps that a pass can still make. -/
def State.stepsLeft (s : State) : Nat := (allChans.map fun c => (s.chan c).state.shedSteps).sum

theorem stepsLeft_le : s.stepsLeft ≤ 32 := by
  have hle : ∀ x ∈ allChans.map fun c => (s.chan c).state.shedSteps, x ≤ 2 := by
    intro x hx
    obtain ⟨c, -, rfl⟩ := List.mem_map.1 hx
    cases (s.chan c).state <;> decide
  have hsum := List.sum_le_card_nsmul _ 2 hle
  rw [List.length_map] at hsum
  exact hsum.trans (by decide)

theorem shedChannel_state (c : Chan) (o : Origin) (r : Reason) (i : Intent) :
    ((s.shedChannel c o r i).chan c).state = .rundown ∨ ((s.shedChannel c o r i).chan c).state = .waiting := by
  unfold State.shedChannel
  split
  · rw [State.enterRundown, State.chan_setChan_self]
    exact .inl rfl
  · right
    have hchan : (s.cutToWaiting c o r).chan = (s.cutTo c .waiting r).chan := rfl
    rw [hchan, State.cutTo_chan, Function.update_self]

/-- R74: one step of a pass leaves its channel with fewer steps. -/
theorem shedStep_state (c : Chan) : ((s.shedStep c).chan c).state = .throttled ∧ (s.chan c).state = .on
    ∨ ((s.shedStep c).chan c).state = .rundown ∨ ((s.shedStep c).chan c).state = .waiting := by
  unfold State.shedStep
  dsimp only
  split
  · rename_i h
    simp only [Bool.and_eq_true, decide_eq_true_eq] at h
    refine .inl ⟨?_, h.1⟩
    show ((s.throttle c).chan c).state = .throttled
    rw [State.throttle, State.chan_setChan_self]
  · exact .inr (shedChannel_state c .shed .shed .waitShed)

/-- R74: a step of a pass touches its candidate alone. -/
theorem shedStep_chan_of_ne {c d : Chan} (h : d ≠ c) : (s.shedStep c).chan d = s.chan d := (aside_shedStep h).chan

theorem isShedCandidate_of_shedStep {c d : Chan} (h : d ≠ c) : (s.shedStep c).isShedCandidate d = s.isShedCandidate d := by
  unfold State.isShedCandidate
  rw [shedStep_chan_of_ne h, State.rank_congr (plannerOnly_shedStep s c).plan d]

/-- R72: each step of a pass uses one of the steps left. -/
theorem shedStep_stepsLeft {c : Chan} (h : s.isShedCandidate c = true) : (s.shedStep c).stepsLeft < s.stepsLeft := by
  have hlt : ((s.shedStep c).chan c).state.shedSteps < (s.chan c).state.shedSteps := by
    obtain ⟨hst, -⟩ := State.isShedCandidate_iff.1 h
    rcases shedStep_state (s := s) c with ⟨ht, hon⟩ | ht | ht
    · rw [ht, hon]
      decide
    · rcases hst with hst | hst | hst <;> rw [ht, hst] <;> decide
    · rcases hst with hst | hst | hst <;> rw [ht, hst] <;> decide
  refine List.sum_lt_sum _ _ (fun d _ => ?_) ⟨c, mem_allChans c, hlt⟩
  by_cases hd : d = c
  · rw [hd]
    exact hlt.le
  · rw [shedStep_chan_of_ne hd]

/-- R72: where no step is left there is no candidate. -/
theorem shedCandidate_of_stepsLeft (h : s.stepsLeft = 0) : s.shedCandidate = none := by
  by_contra hne
  obtain ⟨c, hc⟩ := Option.ne_none_iff_exists'.1 hne
  have hlt := shedStep_stepsLeft (isShedCandidate_of_shedCandidate hc)
  omega

theorem endPass_ends (h : s.shedCandidate = none) : s.endPass.shedCandidate = none := by
  unfold State.endPass
  split
  · exact h
  · exact h

/-- R72: a pass with steps enough ends with P at or below D or with no candidate. -/
theorem shedPass_ends (n : Nat) (h : s.stepsLeft ≤ n) :
    (s.shedPass n).totalP ≤ (s.shedPass n).ceiling ∨ (s.shedPass n).shedCandidate = none := by
  induction n generalizing s with
  | zero => exact .inr (endPass_ends (shedCandidate_of_stepsLeft (Nat.le_zero.1 h)))
  | succ n ih =>
    unfold State.shedPass
    split
    · exact .inl ‹_›
    · split
      · exact .inr (endPass_ends ‹_›)
      · rename_i c hc
        have := shedStep_stepsLeft (isShedCandidate_of_shedCandidate hc)
        exact ih (by omega)

theorem endPass_chan : s.endPass.chan = s.chan := by
  unfold State.endPass
  split <;> rfl

/-- R72: a pass touches candidates only. -/
theorem shedPass_chan (n : Nat) {d : Chan} (h : s.isShedCandidate d = false) : (s.shedPass n).chan d = s.chan d := by
  induction n generalizing s with
  | zero => exact congrFun endPass_chan d
  | succ n ih =>
    unfold State.shedPass
    split
    · rfl
    · split
      · exact congrFun endPass_chan d
      · rename_i c hc
        have hne : d ≠ c := by
          rintro rfl
          rw [isShedCandidate_of_shedCandidate hc] at h
          cases h
        rw [ih (by rwa [isShedCandidate_of_shedStep hne]), shedStep_chan_of_ne hne]

end

/-- Settles O19: sixteen channels have at most thirty-two steps left, and each step uses one. -/
theorem shedPassEndsTheExcess : Obligations.ShedPassEndsTheExcess :=
  fun s => ⟨shedPass_ends passSteps stepsLeft_le, plannerOnly_shedPass s passSteps, fun _ h => shedPass_chan passSteps h⟩

end Sys2Proof.Machine
end

section
/-!
PROOF. The Disconnect Unit (08): isolation (R158), reconnection (R162) and the entry to RUN (R154), each told item by item,
and the requests, inputs and updates that lead to them.
-/

namespace Sys2Proof.Machine

section
variable {s t : State} {c d : Chan}

/-! ### The restore-quiet timer freshly started -/

/-- R80: the restore-quiet timer has its whole restore dwell left. -/
def State.QuietFresh (s : State) : Prop :=
  s.planner.restoreQuiet =
    some ⟨s.plan.levels.settings.restoreDwell * 1000, s.plan.levels.settings.restoreDwell * 1000⟩

theorem shedStep_quietFresh (c : Chan) : (s.shedStep c).QuietFresh := by
  unfold State.shedStep
  dsimp only
  split <;> rfl

theorem grantSlot_planner (c : Chan) : (s.grantSlot c).planner = s.planner := by
  unfold State.grantSlot
  split <;> rfl

theorem State.QuietFresh.not_mayAdmit (hs : s.QuietFresh) : ¬s.mayAdmit = true := fun hm => by
  have hnone := (State.mayAdmit_iff.1 hm).2.2.2.2.2
  rw [hs] at hnone
  cases hnone

/-- R80: while the timer runs there is neither an admission nor an unthrottling, and a shed starts it afresh. -/
theorem State.QuietFresh.act (hs : s.QuietFresh) (h : s.Act t) : t.QuietFresh := by
  cases h with
  | sheds c => exact shedStep_quietFresh c
  | reports => exact hs
  | timer x b => exact hs
  | unthrottles c hm => exact absurd hm hs.not_mayAdmit
  | serves c =>
    unfold State.QuietFresh
    rw [grantSlot_planner, (plannerOnly_grantSlot s c).plan]
    exact hs

theorem State.QuietFresh.acts (hs : s.QuietFresh) (h : s.Acts t) : t.QuietFresh :=
  h.keeps (P := State.QuietFresh) (fun _ _ hs h => hs.act h) hs

theorem State.QuietFresh.acts_of_works (hs : s.QuietFresh) (h : s.Works t) : s.Acts t := by
  cases h with
  | acts h => exact h
  | admits h e k hm he => exact absurd hm (hs.acts h).not_mayAdmit

theorem State.QuietFresh.works (hs : s.QuietFresh) (h : s.Works t) : t.QuietFresh := hs.acts (hs.acts_of_works h)

theorem State.QuietFresh.queued {ch : Channel} {e : Entry} (hs : s.QuietFresh) (k : s.Queued c ch e) (h : s.Works t) :
    t.Queued c ch e :=
  (hs.acts_of_works h).keeps (P := fun t => t.Queued c ch e) (fun _ _ hs h => (hs.aside h).queued hs) k

/-! ### Isolation (R158) -/

theorem Channel.isolated_eq (ch : Channel) :
    ch.isolated = if ch.state = .locked then ch else ch.keptWhenCut .isolation := rfl

theorem isolate_ring (r : IsoReason) : (s.isolate r).ring =
    (((allChans.filter fun c => (s.chan c).state = .checking).map fun c =>
        s.notice .checkResult (some c.val) 4 (Timer.elapsed (s.chan c).checkTimer))
      ++ [s.notice .isolated none r.code s.disc.vc]).foldl Ring.push s.ring := by
  have huptime : (s.isolateBlocks.pushAll (s.abortNotices allChans)).sys = s.sys :=
    (plannerOnly_pushAll _ _).sys.trans (plannerOnly_isolateBlocks s).sys
  have hnotices : (s.abortNotices allChans).map (fun x => s.isolateBlocks.notice x.1 x.2.1 x.2.2.1 x.2.2.2) =
      (allChans.filter fun c => (s.chan c).state = .checking).map fun c =>
        s.notice .checkResult (some c.val) 4 (Timer.elapsed (s.chan c).checkTimer) := by
    unfold State.abortNotices State.notice
    rw [List.map_map, (plannerOnly_isolateBlocks s).sys]
    rfl
  show ((s.isolateBlocks.pushAll (s.abortNotices allChans)).ring).push
    ⟨.isolated, (s.isolateBlocks.pushAll (s.abortNotices allChans)).sys.uptime, none, r.code, s.disc.vc⟩ = _
  rw [State.pushAll_ring, isolateBlocks_ring, hnotices, huptime, List.foldl_append]
  rfl

/-- R158: an isolation, item by item. -/
theorem isolatedFor_isolate (s : State) (r : IsoReason) : s.IsolatedFor r (s.isolate r) := by
  have hframe := plannerOnly_isolate s r
  exact
    { disc := hframe.disc
      channels := fun c => (isolate_chan r c).trans (Channel.isolated_eq _)
      standby := isolate_standby r
      slot := isolate_slot r
      planner := isolate_planner r
      sag := hframe.sag
      level := hframe.level
      ring := isolate_ring r
      mail := hframe.mail
      overtaken := hframe.overtaken
      kept := ⟨hframe.pending, hframe.est, hframe.idle, hframe.aux, hframe.plan, hframe.store, hframe.sys⟩ }

theorem State.IsolatedFor.of_setRx {r : IsoReason} {x : RxState} {b : List Byte} (h : (s.setRx x b).IsolatedFor r t) :
    s.IsolatedFor r t :=
  ⟨h.disc, h.channels, h.standby, h.slot, h.planner, h.sag, h.level, h.ring, h.mail, h.overtaken, h.kept⟩

/-- Settles O31. -/
theorem isolateRequestActsByTheDevice : Obligations.IsolateRequestActsByTheDevice := by
  intro s p body hs hservice hlen
  have hanswer : ∀ {u : State} {x : Status}, s.disc.device ≠ .start → ownIsolate (s.heard p) = .plain u x →
      exec (.isolate p body) s = .next (u.replied p 0x29 x []) := fun hd hown =>
    congrArg Host.Outcome.next (arrive_of_installerPlain (ty := .isolate) ⟨hs, hd⟩ hservice nofun hlen rfl rfl nofun rfl hown)
  have hdevice : (s.heard p).disc.device = s.disc.device := rfl
  have hheard := heard_eq (s := s) hservice
  refine ⟨fun hd => ?_, fun hd hpulse => ?_, fun hd hpulse => ?_, fun hd => ?_⟩
  · obtain ⟨-, hstart, -⟩ := refused_in_start (p := p) hs hd
    obtain ⟨-, hrows⟩ := hstart body hlen
    have := hrows (.isolate p body, 0x29) (by simp [installerRequests])
    rw [hservice] at this
    exact this
  · refine ⟨(s.heard p).isolate .storage, hanswer (by rw [hd]; nofun) ?_, ?_⟩
    · unfold ownIsolate
      rw [hdevice, hd]
      exact if_neg (by rw [show (s.heard p).disc.pulse = none from hpulse]; nofun)
    · have hisolated := isolatedFor_isolate (s.heard p) .storage
      rw [hheard] at hisolated ⊢
      exact hisolated.of_setRx
  · have hown : ownIsolate (s.heard p) = .plain (s.heard p) .busy := by
      unfold ownIsolate
      rw [hdevice, hd]
      exact if_pos hpulse
    rw [hanswer (by rw [hd]; nofun) hown, hheard]
    rfl
  · have hown : ownIsolate (s.heard p) =
        .plain { s.heard p with disc := { s.disc with reason := .storage, chargeCount := 0 } } .ok := by
      unfold ownIsolate
      rw [hdevice, hd]
      rfl
    rw [hanswer (by rw [hd]; nofun) hown, hheard]
    rfl

end

end Sys2Proof.Machine
end

section
/-!
PROOF. The entry to RUN (R154) and the reconnection (R162): the RESUME event (R100) and all that follows it, and the requests,
inputs and updates that lead to them.
-/

namespace Sys2Proof.Machine

section
variable {s t u : State} {c d : Chan}

/-- R72, R78, R81, R88: a channel that an operation does not touch, and all that follows it. -/
theorem State.Works.chan_of_leftAlone (h : t.Works u) (k : s.Aside t d) (hu : s.Unlisted d)
    (hleft : (s.chan d).leftAlone (s.rank d) = true) : u.chan d = s.chan d :=
  (h.aside (k.unlisted hu) (k.leftAlone hleft)).chan.trans k.chan

/-! ### The RESUME event (R100) -/

theorem find?_placeAll_of_not_mem (rank : Chan → Nat) {es : List Entry} (h : ∀ e ∈ es, e.channel ≠ d) (l : List Entry) :
    (es.foldl (fun acc e => placeEntry rank e acc) l).find? (fun x => x.channel = d) = l.find? fun x => x.channel = d := by
  induction es generalizing l with
  | nil => rfl
  | cons e es ih =>
    rw [List.foldl_cons, ih fun x hx => h x (List.mem_cons_of_mem e hx),
      find?_placeEntry_of_ne rank (h e List.mem_cons_self)]

theorem find?_placeAll_of_mem (rank : Chan → Nat) {es : List Entry} {e : Entry} (he : e ∈ es)
    (honce : (es.map (·.channel)).Nodup) {l : List Entry} (h : l.find? (fun x => x.channel = e.channel) = none) :
    (es.foldl (fun acc e => placeEntry rank e acc) l).find? (fun x => x.channel = e.channel) = some e := by
  induction es generalizing l with
  | nil => cases he
  | cons x xs ih =>
    rw [List.map_cons, List.nodup_cons] at honce
    rw [List.foldl_cons]
    rcases List.mem_cons.1 he with rfl | hmem
    · rw [find?_placeAll_of_not_mem rank, find?_placeEntry_self rank e h]
      exact fun y hy hyx => honce.1 (List.mem_map.2 ⟨y, hy, hyx⟩)
    · refine ih hmem honce.2 ?_
      rw [find?_placeEntry_of_ne rank, h]
      exact fun hxe => honce.1 (List.mem_map.2 ⟨e, hmem, hxe.symm⟩)

theorem aside_resumeAll (h : s.resumes d = false) : s.Aside s.resumeAll d := by
  refine ⟨?_, ?_, by rw [resumeAll_slot]; exact id, by rw [resumeAll_slot]; exact id, (plannerOnly_resumeAll s).plan⟩
  · rw [resumeAll_chan, State.resumedChan, h]
    rfl
  · by_cases hnone : allChans.filter s.resumes = []
    · rw [resumeAll_of_none hnone]
    · unfold State.entry?
      rw [resumeAll_standby hnone]
      refine find?_placeAll_of_not_mem s.rank (fun e he hed => ?_) _
      have hmem : d ∈ s.resumeEntries.map (·.channel) := List.mem_map.2 ⟨e, he, hed⟩
      rw [resumeEntries_channels, List.mem_filter, h] at hmem
      exact absurd hmem.2 (by decide)

theorem resumeAll_planner : s.resumeAll.planner = s.planner := by
  unfold State.resumeAll
  dsimp only
  split
  · rfl
  · exact s.mapChans_planner fun c ch => if s.resumes c then { ch with state := .waiting } else ch

/-- R100: a channel that is resumed waits with a RESUME entry. -/
theorem queued_resumeAll (u : s.Unlisted c) (h : s.resumes c = true) :
    s.resumeAll.Queued c { s.chan c with state := .waiting } ⟨c, .resume, false, false, s.sys.uptime⟩ := by
  have hmem : c ∈ allChans.filter s.resumes := List.mem_filter.2 ⟨mem_allChans c, h⟩
  refine ⟨?_, rfl, ?_, ?_⟩
  · rw [resumeAll_chan, State.resumedChan, if_pos h]
  · unfold State.entry?
    rw [resumeAll_standby (List.ne_nil_of_mem hmem)]
    have honce : (s.resumeEntries.map (·.channel)).Nodup := by
      rw [resumeEntries_channels]
      exact allChans_nodup.filter _
    exact find?_placeAll_of_mem s.rank (e := ⟨c, .resume, false, false, s.sys.uptime⟩) (List.mem_map.2 ⟨c, hmem, rfl⟩) honce u.1
  · rw [resumeAll_slot]
    exact u.not_mem_waiting

/-! ### The entry to RUN (R154) -/

theorem enteredRun_enterRun (s : State) : s.EnteredRun s.enterRun := by
  have hframe := plannerOnly_enterRun s
  have hdisc : s.enterRun.disc = s.disc.entered := hframe.disc
  have hworks : (State.resumeAll { s with disc := s.disc.entered }).Works s.enterRun := works_settle _ _
  refine ⟨hdisc, fun c hu hactive hoff hresume => ?_, fun c hu hno hleft => ?_, ?_⟩
  · have hq := queued_resumeAll (s := { s with disc := s.disc.entered }) hu ((State.resumes_iff c).2 ⟨hactive, hoff, hresume⟩)
    exact (hq.waitsOrStarts rfl hworks).1
  · have haside := aside_resumeAll (s := { s with disc := s.disc.entered }) hno
    exact hworks.chan_of_leftAlone (s := { s with disc := s.disc.entered }) haside hu hleft
  · rw [hdisc]
    exact hframe

/-! ### Reconnection (R162) -/

/-- R71: outside RUN a level change starts the restore-quiet timer and does no more. -/
theorem setLevelDirect_outside (hd : s.disc.device ≠ .run) (new : Level) (cause : Cause) :
    s.setLevelDirect new cause = if new = s.level.current then s else s.releveled new cause := by
  unfold State.setLevelDirect
  split
  · rfl
  · exact if_neg hd

/-- R162 steps 1 to 3, R152: the state ahead of the RESUME event, out of ISOLATED. -/
theorem rejoined_eq (hd : s.disc.device = .isolated) : s.rejoined =
    { (if s.level.deep = s.level.current then s else s.releveled s.level.deep s.closeRelay.reconnectCause) with
      disc := s.disc.reconnected
      idle := Vector.ofFn fun n => if s.plan.timers[n].enabled then s.plan.timers[n].armed else s.idle[n] } := by
  have hclosed : s.closeRelay.disc.device ≠ .run := by
    show s.disc.device ≠ .run
    rw [hd]
    nofun
  unfold State.rejoined
  rw [setLevelDirect_outside hclosed]
  by_cases hdeep : s.level.deep = s.level.current
  · rw [if_pos hdeep, if_pos (show s.level.deep = s.closeRelay.level.current from hdeep)]
    rfl
  · rw [if_neg hdeep, if_neg (show ¬s.level.deep = s.closeRelay.level.current from hdeep)]
    rfl

theorem aside_rejoined (hd : s.disc.device = .isolated) (d : Chan) : s.Aside s.rejoined d := by
  rw [rejoined_eq hd]
  split <;> exact ⟨rfl, rfl, id, id, rfl⟩

theorem rejoined_level_of_isolated (hd : s.disc.device = .isolated) : s.rejoined.level =
    if s.level.deep = s.level.current then s.level
    else { s.level with current := s.level.deep, pending := .none, count := 0 } := by
  rw [rejoined_eq hd]
  split <;> rfl

theorem rejoined_idle (hd : s.disc.device = .isolated) (n : TimerIx) : s.rejoined.idle[n] =
    if s.plan.timers[n].enabled = true then ⟨.running, s.plan.timers[n].terminal * 60⟩ else s.idle[n] := by
  rw [rejoined_eq hd]
  exact Vector.getElem_ofFn n.isLt

theorem rejoined_quiet (hd : s.disc.device = .isolated) (hdeep : s.level.deep ≠ s.level.current) : s.rejoined.QuietFresh := by
  rw [rejoined_eq hd, if_neg hdeep]
  rfl

theorem rejoined_resumes (hd : s.disc.device = .isolated) (c : Chan) : s.rejoined.resumes c = s.resumes c := by
  have haside := aside_rejoined hd c
  unfold State.resumes
  rw [haside.chan, haside.rank, crec_congr haside.plan]

theorem Ring.getLast?_push (g : Ring) (n : Notice) : (g.push n).notices.getLast? = some n := by
  unfold Ring.push
  split <;> simp

/-- R162: a reconnection out of ISOLATED, item by item. -/
theorem reconnectedBy_reconnect (hd : s.disc.device = .isolated) (k : Trigger) : s.ReconnectedBy k.code (s.reconnect k) := by
  have hframe := plannerOnly_reconnect s k
  have hworks : s.rejoined.resumeAll.Works (s.rejoined.resumeAll.settle settleRounds true) := works_settle _ _
  have hback := hworks.plannerOnly
  rw [State.reconnect_eq] at hframe ⊢
  generalize s.rejoined.resumeAll.settle settleRounds true = t at hframe hworks hback ⊢
  have hsys : t.sys = s.sys := hframe.sys
  have hquiet : s.level.deep ≠ s.level.current → s.rejoined.resumeAll.QuietFresh := fun hdeep => by
    unfold State.QuietFresh
    rw [resumeAll_planner, (plannerOnly_resumeAll s.rejoined).plan]
    exact rejoined_quiet hd hdeep
  refine ⟨hframe.disc, ?_, fun hdeep => ?_, fun n => ?_, fun c hu hactive hoff hresume => ?_, fun c hu hno hleft => ?_, ?_,
    ⟨hframe.pending, hframe.est, hframe.mail, hframe.sag, hframe.aux, hframe.plan, hframe.store, hframe.sys,
      hframe.overtaken⟩⟩
  · rw [hframe.level]
    exact rejoined_level_of_isolated hd
  · have hfresh := (hquiet hdeep).works hworks
    unfold State.QuietFresh at hfresh
    rw [show t.plan = s.plan from hframe.plan] at hfresh
    exact hfresh
  · have hidle : t.idle = s.rejoined.idle := hback.idle.trans (plannerOnly_resumeAll s.rejoined).idle
    show t.idle[n] = _
    rw [hidle]
    exact rejoined_idle hd n
  · have haside := aside_rejoined hd c
    have hq := queued_resumeAll (haside.unlisted hu)
      (by rw [rejoined_resumes hd, State.resumes_iff]; exact ⟨hactive, hoff, hresume⟩)
    have hup : s.rejoined.sys.uptime = s.sys.uptime := congrArg Startup.uptime (plannerOnly_rejoined s).sys
    by_cases hdeep : s.level.deep = s.level.current
    · rcases (hq.waitsOrStarts hup hworks).1 with hwait | ⟨hstart, hholder⟩
      · exact .inl hwait
      · exact .inr ⟨hstart, hholder, hdeep⟩
    · have hstill := (hquiet hdeep).queued hq hworks
      have hstate : (t.chan c).state = .waiting := by rw [hstill.chan]
      exact .inl ⟨hstate, by rw [← hup]; exact hstill.entry⟩
  · exact hworks.chan_of_leftAlone ((aside_rejoined hd c).trans (aside_resumeAll (by rw [rejoined_resumes hd]; exact hno))) hu hleft
  · show (t.ring.push ⟨.reconnected, t.sys.uptime, none, k.code, t.disc.vc⟩).notices.getLast? = _
    rw [Ring.getLast?_push, hsys, show t.disc = s.disc.reconnected from hframe.disc]
    rfl

/-! ### RECONNECT (R161) -/

theorem State.ReconnectedBy.of_setRx {n : Nat} {x : RxState} {b : List Byte} (h : (s.setRx x b).ReconnectedBy n t) :
    s.ReconnectedBy n t :=
  ⟨h.disc, h.level, h.quiet, h.idle, h.resumed, h.others, h.newest, h.kept⟩

theorem mayReconnect_iff : s.mayReconnect = true ↔
    s.plan.battery.vCut + s.plan.battery.reconnectMargin ≤ s.disc.vc ∨ 0 < s.disc.i := by
  simp only [State.mayReconnect, Bool.or_eq_true, decide_eq_true_eq]

/-- R173 to R177: an admitted USER request answered without fields. -/
theorem arrive_of_userPlain {ty : ReqType} {p : Peer} {body : List Byte} {x : Status} (hs : s.Serves) (hlen : body.length ≤ 56)
    (hmin : ty.minBody ≤ body.length) (hty : ty.installer = false) (hf : ty.fieldsPass body = true) (hswitch : ty ≠ .switch)
    (hedit : ty.isPlanEdit = false) (hown : ty.own body (s.heard p) = .plain u x) :
    s.arrive p ty.code body = u.replied p ty.code x [] :=
  arrive_of_own hs hlen (refusal_of_user hmin hty hf) hown (answerFields_plain hswitch hedit u x)

theorem ownReconnect_busy (hd : s.disc.device ≠ .start) (hpulse : s.disc.pulse.isSome = true) :
    ownReconnect s = .plain s .busy := by
  unfold ownReconnect
  cases h : s.disc.device with
  | start => exact absurd h hd
  | run => exact if_pos hpulse
  | isolated => exact if_pos hpulse

theorem ownReconnect_of_run (hd : s.disc.device = .run) (hpulse : s.disc.pulse = none) : ownReconnect s = .plain s .ok := by
  unfold ownReconnect
  rw [hd]
  exact if_neg (by rw [hpulse]; nofun)

theorem ownReconnect_of_isolated (hd : s.disc.device = .isolated) (hpulse : s.disc.pulse = none) : ownReconnect s =
    if s.mayReconnect then .plain (s.reconnect .request) .ok else .plain s .tooLow := by
  unfold ownReconnect
  rw [hd]
  exact if_neg (by rw [hpulse]; nofun)

end

/-- Settles O30. -/
theorem reconnectActsByTheDevice : Obligations.ReconnectActsByTheDevice := by
  intro s p body hs hlen
  have hanswer : ∀ {u : State} {x : Status}, s.disc.device ≠ .start → ownReconnect (s.heard p) = .plain u x →
      exec (.reconnect p body) s = .next (u.replied p 0x13 x []) := fun hd hown =>
    congrArg Host.Outcome.next (arrive_of_userPlain (ty := .reconnect) ⟨hs, hd⟩ hlen (Nat.zero_le _) rfl rfl nofun rfl hown)
  refine ⟨fun h => ?_, fun hd hpulse => ?_, fun hd hpulse hvc hi => ?_, fun hd hpulse hmay => ?_⟩
  · by_cases hd : s.disc.device = .start
    · obtain ⟨-, hstart, -⟩ := refused_in_start (p := p) hs hd
      exact (hstart body hlen).1 (.reconnect p body, 0x13) (by simp [userRequests])
    · exact hanswer (u := s.heard p) hd (ownReconnect_busy (s := s.heard p) hd (h.resolve_left hd))
  · exact hanswer (u := s.heard p) (by rw [hd]; nofun) (ownReconnect_of_run (s := s.heard p) hd hpulse)
  · refine hanswer (u := s.heard p) (by rw [hd]; nofun) ((ownReconnect_of_isolated (s := s.heard p) hd hpulse).trans (if_neg ?_))
    rw [mayReconnect_iff]
    show ¬(s.plan.battery.vCut + s.plan.battery.reconnectMargin ≤ s.disc.vc ∨ 0 < s.disc.i)
    omega
  · refine ⟨(s.heard p).reconnect .request, hanswer (by rw [hd]; nofun)
      ((ownReconnect_of_isolated (s := s.heard p) hd hpulse).trans (if_pos (mayReconnect_iff.2 hmay))), ?_⟩
    exact State.ReconnectedBy.of_setRx (x := .hold) (b := []) (reconnectedBy_reconnect (s := s.heard p) hd .request)

end Sys2Proof.Machine
end

section
/-!
PROOF. The auxiliary inputs (07 section 7.1), and the updates that the Disconnect Unit takes (R154, R156, R159).
-/

namespace Sys2Proof.Machine

section
variable {s t u : State} {n : AuxIx}

/-! ### Activities (R146, R147) -/

theorem IdleTimer.activity_eq (x : IdleTimer) (r : TimerRec) :
    x.activity r = if x.state = .disabled then x else r.armed := by
  unfold IdleTimer.activity
  cases h : x.state <;> simp

/-- R146, R147: the idle timers after one activity. -/
theorem activity_idle (q : TimerRec → Bool) (k : TimerIx) : (s.activity q).idle[k] = s.idleAfter k (q s.plan.timers[k]) := by
  unfold State.activity State.idleAfter
  by_cases hd : s.disc.device = .run
  · rw [if_pos hd]
    refine (Vector.getElem_ofFn k.isLt).trans ?_
    show (if q s.plan.timers[k] = true then s.idle[k].activity s.plan.timers[k] else s.idle[k]) = _
    rw [IdleTimer.activity_eq]
    by_cases hq : q s.plan.timers[k] = true
    · by_cases hdisabled : s.idle[k].state = .disabled
      · rw [if_pos hq, if_pos hdisabled, if_neg fun h => h.2.2 hdisabled]
      · rw [if_pos hq, if_neg hdisabled, if_pos ⟨hd, hq, hdisabled⟩]
        rfl
    · rw [if_neg hq, if_neg fun h => hq h.2.1]
  · rw [if_neg hd, if_neg fun h => hd h.1]

theorem activity_outside (hd : s.disc.device ≠ .run) (q : TimerRec → Bool) : s.activity q = s := if_neg hd

/-! ### Transitions (R140, R141) -/

/-- R140: the input with its debounced level taken. -/
def State.debounced (s : State) (n : AuxIx) : State :=
  { s with aux := s.aux.set n ⟨s.aux[n].raw, some s.aux[n].raw, none⟩ }

theorem stabilityPeriodEnd_eq : exec (.stabilityPeriodEnd n) s = .next
    (if s.aux[n].stability.isSome = true then
      if s.aux[n].level.isSome && s.aux[n].level ≠ some s.aux[n].raw then (s.debounced n).transition n s.aux[n].raw
      else s.debounced n
    else s) := rfl

/-- R140: the end of a period at which the debounced level changes. -/
theorem stabilityPeriodEnd_of_change (h : s.aux[n].stability.isSome = true) (hlevel : s.aux[n].level = some (!s.aux[n].raw)) :
    exec (.stabilityPeriodEnd n) s = .next ((s.debounced n).transition n s.aux[n].raw) := by
  rw [stabilityPeriodEnd_eq, if_pos h, if_pos (by rw [hlevel]; cases s.aux[n].raw <;> rfl)]

theorem transition_of_miss {level : Bool} (h : s.plan.aux[n].role = .none ∨ (s.plan.aux[n].edge = .rise ∧ level = false)
    ∨ (s.plan.aux[n].edge = .fall ∧ level = true)) : s.transition n level = s := by
  refine if_neg ?_
  rw [Bool.and_eq_true, decide_eq_true_eq]
  rintro ⟨hrole, hedge⟩
  rcases h with h | ⟨h, rfl⟩ | ⟨h, rfl⟩
  · exact hrole h
  · rw [h] at hedge
    cases hedge
  · rw [h] at hedge
    cases hedge

theorem AuxEdge.hits_of {e : AuxEdge} {level : Bool} (h : e = .both ∨ (e = .rise ∧ level = true) ∨ (e = .fall ∧ level = false)) :
    e.hits level = true := by
  rcases h with rfl | ⟨rfl, rfl⟩ | ⟨rfl, rfl⟩ <;> rfl

theorem transition_of_hit {level : Bool} (hrole : s.plan.aux[n].role ≠ .none) (h : s.plan.aux[n].edge.hits level = true) :
    s.transition n level = if s.plan.aux[n].role = .wake then (s.auxActivity n).wakeEvent else s.auxActivity n :=
  if_pos (by rw [Bool.and_eq_true, decide_eq_true_eq]; exact ⟨hrole, h⟩)

theorem wakeEvent_of_isolated (hd : s.disc.device = .isolated) (hpulse : s.disc.pulse = none) : s.wakeEvent =
    if s.mayReconnect then s.reconnect .wake
    else s.push .reconnectRefused none s.disc.vc (s.plan.battery.vCut + s.plan.battery.reconnectMargin) :=
  if_pos (by rw [hd, hpulse]; rfl)

theorem wakeEvent_of_other (h : s.disc.device ≠ .isolated ∨ s.disc.pulse.isSome = true) : s.wakeEvent = s := by
  refine if_neg ?_
  rw [Bool.and_eq_true, decide_eq_true_eq, Option.isNone_iff_eq_none]
  rintro ⟨hd, hpulse⟩
  rcases h with h | h
  · exact h hd
  · rw [hpulse] at h
    cases h

/-- R141: a transition that counts as an activity and as nothing else. -/
theorem transition_of_activity {level : Bool} (h : s.plan.aux[n].edge.hits level = true) (hrole : s.plan.aux[n].role = .activity
      ∨ (s.plan.aux[n].role = .wake ∧ (s.disc.device ≠ .isolated ∨ s.disc.pulse.isSome = true))) :
    s.transition n level = s.auxActivity n := by
  rcases hrole with hrole | ⟨hrole, hother⟩
  · rw [transition_of_hit (by rw [hrole]; nofun) h, if_neg (by rw [hrole]; nofun)]
  · rw [transition_of_hit (by rw [hrole]; nofun) h, if_pos hrole, wakeEvent_of_other]
    rw [State.auxActivity, State.activity_eq]
    exact hother

/-- R141, R160: a WAKE event in ISOLATED. -/
theorem transition_of_wake {level : Bool} (h : s.plan.aux[n].edge.hits level = true) (hrole : s.plan.aux[n].role = .wake)
    (hd : s.disc.device = .isolated) (hpulse : s.disc.pulse = none) : s.transition n level =
      if s.mayReconnect then s.reconnect .wake
      else s.push .reconnectRefused none s.disc.vc (s.plan.battery.vCut + s.plan.battery.reconnectMargin) := by
  rw [transition_of_hit (by rw [hrole]; nofun) h, if_pos hrole, State.auxActivity, activity_outside (by rw [hd]; nofun),
    wakeEvent_of_isolated hd hpulse]

end

/-- Settles O59. -/
theorem auxInputsDebounce : Obligations.AuxInputsDebounce := by
  intro s n
  refine ⟨fun level hlevel => congrArg Host.Outcome.next ?_, congrArg Host.Outcome.next ?_, fun h => ?_, fun h hlevel => ?_,
    fun h hlevel hmiss => ?_, fun h hlevel hhit => ⟨fun hrole => ?_, fun hrole hd hpulse hvc hi => ?_,
      fun hrole hd hpulse hmay => ?_⟩⟩
  · unfold AuxInput.rawChange
    rw [if_neg hlevel]
    rfl
  · unfold AuxInput.rawChange
    rw [if_pos rfl]
    show { s with aux := s.aux.set n s.aux[n] } = s
    rw [show s.aux.set n s.aux[n] = s.aux from Vector.set_getElem_self _]
  · rw [stabilityPeriodEnd_eq, if_neg (by rw [h]; nofun)]
  · rw [stabilityPeriodEnd_eq, if_pos h, if_neg (by rw [hlevel]; nofun)]
    rfl
  · rw [stabilityPeriodEnd_of_change h hlevel, transition_of_miss (s := s.debounced n) hmiss]
    rfl
  · refine ⟨_, (stabilityPeriodEnd_of_change h hlevel).trans
      (congrArg Host.Outcome.next (transition_of_activity (s := s.debounced n) (AuxEdge.hits_of hhit) hrole)), ?_, fun k => ?_⟩
    · exact (s.debounced n).activity_eq _
    · exact activity_idle (s := s.debounced n) _ k
  · have hlow : ¬(s.debounced n).mayReconnect = true := by
      rw [mayReconnect_iff]
      show ¬(s.plan.battery.vCut + s.plan.battery.reconnectMargin ≤ s.disc.vc ∨ 0 < s.disc.i)
      omega
    rw [stabilityPeriodEnd_of_change h hlevel, transition_of_wake (s := s.debounced n) (AuxEdge.hits_of hhit) hrole hd hpulse,
      if_neg hlow]
    rfl
  · have hhigh : (s.debounced n).mayReconnect = true := mayReconnect_iff.2 hmay
    refine ⟨(s.debounced n).reconnect .wake, ?_, reconnectedBy_reconnect (s := s.debounced n) hd .wake, ?_⟩
    · rw [stabilityPeriodEnd_of_change h hlevel, transition_of_wake (s := s.debounced n) (AuxEdge.hits_of hhit) hrole hd hpulse,
        if_pos hhigh]
    · exact (plannerOnly_reconnect (s.debounced n) .wake).link

/-! ### Reserve updates (R154, R156, R159) -/

section
variable {s : State} {u : ReserveUpdate}

theorem disconnectTakes_of_start (hd : s.disc.device = .start) : s.disconnectTakes u = (s.noteUpdate u).startTakes := by
  simp only [State.disconnectTakes, show (s.noteUpdate u).disc.device = .start from hd]

theorem disconnectTakes_of_run (hd : s.disc.device = .run) : s.disconnectTakes u = (s.noteUpdate u).runTakes u := by
  simp only [State.disconnectTakes, show (s.noteUpdate u).disc.device = .run from hd]

theorem disconnectTakes_of_isolated (hd : s.disc.device = .isolated) :
    s.disconnectTakes u = (s.noteUpdate u).isolatedTakes u := by
  simp only [State.disconnectTakes, show (s.noteUpdate u).disc.device = .isolated from hd]

theorem isolationCondition_iff : s.isolationCondition u = true ↔
    s.level.current = 7 ∧ (u.vc ≤ s.plan.battery.vCut ∨ u.r = 0) := by
  simp only [State.isolationCondition, Bool.and_eq_true, Bool.or_eq_true, decide_eq_true_eq]

theorem completesIsolation_iff : s.completesIsolation u = true ↔
    s.disc.device = .run ∧ s.isolationCondition u = true ∧ s.isolateLenAt * 10 ≤ s.disc.isolateCount + 1 := by
  simp only [State.completesIsolation, Bool.and_eq_true, decide_eq_true_eq, and_assoc]

theorem chargeCounts_iff : s.chargeCounts u = true ↔
    s.disc.reason ≠ .storage ∧ (s.plan.battery.reconnectCharge : Int) ≤ u.i := by
  simp only [State.chargeCounts, Bool.and_eq_true, decide_eq_true_eq]

theorem completesCharge_iff : s.completesCharge u = true ↔
    s.disc.device = .isolated ∧ s.chargeCounts u = true ∧ 600 ≤ s.disc.chargeCount + 1 := by
  simp only [State.completesCharge, Bool.and_eq_true, decide_eq_true_eq, and_assoc]
  rfl

/-- R156: an update in RUN that starts, continues or clears the isolate count. -/
theorem runTakes_of_counting (hcond : s.isolationCondition u = true) (h : s.disc.isolateCount + 1 < s.isolateLenAt * 10) :
    s.runTakes u =
      { s with disc := { s.disc with isolateCount := s.disc.isolateCount + 1, isolateLen := s.isolateLenAt } } := by
  have hnot : ¬s.completesIsolation u = true := fun k => by
    have := (completesIsolation_iff.1 k).2.2
    omega
  unfold State.runTakes
  rw [if_neg hnot, if_pos hcond]

theorem runTakes_of_clear (hcond : ¬s.isolationCondition u = true) :
    s.runTakes u = { s with disc := { s.disc with isolateCount := 0 } } := by
  unfold State.runTakes
  rw [if_neg fun k => hcond (completesIsolation_iff.1 k).2.1, if_neg hcond]

theorem runTakes_of_complete (h : s.completesIsolation u = true) :
    s.runTakes u = s.isolate (if u.vc ≤ s.plan.battery.vCut then .lowVoltage else .empty) := if_pos h

theorem isolatedTakes_of_counting (h : ¬s.completesCharge u = true) : s.isolatedTakes u =
    { s with disc := { s.disc with chargeCount := if s.chargeCounts u then s.disc.chargeCount + 1 else 0 } } := if_neg h

/-- The state with the update taken out of its queue. -/
def State.updateTaken (s : State) (u : ReserveUpdate) (rest : List ReserveUpdate) : State :=
  { s with mail := { s.mail with disconnect := rest }, disc := { s.disc with vc := u.vc, i := u.i } }

variable {rest : List ReserveUpdate}

theorem disconnectTakesNext_eq (h : s.mail.disconnect = u :: rest) :
    s.disconnectTakesNext = (s.setDisconnectMail rest).disconnectTakes u := by
  unfold State.disconnectTakesNext
  rw [h]
  rfl

theorem nextUpdateIs_eq (h : s.mail.disconnect = u :: rest) (q : ReserveUpdate → Bool) : s.nextUpdateIs q = q u := by
  unfold State.nextUpdateIs
  rw [h]

theorem exec_disconnectReserveUpdate (h : s.mail.disconnect = u :: rest) :
    exec .disconnectReserveUpdate s = .next ((s.setDisconnectMail rest).disconnectTakes u) :=
  congrArg Host.Outcome.next (disconnectTakesNext_eq h)

theorem exec_isolateDwellComplete (h : s.mail.disconnect = u :: rest) (hdone : s.completesIsolation u = true) :
    exec .isolateDwellComplete s = .next ((s.setDisconnectMail rest).disconnectTakes u) := by
  refine congrArg Host.Outcome.next ((if_pos ?_).trans (disconnectTakesNext_eq h))
  rw [nextUpdateIs_eq h, hdone]

theorem exec_reconnectChargeComplete (h : s.mail.disconnect = u :: rest) (hdone : s.completesCharge u = true) :
    exec .reconnectChargeComplete s = .next ((s.setDisconnectMail rest).disconnectTakes u) := by
  refine congrArg Host.Outcome.next ((if_pos ?_).trans (disconnectTakesNext_eq h))
  rw [nextUpdateIs_eq h, hdone]

/-- R155: the end of a relay pulse. -/
theorem exec_relayPulseEnd (h : s.disc.pulse.isSome = true) : exec .relayPulseEnd s = .next
    (if s.disc.device = .start && s.disc.entryPending then s.endPulse.enterRun else s.endPulse) :=
  congrArg Host.Outcome.next (if_pos h)

end

/-- Settles O60: every form is one branch of the unit's test, and the isolation, the reconnection and the entry to RUN are those
of `isolatedFor_isolate`, `reconnectedBy_reconnect` and `enteredRun_enterRun`. -/
theorem disconnectUpdatesIsolateAndReconnect : Obligations.DisconnectUpdatesIsolateAndReconnect := by
  refine ⟨fun s u rest h => ⟨s.updateTaken u rest, rfl, ?_⟩, fun s hpulse => ⟨fun hnot => ?_, fun hd hentry => ?_⟩⟩
  · have hexec := exec_disconnectReserveUpdate h
    refine ⟨fun hd hpulse => ?_, fun hd hpulse => ?_, fun hd hcond => ?_, fun len hd hlevel hlow hlen => ⟨fun hcount => ?_,
      fun hcount => ?_⟩, fun hd hnot => ?_, fun hd hreason hcharge => ⟨fun hcount => ?_, fun hcount => ?_⟩⟩
    · rw [hexec, disconnectTakes_of_start (s := s.setDisconnectMail rest) hd]
      exact congrArg Host.Outcome.next (if_neg (by
        rw [Option.isNone_iff_eq_none]
        exact fun k => by rw [show s.disc.pulse = none from k] at hpulse; cases hpulse))
    · refine ⟨(s.updateTaken u rest).enterRun, ?_, enteredRun_enterRun _⟩
      rw [hexec, disconnectTakes_of_start (s := s.setDisconnectMail rest) hd]
      exact congrArg Host.Outcome.next (if_pos (Option.isNone_iff_eq_none.2 hpulse))
    · rw [hexec, disconnectTakes_of_run (s := s.setDisconnectMail rest) hd]
      exact congrArg Host.Outcome.next (runTakes_of_clear (s := s.updateTaken u rest) fun k => hcond (isolationCondition_iff.1 k))
    · rw [hexec, disconnectTakes_of_run (s := s.setDisconnectMail rest) hd, hlen]
      rw [hlen] at hcount
      exact congrArg Host.Outcome.next
        (runTakes_of_counting (s := s.updateTaken u rest) (isolationCondition_iff.2 ⟨hlevel, hlow⟩) hcount)
    · rw [hlen] at hcount
      have hdone : s.completesIsolation u = true :=
        completesIsolation_iff.2 ⟨hd, isolationCondition_iff.2 ⟨hlevel, hlow⟩, hcount⟩
      have htakes : (s.setDisconnectMail rest).disconnectTakes u =
          (s.updateTaken u rest).isolate (if u.vc ≤ s.plan.battery.vCut then .lowVoltage else .empty) :=
        (disconnectTakes_of_run (s := s.setDisconnectMail rest) hd).trans
          (runTakes_of_complete (s := s.updateTaken u rest) hdone)
      exact ⟨_, (exec_isolateDwellComplete h hdone).trans (congrArg Host.Outcome.next htakes),
        hexec.trans (congrArg Host.Outcome.next htakes), isolatedFor_isolate _ _, (plannerOnly_isolate _ _).link⟩
    · have hno : ¬(s.updateTaken u rest).chargeCounts u = true := fun k => by
        obtain ⟨hreason, hi⟩ := chargeCounts_iff.1 k
        rcases hnot with hstorage | hlow
        · exact hreason hstorage
        · exact absurd hi (not_le.2 hlow)
      rw [hexec, disconnectTakes_of_isolated (s := s.setDisconnectMail rest) hd]
      refine congrArg Host.Outcome.next
        ((isolatedTakes_of_counting (s := s.updateTaken u rest) fun k => hno (completesCharge_iff.1 k).2.1).trans ?_)
      rw [if_neg hno]
    · have hyes : (s.updateTaken u rest).chargeCounts u = true := chargeCounts_iff.2 ⟨hreason, hcharge⟩
      rw [hexec, disconnectTakes_of_isolated (s := s.setDisconnectMail rest) hd]
      refine congrArg Host.Outcome.next ((isolatedTakes_of_counting (s := s.updateTaken u rest) fun k => ?_).trans ?_)
      · exact absurd (completesCharge_iff.1 k).2.2 (not_le.2 hcount)
      · rw [if_pos hyes]
        rfl
    · have hdone : s.completesCharge u = true := completesCharge_iff.2 ⟨hd, chargeCounts_iff.2 ⟨hreason, hcharge⟩, hcount⟩
      have htakes : (s.setDisconnectMail rest).disconnectTakes u = (s.updateTaken u rest).reconnect .charge :=
        (disconnectTakes_of_isolated (s := s.setDisconnectMail rest) hd).trans
          (if_pos (show (s.updateTaken u rest).completesCharge u = true from hdone))
      exact ⟨_, (exec_reconnectChargeComplete h hdone).trans (congrArg Host.Outcome.next htakes),
        hexec.trans (congrArg Host.Outcome.next htakes), reconnectedBy_reconnect (s := s.updateTaken u rest) hd .charge,
        (plannerOnly_reconnect _ _).link⟩
  · rw [exec_relayPulseEnd hpulse, if_neg (by rw [Bool.and_eq_true, decide_eq_true_eq]; exact hnot)]
    rfl
  · refine ⟨s.endPulse.enterRun, ?_, enteredRun_enterRun s.endPulse⟩
    rw [exec_relayPulseEnd hpulse, if_pos (by rw [hd, hentry]; rfl)]

end Sys2Proof.Machine
end

section
/-!
PROOF. What the three resets make of every block: POWER_ON (R196), BROWNOUT (R164, R196) and RESTART (R139, R197).
-/

namespace Sys2Proof.Machine

section
variable {s t : State}

theorem freshIdle_get (p : Plan) (n : TimerIx) : (freshIdle p)[n] =
    if p.timers[n].enabled = true then ⟨.running, p.timers[n].terminal * 60⟩ else ⟨.disabled, 0⟩ :=
  Vector.getElem_ofFn n.isLt

/-- R194: a plan load has at most one notice. -/
theorem loadPlan_notice_length (image : StoredImage) (straps : Straps) : (loadPlan image straps).notice.length ≤ 1 := by
  unfold loadPlan
  split
  · exact le_rfl
  · exact le_rfl
  · split
    · exact le_rfl
    · split
      · exact Nat.zero_le _
      · exact le_rfl

theorem Ring.push_of_short {g : Ring} (h : g.notices.length < 32) (n : Notice) : g.push n = ⟨g.notices ++ [n], g.lost⟩ :=
  if_neg (by omega)

/-! ### POWER_ON -/

/-- R8: at 20 °C all of Q_nom is usable. -/
theorem usable_twenty (b : Battery) : usable b 20 = b.cNom * 3600000 := by
  unfold usable derate
  simp [Battery.qNom]

/-- R186, R194: the RESET notice and at most one more in an empty ring. -/
theorem powerOn_ring (straps : Straps) (service : Bool) : (s.powerOn straps service).ring =
    ⟨⟨.reset, 0, none, 1, 1⟩ :: (loadPlan s.store.image straps).notice.map fun x => ⟨x.1, 0, x.2.1, x.2.2.1, x.2.2.2⟩, false⟩ := by
  have hlength := loadPlan_notice_length s.store.image straps
  unfold State.powerOn
  rw [State.pushAll_ring]
  generalize (loadPlan s.store.image straps).notice = notices at hlength ⊢
  match notices, hlength with
  | [], _ => rfl
  | [x], _ => rfl

theorem powerOn_eq (straps : Straps) (service : Bool) : s.powerOn straps service =
    { s.powerOnBlocks straps service with ring := (s.powerOn straps service).ring } := by
  unfold State.powerOn
  rw [State.pushAll_eq]
  rfl

theorem reset_powerOn : State.reset.powerOn Config.resetStraps Config.resetService = State.reset := by
  have hplan : powerOnPlan (factoryPlan Config.resetStraps.vsys Config.resetStraps.chem) Config.resetService =
      factoryPlan Config.resetStraps.vsys Config.resetStraps.chem := rfl
  have hidle : freshIdle (factoryPlan Config.resetStraps.vsys Config.resetStraps.chem) = State.reset.idle := by decide
  have haux : (Vector.ofFn fun n => State.reset.aux[n].afterReset) = State.reset.aux := by decide
  have hest : Estimator.powerOn (factoryPlan Config.resetStraps.vsys Config.resetStraps.chem).battery = State.reset.est := by
    unfold Estimator.powerOn
    rw [usable_twenty]
    rfl
  have hload : loadPlan State.reset.store.image Config.resetStraps =
      ⟨factoryPlan Config.resetStraps.vsys Config.resetStraps.chem, [(.planFactory, none, 1, 0)]⟩ := rfl
  rw [powerOn_eq, powerOn_ring]
  unfold State.powerOnBlocks
  dsimp only
  rw [hload]
  dsimp only
  rw [hplan, hidle, haux, hest]
  rfl

end

/-- Settles O39: all but the ring is set ahead of the notices. -/
theorem powerOnResetsEveryBlock : Obligations.PowerOnResetsEveryBlock := by
  refine ⟨fun s straps service => ?_, congrArg Host.Outcome.next reset_powerOn⟩
  refine ⟨s.powerOn straps service, loadPlan s.store.image straps, rfl, rfl, ?_⟩
  have hring := powerOn_ring (s := s) straps service
  rw [powerOn_eq]
  refine ⟨rfl, rfl, rfl, rfl, ?_, rfl, rfl, rfl, powerOnBlocks_chan (s := s) straps service, rfl, rfl, rfl, fun n => freshIdle_get _ n,
    fun n => ?_, rfl, rfl, hring, rfl⟩
  · show Estimator.powerOn _ = _
    unfold Estimator.powerOn
    rw [usable_twenty]
    rfl
  · exact Vector.getElem_ofFn n.isLt

/-! ### BROWNOUT -/

section
variable {s : State}

/-- R138, R66: a channel after a BROWNOUT. -/
theorem Channel.isolated_afterBrownout (ch : Channel) (r : ChannelRec) : ch.isolated.afterBrownout r =
    if ch.state = .locked then
      if r.active = true then ch else { ch with state := .off, reason := .deactivated, retryCount := 0 }
    else ch.keptWhenCut .isolation := by
  rw [Channel.isolated_eq]
  unfold Channel.afterBrownout
  by_cases hlocked : ch.state = .locked
  · rw [if_pos hlocked, if_pos hlocked]
    cases hactive : r.active
    · rw [if_pos (by rw [hlocked]; rfl)]
      rfl
    · rw [if_neg (by simp)]
      rfl
  · rw [if_neg hlocked, if_neg hlocked, if_neg (by rw [Bool.and_eq_true]; nofun)]

theorem brownout_eq (straps : Straps) : s.brownout straps =
    { (s.brownoutSystem straps).brownoutIsolation with ring := (s.brownout straps).ring } := by
  unfold State.brownout
  rw [State.pushAll_eq]
  rfl

/-- R186, R194, R164: the notices of a BROWNOUT. -/
theorem brownout_ring (straps : Straps) : (s.brownout straps).ring =
    ((s.notice .reset none 2 (Causes.code { s.sys.causes with brownout := true })
        :: s.loadNotices (loadPlan s.store.image straps)) ++ [s.notice .isolated none 4 0]).foldl Ring.push s.ring := by
  have hsys : (s.brownoutSystem straps).brownoutIsolation.sys = (s.brownoutSystem straps).sys :=
    (plannerOnly_brownoutIsolation _).sys
  have hring : (s.brownoutSystem straps).brownoutIsolation.ring = s.ring := brownoutIsolation_ring
  unfold State.brownout
  generalize (s.brownoutSystem straps).brownoutIsolation = cut at hsys hring ⊢
  have hreset : (cut.pushReset 2).ring =
      s.ring.push (s.notice .reset none 2 (Causes.code { s.sys.causes with brownout := true })) := by
    show cut.ring.push ⟨.reset, cut.sys.uptime, none, 2, cut.sys.causes.code⟩ = _
    rw [hring, hsys]
    rfl
  have hload : ((cut.pushReset 2).pushAll (loadPlan s.store.image straps).notice).ring =
      (s.loadNotices (loadPlan s.store.image straps)).foldl Ring.push (cut.pushReset 2).ring := by
    rw [State.pushAll_ring]
    unfold State.notice State.loadNotices State.notice
    rw [show (cut.pushReset 2).sys = (s.brownoutSystem straps).sys from hsys]
    rfl
  have huptime : ((cut.pushReset 2).pushAll (loadPlan s.store.image straps).notice).sys.uptime = s.sys.uptime := by
    rw [State.pushAll_eq]
    show cut.sys.uptime = _
    rw [hsys]
    rfl
  show (State.ring _).push ⟨.isolated, State.sys _ |>.uptime, none, IsoReason.brownout.code, 0⟩ = _
  rw [hload, hreset, huptime, List.foldl_append]
  rfl

end

/-- Settles O40: all but the ring is that of `State.brownoutIsolation`. -/
theorem brownoutIsolatesThePart : Obligations.BrownoutIsolatesThePart := by
  intro s straps
  have hframe := plannerOnly_brownoutIsolation (s.brownoutSystem straps)
  have hsys : (s.brownout straps).sys = (s.brownoutSystem straps).sys := by
    rw [brownout_eq]
    exact hframe.sys
  have hring := brownout_ring (s := s) straps
  refine ⟨s.brownout straps, loadPlan s.store.image straps, rfl, rfl, ?_⟩
  rw [hsys, brownout_eq]
  refine ⟨hframe.pending, hframe.plan, hframe.store, hframe.overtaken, hframe.est, hframe.mail, hframe.level, hframe.sag,
    fun c => ?_, brownoutIsolation_planner (s := s.brownoutSystem straps), brownoutIsolation_slot (s := s.brownoutSystem straps),
    brownoutIsolation_standby (s := s.brownoutSystem straps), fun n => ?_, fun n => ?_,
    hframe.disc, hframe.link, rfl, hring⟩
  · exact (brownoutIsolation_chan (s := s.brownoutSystem straps) c).trans (Channel.isolated_afterBrownout _ _)
  · show (s.brownoutSystem straps).brownoutIsolation.idle[n] = _
    rw [hframe.idle]
    exact freshIdle_get _ n
  · show (s.brownoutSystem straps).brownoutIsolation.aux[n] = _
    rw [hframe.aux]
    exact Vector.getElem_ofFn n.isLt

end Sys2Proof.Machine
end

section
/-!
PROOF. RESTART (R66, R92, R111, R139, R197): the channels that it keeps and those that it does not, and its notices.
-/

namespace Sys2Proof.Machine

section
variable {s t : State} {c d : Chan}

/-! ### Channels beside an unthrottling -/

theorem aside_joinWaiting (h : d ≠ c) :
    s.Aside { s with slot := { s.slot with waiting := s.slot.waiting ++ [c] } } d := by
  refine ⟨rfl, rfl, fun hmem => ?_, id, rfl⟩
  rcases List.mem_append.1 hmem with hmem | hmem
  · exact hmem
  · exact absurd (List.mem_singleton.1 hmem) h

theorem aside_askSlot (h : d ≠ c) : s.Aside (s.askSlot c) d := by
  unfold State.askSlot
  split
  · exact aside_grantSlot h
  · split
    · exact .refl s d
    · exact aside_joinWaiting h

theorem aside_editUnthrottle (h : d ≠ c) : s.Aside (s.editUnthrottle c) d := by
  unfold State.editUnthrottle
  dsimp only
  split
  · split
    · exact aside_setChan h _
    · exact aside_setChan h _
  · exact (aside_setChan h _).trans (aside_askSlot h)

/-- R66, R130: a reload brings THROTTLED channels into line and no other. -/
theorem aside_realign (hst : (s.chan d).state ≠ .throttled) (old : Plan) (cs : List Chan) : s.Aside (s.realign old cs) d := by
  induction cs generalizing s with
  | nil => exact .refl s d
  | cons c cs ih =>
    unfold State.realign
    split
    · rename_i h
      simp only [Bool.and_eq_true, decide_eq_true_eq] at h
      have hstep : s.Aside (s.editUnthrottle c) d := aside_editUnthrottle (by rintro rfl; exact hst h.1)
      exact hstep.trans (ih (by rw [hstep.chan]; exact hst))
    · exact ih hst

/-! ### The channels after a RESTART -/

/-- R66, R139: a channel that a RESTART does not keep. -/
theorem Channel.afterRestart_of_not_kept (ch : Channel) {r : ChannelRec} (h : ¬(r.rank = 0 ∧ r.active = true)) :
    ch.afterRestart r = ch.notKept r := by
  unfold Channel.afterRestart Channel.notKept
  by_cases hrank : r.rank = 0
  · rw [if_pos hrank, if_pos hrank, if_neg fun hactive => h ⟨hrank, hactive⟩]
    rfl
  · rw [if_neg hrank, if_neg hrank]
    cases hst : ch.state <;> rfl

/-- R92, R111: what a RESTART leaves of the list and the slot holds kept channels alone. -/
theorem restartBlocks_unlisted {p : Plan} (h : p.keeps c = false ∨ s.Unlisted c) : (s.restartBlocks p).Unlisted c := by
  have hlists : ¬(s.standby.afterRestart p).Lists c := by
    rw [Standby.lists_afterRestart]
    rintro ⟨hkeeps, hold⟩
    rcases h with hno | hu
    · rw [hno] at hkeeps
      cases hkeeps
    · obtain ⟨e, he, hc⟩ := List.mem_map.1 hold
      exact ((State.unlisted_iff s c).1 hu).1 e he hc
  rw [State.unlisted_iff]
  refine ⟨fun e he hc => hlists (List.mem_map.2 ⟨e, he, hc⟩), fun hmem => ?_⟩
  obtain ⟨hold, hkeeps⟩ := List.mem_filter.1 hmem
  rcases h with hno | hu
  · rw [hno] at hkeeps
    cases hkeeps
  · exact hu.not_mem_waiting hold

theorem restartBlocks_holder {p : Plan} (h : p.keeps c = false) : (s.restartBlocks p).slot.holder ≠ some c := by
  show s.slot.holder.filter p.keeps ≠ some c
  rw [ne_eq, Option.filter_eq_some_iff, h]
  exact fun k => by cases k.2

theorem aside_restarted (d : Chan) : (s.restartBlocks (loadPlan s.store.image s.sys.straps).plan).Aside s.restarted d := by
  unfold State.restarted
  rw [State.pushAll_eq, State.pushAll_eq]
  exact ⟨rfl, rfl, id, id, rfl⟩

/-- R92, R139: a channel that is unlisted and left alone once the blocks are restarted. -/
theorem aside_restart (hu : (s.restartBlocks (loadPlan s.store.image s.sys.straps).plan).Unlisted c)
    (hleft : ((s.restartBlocks (loadPlan s.store.image s.sys.straps).plan).chan c).leftAlone
      ((loadPlan s.store.image s.sys.straps).plan.channels[c].rank) = true) :
    (s.restartBlocks (loadPlan s.store.image s.sys.straps).plan).Aside s.restart c := by
  have hrestarted := aside_restarted (s := s) c
  have hleft' := hrestarted.leftAlone hleft
  have hrealign := aside_realign (s := s.restarted) (Channel.leftAlone_states hleft').1 s.plan allChans
  have hworks : (s.restarted.realign s.plan allChans).Works s.restart := works_settle _ _
  exact (hrestarted.trans hrealign).trans
    (hworks.aside (hrealign.unlisted (hrestarted.unlisted hu)) (hrealign.leftAlone hleft'))

theorem Channel.leftAlone_of_off {ch : Channel} (h : ch.state = .off ∨ ch.state = .locked) (r : Nat) :
    ch.leftAlone r = true := by
  unfold Channel.leftAlone
  rcases h with h | h <;> rw [h]

/-! ### The notices of a RESTART -/

theorem restarted_ring : s.restarted.ring =
    ((s.notice .reset none 3 (Causes.code { s.sys.causes with restart := true })
        :: s.loadNotices (loadPlan s.store.image s.sys.straps))
      ++ ((allChans.filter fun c => !(loadPlan s.store.image s.sys.straps).plan.keeps c && (s.chan c).state = .checking).map
        fun c => s.notice .checkResult (some c.val) 4 (Timer.elapsed (s.chan c).checkTimer))).foldl Ring.push s.ring := by
  have hchecks : s.abortNotices (loadPlan s.store.image s.sys.straps).plan.cuts =
      (allChans.filter fun c => !(loadPlan s.store.image s.sys.straps).plan.keeps c && (s.chan c).state = .checking).map
        fun c => (.checkResult, some c.val, 4, Timer.elapsed (s.chan c).checkTimer) := by
    unfold State.abortNotices Plan.cuts
    rw [List.filter_filter]
    simp only [Bool.and_comm]
  unfold State.restarted
  rw [State.pushAll_ring, State.pushAll_ring, State.pushAll_eq, hchecks, List.map_map, List.foldl_append]
  rfl

end

/-- Settles O38: a channel that is OFF or LOCKED in the restarted blocks, or that the Planner leaves alone, is as they leave
it. -/
theorem restartFollowsItsReply : Obligations.RestartFollowsItsReply := by
  refine ⟨fun s p body hs hservice hlen => ⟨fun hw => ?_, fun hw => ?_⟩, fun s hdue hreply => ?_⟩
  · exact congrArg Host.Outcome.next ((arrive_restart hs hservice hlen).trans (if_neg (by rw [hw]; nofun)))
  · exact congrArg Host.Outcome.next ((arrive_restart hs hservice hlen).trans (if_pos hw))
  · have hframe := plannerOnly_restart s
    refine ⟨s.restart, loadPlan s.store.image s.sys.straps, rfl, congrArg Host.Outcome.next (if_pos ?_), hframe.plan,
      hframe.store, hframe.pending, hframe.aux, hframe.mail, hframe.overtaken, hframe.est, hframe.level, hframe.sag,
      fun n => ?_, hframe.disc, hframe.link, hframe.sys, ?_, fun c hnot => ?_, fun c hrank hactive hu hleft => ?_⟩
    · rw [hdue, hreply]
      rfl
    · rw [hframe.idle]
      exact freshIdle_get _ n
    · refine State.Pushes.pushed (u := s.restarted.realign s.plan allChans) ?_ (works_settle _ _).pushes
      rw [hframe.sys, realign_ring, restarted_ring]
      rfl
    · have hkeeps : (loadPlan s.store.image s.sys.straps).plan.keeps c = false :=
        Bool.eq_false_iff.2 fun k => hnot ((Plan.keeps_iff _ c).1 k)
      have hu := restartBlocks_unlisted (s := s) (.inl hkeeps)
      have haside := aside_restart hu (Channel.leftAlone_of_off
        (by rw [restartBlocks_chan]; exact Channel.afterRestart_state _ hnot) _)
      refine ⟨?_, haside.unlisted hu, haside.holder (restartBlocks_holder hkeeps)⟩
      rw [haside.chan, restartBlocks_chan, Channel.afterRestart_of_not_kept _ hnot]
    · have hchan : (s.restartBlocks (loadPlan s.store.image s.sys.straps).plan).chan c = s.chan c := by
        rw [restartBlocks_chan, Channel.afterRestart_of_kept _ hrank hactive]
      have haside := aside_restart (restartBlocks_unlisted (s := s) (.inr hu)) (by rw [hchan, hrank]; exact hleft)
      rw [haside.chan, hchan]

end Sys2Proof.Machine
end

section
/-!
PROOF. SET_LEVEL (R28, R29) and SWITCH (R132, R133) in every form.
-/

namespace Sys2Proof.Machine

/-! ### SET_LEVEL -/

section
variable {s : State} {l : Level} {rest : List Byte}

theorem editLevel_of_valid {x : LevelTable} (h : levelsFromBody s.plan.levels l rest = some x)
    (hvalid : validLevels s.sys.straps.vsys x = true) : s.editLevel l.val rest = ((s.setLevelTable x).cancelDwell, .ok) := by
  unfold State.editLevel
  rw [dif_pos l.isLt]
  dsimp only [Fin.eta]
  rw [h]
  dsimp only
  rw [if_pos hvalid]
  rfl

theorem editLevel_of_invalid (h : levelsFromBody s.plan.levels l rest = none
    ∨ ∃ x, levelsFromBody s.plan.levels l rest = some x ∧ validLevels s.sys.straps.vsys x = false) :
    s.editLevel l.val rest = (s, .invalid) := by
  unfold State.editLevel
  rw [dif_pos l.isLt]
  dsimp only [Fin.eta]
  rcases h with h | ⟨x, h, hvalid⟩
  · rw [h]
  · rw [h]
    dsimp only
    rw [if_neg (by simp [hvalid])]

end

/-- Settles O33: what follows an accepted table is the Planner's alone. -/
theorem setLevelReplacesTheTable : Obligations.SetLevelReplacesTheTable := by
  intro s p g l rest h hg hlen
  rw [List.append_assoc]
  refine ⟨fun tbl htbl hvalid => ?_, fun hnot => ?_⟩
  · have hedit := editLevel_of_valid (s := s.heard p) htbl hvalid
    have hworks := works_finish (s := ((s.heard p).setLevelTable tbl).cancelDwell.bumpGeneration) (s.heard p)
      ((s.heard p).levelEditTells ((s.heard p).setLevelTable tbl).cancelDwell.bumpGeneration)
    have hframe := hworks.plannerOnly
    have harrive := arrive_of_ownerAccepted (ty := .setLevel) (rest := BitVec.ofNat 8 l.val :: rest)
      (t := ((s.heard p).setLevelTable tbl).cancelDwell)
      (acts := fun t => (s.heard p).finish t ((s.heard p).levelEditTells t)) rfl h hg (by simp [ReqType.minBody])
      (by simp; omega) rfl (indexed_owner (s.heard p).editLevel l (by decide) hedit)
    refine ⟨_, congrArg Host.Outcome.next harrive, hframe.plan, hframe.level, ?_, ?_⟩
    · dsimp only
      generalize State.finish _ _ _ = t at hframe
      rw [heard_eq h.2.1] at hframe
      exact ⟨hframe.pending, hframe.est, hframe.mail, rfl, hframe.sag, hframe.idle, hframe.aux, hframe.disc, rfl, rfl,
        hframe.store, hframe.sys, hframe.overtaken⟩
    · exact hworks.othersKept_nil []
  · exact congrArg Host.Outcome.next (arrive_of_ownerRefused (ty := .setLevel) rfl h hg (by simp [ReqType.minBody])
      (by simp; omega) rfl (indexed_owner (s.heard p).editLevel l (by decide) (editLevel_of_invalid hnot)) nofun nofun)

/-! ### A SWITCH request ahead of its action (R107, R146) -/

section
variable {s t : State} {p : Peer} {c d : Chan}

theorem noteOvertaken_idle (noted : Bool) : (s.noteOvertaken c noted).idle = s.idle := by rw [State.noteOvertaken_eq]

theorem panelIdle_get (n : TimerIx) : (s.panelIdle c)[n] =
    s.idleAfter n (s.plan.timers[n].hasPanel && s.plan.timers[n].isMember c) := Vector.getElem_ofFn n.isLt

theorem panelActivity_idle : (s.panelActivity c).idle = s.panelIdle c := by
  refine Vector.ext fun k hk => ?_
  exact (activity_idle (s := s) (fun r => r.hasPanel && r.isMember c) ⟨k, hk⟩).trans (panelIdle_get ⟨k, hk⟩).symm

theorem switchTaken_idle (noted : Bool) : (s.switchTaken c noted).idle = s.panelIdle c := by
  unfold State.switchTaken
  rw [panelActivity_idle, State.noteOvertaken_eq]
  rfl

theorem switchTaken_overtaken (noted : Bool) : (s.switchTaken c noted).overtaken =
    if noted = true ∧ (s.crec c).active = true ∧ (s.chan c).state = .waiting then s.overtakenBy c true else s.overtaken := by
  have hkept : (s.switchTaken c noted).overtaken = (s.noteOvertaken c noted).overtaken := by
    unfold State.switchTaken State.panelActivity
    rw [State.activity_eq]
  rw [hkept]
  unfold State.noteOvertaken
  by_cases h : noted = true ∧ (s.crec c).active = true ∧ (s.chan c).state = .waiting
  · rw [if_pos h, if_pos (by simp [h])]
    unfold State.overtakenBy
    rw [if_pos rfl]
    show s.overtaken ++ _ = _
    congr 2
    refine List.filter_congr fun n _ => ?_
    simp only [State.overtakes, State.idleDue, Bool.decide_and, Bool.decide_eq_true, Bool.and_assoc]
  · rw [if_neg h, if_neg (by simpa [and_assoc] using h)]

/-- R107: no expiry is due outside RUN. -/
theorem overtakenBy_outside (hd : s.disc.device ≠ .run) (forced : Bool) : s.overtakenBy c forced = s.overtaken := by
  unfold State.overtakenBy
  split
  · simp [hd]
  · exact List.append_nil _

theorem switchTaken_of_not {noted : Bool} (h : ¬(noted = true ∧ (s.crec c).active = true ∧ (s.chan c).state = .waiting)) :
    s.switchTaken c noted = { s with idle := s.panelIdle c } := by
  rw [State.switchTaken_eq, switchTaken_idle, switchTaken_overtaken, if_neg h]

theorem switchTaken_of_waiting (noted : Bool) (hactive : (s.crec c).active = true) (hst : (s.chan c).state = .waiting) :
    s.switchTaken c noted = { s with idle := s.panelIdle c, overtaken := s.overtakenBy c noted } := by
  rw [State.switchTaken_eq, switchTaken_idle, switchTaken_overtaken]
  cases noted with
  | true => rw [if_pos ⟨rfl, hactive, hst⟩]
  | false =>
    rw [if_neg (by nofun)]
    show State.mk _ _ _ _ _ _ _ _ _ _ _ _ _ _ _ _ _ _ = State.mk _ _ _ _ _ _ _ _ _ _ (s.overtaken ++ []) _ _ _ _ _ _ _
    rw [List.append_nil]

/-- R107: where no expiry can be due, or the request is not noted, the activity is all. -/
theorem switchTaken_of_refused (noted : Bool)
    (h : (s.crec c).active = false ∨ s.disc.device ≠ .run ∨ (s.chan c).state ≠ .waiting) :
    s.switchTaken c noted = { s with idle := s.panelIdle c } := by
  by_cases hnote : noted = true ∧ (s.crec c).active = true ∧ (s.chan c).state = .waiting
  · obtain ⟨-, hactive, hst⟩ := hnote
    have hd : s.disc.device ≠ .run := by
      rcases h with h | h | h
      · rw [h] at hactive
        cases hactive
      · exact h
      · exact absurd hst h
    rw [switchTaken_of_waiting noted hactive hst, overtakenBy_outside hd]
  · exact switchTaken_of_not hnote

/-! ### The SWITCH request (R176, R180) -/

theorem controlByte_action (flags : BitVec 7) (action : Bool) : (controlByte flags action).getLsbD 0 = action := by
  revert flags action
  decide

theorem controlByte_forcing (flags : BitVec 7) (action : Bool) (h : flags.toNat ≤ 1) :
    (controlByte flags action).getLsbD 1 = decide (flags.toNat = 1) := by
  revert flags action
  decide

theorem ownSwitch_on (flags : BitVec 7) (extra : List Byte) (h : flags.toNat ≤ 1) :
    ownSwitch (BitVec.ofNat 8 c.val :: controlByte flags true :: extra) s =
      switchOnChannel (s.switchTaken c (flags.toNat = 1)) c (flags.toNat = 1) := by
  unfold ownSwitch
  simp only [List.getD_cons_zero, List.getD_cons_succ, toNat_chanByte, dif_pos c.isLt, controlByte_action,
    controlByte_forcing flags true h, Bool.true_and, if_true, Fin.eta]
  rfl

theorem ownSwitch_off (flags : BitVec 7) (extra : List Byte) :
    ownSwitch (BitVec.ofNat 8 c.val :: controlByte flags false :: extra) s = switchOffChannel (s.switchTaken c false) c := by
  unfold ownSwitch
  simp only [List.getD_cons_zero, List.getD_cons_succ, toNat_chanByte, dif_pos c.isLt, controlByte_action,
    Bool.false_and, Bool.false_eq_true, if_false, Fin.eta]
  rfl

theorem refusal_of_switch {flags : BitVec 7} (h : flags.toNat ≤ 1) (action : Bool) (extra : List Byte) :
    ReqType.switch.refusal (BitVec.ofNat 8 c.val :: controlByte flags action :: extra) s = none := by
  refine refusal_of_user (by simp [ReqType.minBody]) rfl ?_
  have hcontrol := controlByte_toNat flags action
  have haction : action.toNat ≤ 1 := Bool.toNat_le action
  have hc := c.isLt
  simp only [ReqType.fieldsPass, List.getD_cons_zero, List.getD_cons_succ, toNat_chanByte, hcontrol, Bool.and_eq_true,
    decide_eq_true_eq]
  omega

theorem execSwitchOn_of_serves {flags : BitVec 7} {extra : List Byte} {a : Answer} {fields : List Byte} (hs : s.Serves)
    (h : flags.toNat ≤ 1) (hlen : extra.length ≤ 54)
    (hown : switchOnChannel ((s.heard p).switchTaken c (flags.toNat = 1)) c (flags.toNat = 1) = a)
    (hfields : answerFields .switch a = fields) :
    exec (.switchOn p (BitVec.ofNat 8 c.val) flags extra) s = .next (a.state.repliedWith a.summary p 0x10 a.status fields) :=
  congrArg Host.Outcome.next (arrive_of_own (ty := .switch) hs (by simp; omega) (refusal_of_switch h true extra)
    ((ownSwitch_on flags extra h).trans hown) hfields)

theorem execSwitchOff_of_serves {flags : BitVec 7} {extra : List Byte} {a : Answer} {fields : List Byte} (hs : s.Serves)
    (h : flags.toNat ≤ 1) (hlen : extra.length ≤ 54) (hown : switchOffChannel ((s.heard p).switchTaken c false) c = a)
    (hfields : answerFields .switch a = fields) :
    exec (.switchOff p (BitVec.ofNat 8 c.val) flags extra) s =
      .next (a.state.repliedWith a.summary p 0x10 a.status fields) :=
  congrArg Host.Outcome.next (arrive_of_own (ty := .switch) hs (by simp; omega) (refusal_of_switch h false extra)
    ((ownSwitch_off flags extra).trans hown) hfields)

/-! ### An event that changes nothing -/

theorem callsPlanner_self : callsPlanner s s = false := by
  unfold callsPlanner freed emptiedFree
  cases s.slot.holder <;> cases s.slot.waiting <;> simp

/-- R68, R88: nothing follows an event that changed nothing, unless the slot can be served. -/
theorem finish_self (h : s.SlotQuiet) : s.finish s false = s := by
  unfold State.finish settleRounds State.settle
  dsimp only
  rw [serveSlot_of_quiet h, callsPlanner_self, if_neg (by simp)]

end

end Sys2Proof.Machine
end

section
/-!
PROOF. SWITCH ON and SWITCH OFF (R132, R133) in every state of the channel.
-/

namespace Sys2Proof.Machine

section
variable {s t u : State} {p : Peer} {c d : Chan} {forced : Bool}

/-! ### SWITCH ON by the channel's state (R132) -/

theorem switchOnChannel_of_denied (h : (s.crec c).active = false ∨ s.disc.device = .isolated) :
    switchOnChannel s c forced = .plain s .notAllowed := by
  unfold switchOnChannel
  rw [if_pos]
  rw [Bool.or_eq_true, decide_eq_true_eq, Bool.not_eq_true']
  exact h

theorem switchOnChannel_passes (hactive : (s.crec c).active = true) (hd : s.disc.device = .run) :
    ¬(!(s.crec c).active || decide (s.disc.device = .isolated)) = true := by
  rw [hactive, hd]
  nofun

theorem switchOnChannel_of_off (hactive : (s.crec c).active = true) (hd : s.disc.device = .run)
    (hst : (s.chan c).state = .off) :
    switchOnChannel s c forced = queuedReply (s.request c forced) c (s.finish (s.request c forced) false) := by
  unfold switchOnChannel
  rw [if_neg (switchOnChannel_passes hactive hd), hst]
  rfl

theorem switchOnChannel_of_waiting (hactive : (s.crec c).active = true) (hd : s.disc.device = .run)
    (hst : (s.chan c).state = .waiting) : switchOnChannel s c forced =
      queuedReply (if forced then s.forceEntry c else s) c (s.finish (if forced then s.forceEntry c else s) false) := by
  unfold switchOnChannel
  rw [if_neg (switchOnChannel_passes hactive hd), hst]

theorem switchOnChannel_of_used (hactive : (s.crec c).active = true) (hd : s.disc.device = .run)
    (hst : (s.chan c).state = .starting ∨ (s.chan c).state = .on ∨ (s.chan c).state = .throttled
      ∨ ((s.chan c).state = .rundown ∧ (s.chan c).intent ≠ .off)) : switchOnChannel s c forced = .plain s .ok := by
  unfold switchOnChannel
  rw [if_neg (switchOnChannel_passes hactive hd)]
  rcases hst with h | h | h | ⟨h, hintent⟩ <;> rw [h]
  dsimp only
  rw [if_neg hintent]

theorem switchOnChannel_of_rundown (hactive : (s.crec c).active = true) (hd : s.disc.device = .run)
    (hst : (s.chan c).state = .rundown) (hintent : (s.chan c).intent = .off) :
    switchOnChannel s c forced = .plain (s.setChan c { s.chan c with intent := .waitRequest }) .ok := by
  unfold switchOnChannel
  rw [if_neg (switchOnChannel_passes hactive hd), hst]
  dsimp only
  rw [if_pos hintent]

theorem switchOnChannel_of_refused (hst : (s.chan c).state = .tripped ∨ (s.chan c).state = .locked
    ∨ (s.chan c).state = .checking) : switchOnChannel s c forced = .plain s .notAllowed := by
  unfold switchOnChannel
  split
  · rfl
  · rcases hst with h | h | h <;> rw [h]

/-! ### A forced entry (R101) -/

theorem forceEntry_of_forced {e : Entry} (h : s.entry? c = some e) (hforced : e.forced = true) : s.forceEntry c = s := by
  unfold State.forceEntry
  rw [h]
  dsimp only
  rw [if_pos hforced]

theorem forceEntry_of_unforced {e : Entry} (h : s.entry? c = some e) (hforced : e.forced = false) : s.forceEntry c =
    s.setEntries (placeEntry s.rank { e with forced := true } (s.standby.entries.filter fun x => x.channel ≠ c)) := by
  unfold State.forceEntry
  rw [h]
  dsimp only
  rw [if_neg (by rw [hforced]; nofun)]

/-- Entry `e` is forced, is the first of its channel, and has forced entries alone ahead of it (R96). -/
def Ahead (e : Entry) (l : List Entry) : Prop :=
  ∃ pre post, l = pre ++ e :: post ∧ e.forced = true ∧ ∀ x ∈ pre, x.forced = true ∧ x.channel ≠ e.channel

theorem Ahead.find? {e : Entry} {l : List Entry} (h : Ahead e l) : l.find? (fun x => x.channel = e.channel) = some e := by
  obtain ⟨pre, post, rfl, -, hpre⟩ := h
  rw [List.find?_append, List.find?_eq_none.2 fun x hx => by simpa using (hpre x hx).2]
  simp

/-- R96: a forced entry that is placed among entries of other channels. -/
theorem ahead_placeEntry (rank : Chan → Nat) {e : Entry} (he : e.forced = true) {l : List Entry}
    (h : ∀ x ∈ l, x.channel ≠ e.channel) : Ahead e (placeEntry rank e l) := by
  induction l with
  | nil => exact ⟨[], [], rfl, he, nofun⟩
  | cons x xs ih =>
    unfold placeEntry
    split
    · exact ⟨[], x :: xs, rfl, he, nofun⟩
    · rename_i hbefore
      obtain ⟨pre, post, hxs, -, hpre⟩ := ih fun y hy => h y (List.mem_cons_of_mem x hy)
      have hx : x.forced = true := by
        cases hx : x.forced with
        | true => rfl
        | false => exact absurd (by unfold Entry.before; rw [if_pos (by rw [he, hx]; nofun)]; exact he) hbefore
      refine ⟨x :: pre, post, by rw [hxs]; rfl, he, fun y hy => ?_⟩
      rcases List.mem_cons.1 hy with rfl | hy
      · exact ⟨hx, h y List.mem_cons_self⟩
      · exact hpre y hy

/-- R96: an unforced entry goes behind every forced one. -/
theorem Ahead.placeEntry {e : Entry} {l : List Entry} (h : Ahead e l) (rank : Chan → Nat) {x : Entry} (hx : x.forced = false) :
    Ahead e (placeEntry rank x l) := by
  obtain ⟨pre, post, rfl, he, hpre⟩ := h
  have hbehind : ∀ y : Entry, y.forced = true → ¬Entry.before rank x y = true := fun y hy => by
    unfold Entry.before
    rw [if_pos (by rw [hx, hy]; nofun), hx]
    nofun
  refine ⟨pre, Machine.placeEntry rank x post, ?_, he, hpre⟩
  induction pre with
  | nil =>
    show Machine.placeEntry rank x (e :: post) = _
    rw [Machine.placeEntry, if_neg (hbehind e he)]
    rfl
  | cons y ys ih =>
    show Machine.placeEntry rank x (y :: (ys ++ e :: post)) = _
    rw [Machine.placeEntry, if_neg (hbehind y (hpre y List.mem_cons_self).1), ih fun z hz => hpre z (List.mem_cons_of_mem y hz)]
    rfl

theorem Ahead.filter {e : Entry} {l : List Entry} (h : Ahead e l) (hne : e.channel ≠ d) :
    Ahead e (l.filter fun x => x.channel ≠ d) := by
  obtain ⟨pre, post, rfl, he, hpre⟩ := h
  refine ⟨pre.filter fun x => x.channel ≠ d, post.filter fun x => x.channel ≠ d, ?_, he,
    fun x hx => hpre x (List.mem_of_mem_filter hx)⟩
  rw [List.filter_append, List.filter_cons_of_pos (by simpa using hne)]

/-! ### What follows the forcing of an entry -/

theorem shedChannel_standby (c : Chan) (o : Origin) (r : Reason) (i : Intent) :
    (s.shedChannel c o r i).standby = s.standby
      ∨ ∃ e : Entry, e.forced = false ∧ (o ≠ .sag → e.held = false)
        ∧ (s.shedChannel c o r i).standby.entries = placeEntry s.rank e s.standby.entries := by
  unfold State.shedChannel
  split
  · exact .inl rfl
  · refine .inr ⟨⟨c, o, false, o = .sag && (s.cutTo c .waiting r).sag.releasePending, (s.cutTo c .waiting r).sys.uptime⟩, rfl,
      fun ho => by simp [ho], ?_⟩
    show placeEntry (s.cutTo c .waiting r).rank _ (s.cutTo c .waiting r).standby.entries = _
    rw [State.cutTo_standby, show (s.cutTo c .waiting r).rank = s.rank from
      funext fun d => State.rank_congr (plannerOnly_cutTo s c _ _).plan d]

theorem shedStep_standby (c : Chan) : (s.shedStep c).standby = s.standby
    ∨ ∃ e : Entry, e.forced = false ∧ e.held = false
      ∧ (s.shedStep c).standby.entries = placeEntry s.rank e s.standby.entries := by
  unfold State.shedStep
  dsimp only
  split
  · exact .inl rfl
  · rcases shedChannel_standby (s := s) c .shed .shed .waitShed with hkept | ⟨e, hforced, hheld, hplaced⟩
    · exact .inl hkept
    · exact .inr ⟨e, hforced, hheld nofun, hplaced⟩

theorem grantSlot_standby (c : Chan) : (s.grantSlot c).standby = s.standby := by
  unfold State.grantSlot
  split <;> rfl

theorem unthrottle_standby (c : Chan) : (s.unthrottle c).standby = s.standby := by
  unfold State.unthrottle
  split <;> rfl

/-- R97: no act takes a forced entry from its place at the head. -/
theorem Ahead.act {e : Entry} (h : Ahead e s.standby.entries) (k : s.Act t) : Ahead e t.standby.entries := by
  cases k with
  | sheds d =>
    rcases shedStep_standby (s := s) d with hkept | ⟨x, hx, -, hplaced⟩
    · rw [hkept]
      exact h
    · rw [hplaced]
      exact h.placeEntry s.rank hx
  | reports => exact h
  | timer x b => exact h
  | unthrottles d =>
    show Ahead e (s.unthrottle d).standby.entries
    rw [unthrottle_standby]
    exact h
  | serves d =>
    rw [grantSlot_standby]
    exact h

theorem cutTo_holder_of_ne (h : d ≠ c) (st : ChState) (r : Reason) (k : s.slot.holder = some d) :
    (s.cutTo c st r).slot.holder = some d := by
  rw [State.cutTo_slot]
  show (if s.slot.holder = some c then none else s.slot.holder) = some d
  rw [if_neg, k]
  rw [k]
  exact fun hdc => h (Option.some.inj hdc)

theorem shedStep_holder_of_ne (h : d ≠ c) (k : s.slot.holder = some d) : (s.shedStep c).slot.holder = some d := by
  unfold State.shedStep State.shedChannel
  split
  · exact k
  · dsimp only [State.startQuiet_slot, State.push_slot]
    split
    · exact k
    · exact cutTo_holder_of_ne h _ _ k

/-- R74: a channel that is STARTING is shed to WAITING. -/
theorem shedStep_state_of_starting (h : (s.chan c).state = .starting) : ((s.shedStep c).chan c).state = .waiting := by
  unfold State.shedStep State.shedChannel
  rw [if_neg (by rw [h]; nofun), if_neg (by rw [h]; nofun)]
  show ((s.cutTo c .waiting .shed).chan c).state = .waiting
  rw [State.cutTo_chan, Function.update_self]

/-- R84, R101: a forced entry's channel waits, or it has the slot and starts. -/
def State.WaitsOrHolds (s : State) (c : Chan) : Prop :=
  (s.chan c).state = .waiting ∨ ((s.chan c).state = .starting ∧ s.slot.holder = some c)

theorem State.WaitsOrHolds.of_kept (h : s.WaitsOrHolds c) (hchan : t.chan c = s.chan c)
    (hholder : s.slot.holder = some c → t.slot.holder = some c) : t.WaitsOrHolds c := by
  unfold State.WaitsOrHolds
  rw [hchan]
  exact h.imp_right fun k => ⟨k.1, hholder k.2⟩

theorem grantSlot_waitsOrHolds (h : (s.chan c).state = .waiting) : (s.grantSlot c).WaitsOrHolds c := by
  unfold State.grantSlot
  split
  · refine .inr ⟨?_, rfl⟩
    show ((s.setChan c _).chan c).state = .starting
    rw [State.chan_setChan_self]
  · refine .inl ?_
    show ((s.setChan c _).chan c).state = .waiting
    rw [State.chan_setChan_self]
    exact h

theorem State.WaitsOrHolds.waiting_of_free (h : s.WaitsOrHolds c) (hfree : s.slot.holder = none) :
    (s.chan c).state = .waiting :=
  h.resolve_right fun k => by rw [hfree] at k; cases k.2

theorem State.WaitsOrHolds.act (h : s.WaitsOrHolds c) (k : s.Act t) : t.WaitsOrHolds c := by
  cases k with
  | sheds d hd hcand =>
    by_cases hcd : c = d
    · subst hcd
      have hstarting : (s.chan c).state = .starting := by
        rcases h with hwait | hstart
        · rw [State.isShedCandidate_iff, hwait] at hcand
          rcases hcand.1 with k | k | k <;> cases k
        · exact hstart.1
      exact .inl (shedStep_state_of_starting hstarting)
    · exact h.of_kept (aside_shedStep hcd).chan (shedStep_holder_of_ne hcd)
  | reports => exact h
  | timer x b => exact h
  | unthrottles d hm hthrottled =>
    have hwait := h.waiting_of_free (State.mayAdmit_iff.1 hm).2.1
    have hcd : c ≠ d := by
      rintro rfl
      rw [hwait] at hthrottled
      cases hthrottled
    left
    show ((s.unthrottle d).chan c).state = .waiting
    rw [(aside_unthrottle hcd).chan]
    exact hwait
  | serves d hfree =>
    have hwait := h.waiting_of_free hfree
    by_cases hcd : c = d
    · subst hcd
      exact grantSlot_waitsOrHolds hwait
    · left
      rw [(aside_grantSlot hcd).chan]
      exact hwait

/-- R101, R84: all that follows the forcing of an entry. -/
theorem State.Works.forcedEntry {e : Entry} (h : s.Works t) (hahead : Ahead e s.standby.entries) (hst : s.WaitsOrHolds e.channel) :
    ((t.chan e.channel).state = .waiting ∧ t.entry? e.channel = some e)
      ∨ ((t.chan e.channel).state = .starting ∧ t.slot.holder = some e.channel) := by
  have hkept : ∀ {m : State}, s.Acts m → Ahead e m.standby.entries ∧ m.WaitsOrHolds e.channel := fun hm =>
    hm.keeps (P := fun m => Ahead e m.standby.entries ∧ m.WaitsOrHolds e.channel)
      (fun _ _ hm k => ⟨hm.1.act k, hm.2.act k⟩) ⟨hahead, hst⟩
  cases h with
  | acts h =>
    obtain ⟨hthere, hplace⟩ := hkept h
    exact hplace.imp_left fun k => ⟨k, hthere.find?⟩
  | @admits m h x n hm hx =>
    obtain ⟨hthere, hplace⟩ := hkept h
    have hwait := hplace.waiting_of_free (State.mayAdmit_iff.1 hm).2.1
    by_cases hc : e.channel = x.channel
    · rw [hc]
      exact .inr ⟨by rw [admitEntry_chan_self], State.admitEntry_holder _ _⟩
    · have haside : m.Aside (m.admitEntry x.channel n) e.channel := aside_admitEntry hc n
      exact .inl ⟨by rw [haside.chan]; exact hwait, by rw [haside.entry]; exact hthere.find?⟩

end

end Sys2Proof.Machine
end

section
/-!
PROOF. The SWITCH request settled in every form (R132, R133).
-/

namespace Sys2Proof.Machine

section
variable {s t u : State} {p : Peer} {c d : Chan} {forced : Bool}

/-- The state that a SWITCH request for channel `c` finds, its activity taken: `o` are the overtaken expiries. -/
def State.switched (s : State) (p : Peer) (c : Chan) (o : List (TimerIx × Chan)) : State :=
  { s.heard p with idle := s.panelIdle c, overtaken := o }

theorem switchTaken_heard_of_refused (noted : Bool)
    (h : (s.crec c).active = false ∨ s.disc.device ≠ .run ∨ (s.chan c).state ≠ .waiting) :
    (s.heard p).switchTaken c noted = s.switched p c s.overtaken := switchTaken_of_refused (s := s.heard p) noted h

theorem switchTaken_heard_of_waiting (noted : Bool) (hactive : (s.crec c).active = true) (hst : (s.chan c).state = .waiting) :
    (s.heard p).switchTaken c noted = s.switched p c (s.overtakenBy c noted) :=
  switchTaken_of_waiting (s := s.heard p) noted hactive hst

theorem switchTaken_heard_off (c : Chan) : (s.heard p).switchTaken c false = s.switched p c s.overtaken :=
  switchTaken_of_not (s := s.heard p) (by rintro ⟨h, -⟩; cases h)

/-- R132: a request is queued: the channel waits with its entry. -/
theorem queued_request (h : s.Unlisted c) (forced : Bool) : (s.request c forced).Queued c { s.chan c with state := .waiting }
    ⟨c, .request, forced, false, s.sys.uptime⟩ :=
  ⟨State.chan_setChan_self s c _, rfl, entry?_insertEntry_self (s := s.setChan c _) h.1 .request forced, h.not_mem_waiting⟩

theorem aside_request (h : d ≠ c) (forced : Bool) : s.Aside (s.request c forced) d :=
  (aside_setChan h _).trans (aside_insertEntry h _ _)

theorem plannerOnly_request (c : Chan) (forced : Bool) : s.PlannerOnly (s.request c forced) :=
  (plannerOnly_setChan s c _).trans (plannerOnly_insertEntry _ c _ _)

theorem aside_setEntries_force {e : Entry} (h : d ≠ e.channel) (rank : Chan → Nat) :
    s.Aside (s.setEntries (placeEntry rank e (s.standby.entries.filter fun x => x.channel ≠ e.channel))) d := by
  refine ⟨rfl, ?_, id, id, rfl⟩
  show List.find? _ (placeEntry rank e _) = _
  rw [find?_placeEntry_of_ne rank (fun k => h k.symm), find?_filter_of_ne h]
  rfl

theorem forcedEntry_summary : (s.forceEntry c).summary = s.summary := by
  unfold State.forceEntry
  split
  · rfl
  · split <;> rfl

theorem forcedEntry_position {e : Entry} {o : List (TimerIx × Chan)} (h : s.entry? c = some e) (hforced : e.forced = false) :
    ((s.switched p c o).forceEntry c).position c = (s.forceEntry c).position c := by
  rw [forceEntry_of_unforced (s := s.switched p c o) h hforced, forceEntry_of_unforced h hforced]
  rfl

theorem channel_of_entry? {e : Entry} (h : s.entry? c = some e) : e.channel = c := by
  simpa using List.find?_some h

/-- R132: the reply to a queued request tells the entry's position and the summary ahead of the Planner. -/
theorem execSwitchOn_queued {flags : BitVec 7} {extra : List Byte} {own final : State} {n : Nat} (hs : s.Serves)
    (h : flags.toNat ≤ 1) (hlen : extra.length ≤ 54)
    (hown : switchOnChannel ((s.heard p).switchTaken c (flags.toNat = 1)) c (flags.toNat = 1) = queuedReply own c final)
    (hsummary : own.summary = s.summary) (hposition : own.position c = n) :
    exec (.switchOn p (BitVec.ofNat 8 c.val) flags extra) s =
      .next (final.repliedWith s.summary p 0x10 .queued [BitVec.ofNat 8 n]) := by
  rw [execSwitchOn_of_serves hs h hlen hown rfl, ← hsummary, ← hposition]
  rfl

/-- R132: a request answered at once. -/
theorem execSwitchOn_plain {flags : BitVec 7} {extra : List Byte} {x : Status} (hs : s.Serves) (h : flags.toNat ≤ 1)
    (hlen : extra.length ≤ 54) (hx : x = .ok ∨ x = .notAllowed)
    (hown : switchOnChannel ((s.heard p).switchTaken c (flags.toNat = 1)) c (flags.toNat = 1) = .plain u x) :
    exec (.switchOn p (BitVec.ofNat 8 c.val) flags extra) s = .next (u.replied p 0x10 x [0]) := by
  have hfields : answerFields .switch (Answer.plain u x) = [0] := by rcases hx with rfl | rfl <;> rfl
  rw [execSwitchOn_of_serves hs h hlen hown hfields]
  rfl

/-- R133: the summary of a SWITCH OFF is that of the state ahead of the Planner. -/
theorem execSwitchOff_of_own {flags : BitVec 7} {extra : List Byte} (hs : s.Serves) (h : flags.toNat ≤ 1)
    (hlen : extra.length ≤ 54) (hsummary : ((s.switched p c s.overtaken).switchOff c).summary = s.summary) :
    exec (.switchOff p (BitVec.ofNat 8 c.val) flags extra) s =
      .next (((s.switched p c s.overtaken).finish ((s.switched p c s.overtaken).switchOff c) false).repliedWith s.summary p 0x10
        .ok [0]) := by
  have hown : switchOffChannel ((s.heard p).switchTaken c false) c = .before ((s.switched p c s.overtaken).switchOff c)
      ((s.switched p c s.overtaken).finish ((s.switched p c s.overtaken).switchOff c) false) .ok [] := by
    rw [switchTaken_heard_off]
    rfl
  rw [execSwitchOff_of_serves hs h hlen hown rfl, ← hsummary]
  rfl

/-- What follows a SWITCH request beside its own part. -/
theorem plannerOnly_switched {o : List (TimerIx × Chan)} (h : (s.switched p c o).PlannerOnly t) :
    State.PlannerOnly { s.setService p.service with idle := s.panelIdle c, link := t.link, overtaken := o } t :=
  ⟨h.pending, h.est, h.mail, h.level, h.sag, h.idle, h.aux, h.disc, rfl, h.plan, h.store, h.sys, h.overtaken⟩

end

/-- Settles O27. -/
theorem switchOnActsByTheState : Obligations.SwitchOnActsByTheState := by
  intro s p c flags extra hs hflags hlen
  refine ⟨fun hactive hd hst hu => ?_, fun e hactive hd hst he hforced hquiet => ?_, fun e hactive hd hst he hforced hone => ?_,
    fun hactive hd hst => ?_, fun hactive hd hst => ?_, fun h => ?_⟩
  · have htaken := switchTaken_heard_of_refused (p := p) (flags.toNat = 1) (.inr (.inr (by rw [hst]; nofun)))
    have hown := switchOnChannel_of_off (s := s.switched p c s.overtaken) (forced := flags.toNat = 1) hactive hd hst
    rw [← htaken] at hown
    have hexec := execSwitchOn_queued (n := (s.insertEntry c .request (flags.toNat = 1)).position c) hs hflags hlen hown
      (by rw [htaken]; rfl) (by rw [htaken]; rfl)
    rw [htaken] at hexec
    have hworks := works_finish (s := (s.switched p c s.overtaken).request c (flags.toNat = 1)) (s.switched p c s.overtaken) false
    have hframe := (plannerOnly_request (s := s.switched p c s.overtaken) c (flags.toNat = 1)).trans hworks.plannerOnly
    have hqueued := (queued_request (s := s.switched p c s.overtaken) hu (flags.toNat = 1)).works hworks
    refine ⟨_, hexec, plannerOnly_switched (o := s.overtaken) hframe, ?_, ?_, ?_⟩
    · exact hworks.othersKept (s := s.switched p c s.overtaken) fun d hd => aside_request (by simpa using hd) _
    · rcases hqueued with hwait | ⟨hstart, -⟩
      · exact (congrArg Channel.reason hwait.chan).trans rfl
      · exact (congrArg Channel.reason hstart).trans rfl
    · rcases hqueued with hwait | ⟨hstart, hholder⟩
      · exact .inl ⟨(congrArg Channel.state hwait.chan).trans rfl, hwait.entry⟩
      · exact .inr ⟨(congrArg Channel.state hstart).trans rfl, hholder⟩
  · have htaken := switchTaken_heard_of_waiting (p := p) (flags.toNat = 1) hactive hst
    have hown := switchOnChannel_of_waiting (s := s.switched p c (s.overtakenBy c (flags.toNat = 1)))
      (forced := flags.toNat = 1) hactive hd hst
    have hforce : (if decide (flags.toNat = 1) = true then (s.switched p c (s.overtakenBy c (flags.toNat = 1))).forceEntry c
        else s.switched p c (s.overtakenBy c (flags.toNat = 1))) = s.switched p c (s.overtakenBy c (flags.toNat = 1)) := by
      split
      · rename_i hone
        exact forceEntry_of_forced he (hforced.resolve_right (by rw [decide_eq_true_eq] at hone; omega))
      · rfl
    rw [hforce, finish_self (s := s.switched p c (s.overtakenBy c (flags.toNat = 1))) hquiet, ← htaken] at hown
    have hexec := execSwitchOn_queued (n := s.position c) hs hflags hlen hown (by rw [htaken]; rfl) (by rw [htaken]; rfl)
    rw [hexec, htaken]
    rfl
  · have htaken := switchTaken_heard_of_waiting (p := p) (flags.toNat = 1) hactive hst
    have hown := switchOnChannel_of_waiting (s := s.switched p c (s.overtakenBy c (flags.toNat = 1)))
      (forced := flags.toNat = 1) hactive hd hst
    have hyes : decide (flags.toNat = 1) = true := by simp [hone]
    rw [if_pos hyes, ← htaken] at hown
    have hexec := execSwitchOn_queued (n := (s.forceEntry c).position c) hs hflags hlen hown
      (by rw [htaken, forcedEntry_summary]; rfl) (by rw [htaken]; exact forcedEntry_position he hforced)
    rw [htaken, hyes] at hexec
    have hworks := works_finish (s := (s.switched p c (s.overtakenBy c true)).forceEntry c)
      (s.switched p c (s.overtakenBy c true)) false
    have hframe := (plannerOnly_forceEntry (s.switched p c (s.overtakenBy c true)) c).trans hworks.plannerOnly
    have hchannel := channel_of_entry? he
    have hentries := forceEntry_of_unforced (s := s.switched p c (s.overtakenBy c true)) he hforced
    refine ⟨_, hexec, plannerOnly_switched (o := s.overtakenBy c true) hframe, ?_, ?_⟩
    · refine hworks.othersKept (s := s.switched p c (s.overtakenBy c true)) fun d hd => ?_
      rw [hentries]
      subst hchannel
      exact aside_setEntries_force (e := { e with forced := true }) (by simpa using hd) _
    · subst hchannel
      refine hworks.forcedEntry (e := { e with forced := true }) ?_ ?_
      · rw [hentries]
        exact ahead_placeEntry _ rfl fun x hx => by simpa using (List.mem_filter.1 hx).2
      · rw [hentries]
        exact .inl hst
  · have htaken := switchTaken_heard_of_refused (p := p) (flags.toNat = 1)
      (.inr (.inr (by rcases hst with h | h | h | ⟨h, -⟩ <;> rw [h] <;> nofun)))
    have hown := switchOnChannel_of_used (s := s.switched p c s.overtaken) (forced := flags.toNat = 1) hactive hd hst
    rw [← htaken] at hown
    rw [execSwitchOn_plain hs hflags hlen (.inl rfl) hown, htaken]
    rfl
  · have htaken := switchTaken_heard_of_refused (p := p) (flags.toNat = 1) (.inr (.inr (by rw [hst.1]; nofun)))
    have hown := switchOnChannel_of_rundown (s := s.switched p c s.overtaken) (forced := flags.toNat = 1) hactive hd hst.1 hst.2
    rw [← htaken] at hown
    rw [execSwitchOn_plain hs hflags hlen (.inl rfl) hown, htaken]
    rfl
  · have hnone : (s.crec c).active = false ∨ s.disc.device ≠ .run ∨ (s.chan c).state ≠ .waiting := by
      rcases h with h | h | h | h | h
      · exact .inl h
      · exact .inr (.inl (by rw [h]; nofun))
      all_goals exact .inr (.inr (by rw [h]; nofun))
    have htaken := switchTaken_heard_of_refused (p := p) (flags.toNat = 1) hnone
    have hown : switchOnChannel (s.switched p c s.overtaken) c (flags.toNat = 1) = .plain (s.switched p c s.overtaken) .notAllowed := by
      rcases h with h | h | h
      · exact switchOnChannel_of_denied (.inl h)
      · exact switchOnChannel_of_denied (.inr h)
      · exact switchOnChannel_of_refused h
    rw [← htaken] at hown
    rw [execSwitchOn_plain hs hflags hlen (.inr rfl) hown, htaken]
    rfl

end Sys2Proof.Machine
end

section
/-!
PROOF. The channels that a request or a timer turns off (R131, R133), and SWITCH OFF in every state.
-/

namespace Sys2Proof.Machine

section
variable {s t u : State} {p : Peer} {c d : Chan}

/-! ### A channel that is cut, and one that is left alone -/

theorem cutTo_chan_self (st : ChState) (r : Reason) :
    (s.cutTo c st r).chan c = { (s.chan c).cut with state := st, reason := r } := by
  rw [State.cutTo_chan, Function.update_self]

theorem cutTo_holder (st : ChState) (r : Reason) : (s.cutTo c st r).slot.holder ≠ some c := by
  rw [State.cutTo_slot]
  show (if s.slot.holder = some c then none else s.slot.holder) ≠ some c
  split
  · nofun
  · assumption

theorem cutTo_not_waiting (st : ChState) (r : Reason) : c ∉ (s.cutTo c st r).slot.waiting := by
  rw [State.cutTo_slot]
  exact fun h => by simpa using (List.mem_filter.1 h).2

theorem cutTo_entry? (st : ChState) (r : Reason) : (s.cutTo c st r).entry? d = s.entry? d := by
  unfold State.entry?
  rw [State.cutTo_standby]

theorem unlisted_of (hentry : s.entry? c = none) (hwait : c ∉ s.slot.waiting) : s.Unlisted c :=
  ⟨hentry, by unfold State.waitsForSlot; rw [List.contains_eq_mem, decide_eq_false_iff_not]; exact hwait⟩

theorem Channel.leftAlone_of_rundown {ch : Channel} (h : ch.state = .rundown) (r : Nat) : ch.leftAlone r = true := by
  unfold Channel.leftAlone
  rw [h]

/-- R131: channel `c` after an off request that cut it: OFF, out of the list and the slot. -/
structure State.TurnedOff (s t : State) (c : Chan) (r : Reason) : Prop where
  chan : t.chan c = { (s.chan c).cut with state := .off, reason := r }
  unlisted : t.Unlisted c
  holder : t.slot.holder ≠ some c

theorem turnedOff_cutTo (h : s.entry? c = none) (r : Reason) : s.TurnedOff (s.cutTo c .off r) c r :=
  ⟨cutTo_chan_self _ _, unlisted_of ((cutTo_entry? _ _).trans h) (cutTo_not_waiting _ _), cutTo_holder _ _⟩

theorem turnedOff_cutTo_removeEntry (r : Reason) : s.TurnedOff ((s.cutTo c .off r).removeEntry c) c r := by
  refine ⟨?_, unlisted_of (entry?_removeEntry_self c) ?_, ?_⟩
  · rw [State.removeEntry_chan]
    exact cutTo_chan_self _ _
  · rw [State.removeEntry_slot]
    exact cutTo_not_waiting _ _
  · rw [State.removeEntry_slot]
    exact cutTo_holder _ _

theorem State.TurnedOff.aside {r : Reason} (h : s.TurnedOff t c r) (k : t.Aside u c) : s.TurnedOff u c r :=
  ⟨k.chan.trans h.chan, k.unlisted h.unlisted, k.holder h.holder⟩

theorem State.TurnedOff.state {r : Reason} (h : s.TurnedOff t c r) : (t.chan c).state = .off := by rw [h.chan]

/-- R72, R78, R81, R88: all that follows leaves a channel that is OFF. -/
theorem State.TurnedOff.works {r : Reason} (h : s.TurnedOff t c r) (k : t.Works u) : s.TurnedOff u c r :=
  h.aside (k.aside h.unlisted (Channel.leftAlone_of_off (.inl h.state) _))

theorem State.TurnedOff.out {r : Reason} (h : s.TurnedOff t c r) : t.out c = false := by
  unfold State.out Channel.closed
  rw [h.state]

/-- An operation on one channel alone, to a state that all that follows leaves. -/
theorem chan_of_setChan {ch : Channel} (hu : s.Unlisted c) (hleft : ch.leftAlone (s.rank c) = true)
    (h : (s.setChan c ch).Works t) : t.chan c = ch := by
  have hself := State.chan_setChan_self s c ch
  exact (h.aside hu (by rw [hself]; exact hleft)).chan.trans hself

/-! ### SWITCH OFF by the channel's state (R133) -/

theorem switchOff_of_rundown (hst : (s.chan c).state = .on) (h : (s.crec c).rundownTimeout ≠ 0) :
    s.switchOff c = s.setChan c
      { s.chan c with
        state := .rundown, reason := .panel, intent := .off, doneStreak := 0, goodRun := none
        rundownTimer := some ⟨(s.crec c).rundownTimeout * 1000, (s.crec c).rundownTimeout * 1000⟩ } := by
  unfold State.switchOff
  rw [hst]
  exact if_pos (by simpa [ChannelRec.rundownConfigured] using h)

/-- R133: a channel without a rundown is cut at once. -/
theorem turnedOff_switchOff (hst : ((s.chan c).state = .on ∧ (s.crec c).rundownTimeout = 0) ∨ (s.chan c).state = .starting
    ∨ (s.chan c).state = .throttled ∨ (s.chan c).state = .waiting) (h : (s.chan c).state ≠ .waiting → s.entry? c = none) :
    s.TurnedOff (s.switchOff c) c .panel := by
  unfold State.switchOff
  rcases hst with ⟨hst, hzero⟩ | hst | hst | hst <;> rw [hst]
  · dsimp only
    rw [if_neg (by simp [ChannelRec.rundownConfigured, hzero])]
    exact turnedOff_cutTo (h (by rw [hst]; nofun)) .panel
  · exact turnedOff_cutTo (h (by rw [hst]; nofun)) .panel
  · exact turnedOff_cutTo (h (by rw [hst]; nofun)) .panel
  · exact turnedOff_cutTo_removeEntry .panel

theorem switchOff_of_running (hst : (s.chan c).state = .rundown) :
    s.switchOff c = s.setChan c { s.chan c with intent := .off, reason := .panel } := by
  unfold State.switchOff
  rw [hst]

theorem switchOff_of_tripped (hst : (s.chan c).state = .tripped) :
    s.switchOff c = s.setChan c { s.chan c with state := .off, reason := .panel, retryTimer := none } := by
  unfold State.switchOff
  rw [hst]

theorem switchOff_of_none (hst : (s.chan c).state = .off ∨ (s.chan c).state = .locked ∨ (s.chan c).state = .checking) :
    s.switchOff c = s := by
  unfold State.switchOff
  rcases hst with hst | hst | hst <;> rw [hst]

theorem aside_switchOff (h : d ≠ c) : s.Aside (s.switchOff c) d := by
  unfold State.switchOff
  split
  · exact (aside_cutTo h _ _).trans (aside_removeEntry h)
  · exact aside_cutTo h _ _
  · split
    · exact aside_setChan h _
    · exact aside_cutTo h _ _
  · exact aside_cutTo h _ _
  · exact aside_setChan h _
  · exact aside_setChan h _
  all_goals exact .refl s d

theorem summary_congr (h : s.PlannerOnly t) (hring : t.ring = s.ring) : t.summary = s.summary := by
  unfold State.summary
  rw [h.level, h.disc, hring]

end

/-- Settles O28. -/
theorem switchOffActsByTheState : Obligations.SwitchOffActsByTheState := by
  intro s p c flags extra hs hflags hlen
  have hframe := plannerOnly_switchOff (s.switched p c s.overtaken) c
  have hexec := execSwitchOff_of_own (p := p) (c := c) hs hflags hlen 
    (summary_congr (s := s.switched p c s.overtaken) hframe (switchOff_ring c))
  have hworks := works_finish (s := (s.switched p c s.overtaken).switchOff c) (s.switched p c s.overtaken) false
  have hkept := plannerOnly_switched (o := s.overtaken) (hframe.trans hworks.plannerOnly)
  have hothers : s.OthersKept ((s.switched p c s.overtaken).finish ((s.switched p c s.overtaken).switchOff c) false) [c] :=
    hworks.othersKept (s := s.switched p c s.overtaken) fun d hd => aside_switchOff (by simpa using hd)
  refine ⟨fun hst htime hu => ⟨_, hexec, hkept, hothers, ?_⟩, fun hst hentry => ⟨_, hexec, hkept, hothers, ?_⟩,
    fun hst hu => ⟨_, hexec, hkept, hothers, ?_⟩, fun hst hu => ⟨_, hexec, hkept, hothers, ?_⟩, fun hst hquiet => ?_⟩
  · have hown := switchOff_of_rundown (s := s.switched p c s.overtaken) hst htime
    rw [hown] at hworks ⊢
    exact chan_of_setChan (s := s.switched p c s.overtaken) hu rfl hworks
  · have hoff := (turnedOff_switchOff (s := s.switched p c s.overtaken) hst hentry).works hworks
    refine ⟨hoff.state, ?_, hoff.out, hoff.holder, hoff.unlisted, ?_, ?_⟩
    · rw [hoff.chan]
    · rw [hoff.chan]
      rfl
    · rw [hoff.chan]
      rfl
  · have hown := switchOff_of_running (s := s.switched p c s.overtaken) hst
    rw [hown] at hworks ⊢
    exact chan_of_setChan (s := s.switched p c s.overtaken) hu (Channel.leftAlone_of_rundown hst _) hworks
  · have hown := switchOff_of_tripped (s := s.switched p c s.overtaken) hst
    rw [hown] at hworks ⊢
    exact chan_of_setChan (s := s.switched p c s.overtaken) hu rfl hworks
  · have hown := switchOff_of_none (s := s.switched p c s.overtaken) hst
    rw [hown, finish_self (s := s.switched p c s.overtaken) hquiet] at hexec
    rw [hexec]
    rfl

end Sys2Proof.Machine
end

section
/-!
PROOF. Level changes (R34 to R38) and the Sag Monitor's events and timers (R41 to R47, R78, R79, R103).
-/

namespace Sys2Proof.Machine

section
variable {s t u : State} {c d : Chan}

/-! ### Level changes (R36, R71) -/

/-- R36, R71: a level change to `new` with its notice, the restore-quiet timer fresh, and all that follows. -/
structure State.ChangedTo (s : State) (new : Level) (cause : Nat) (t : State) : Prop where
  level : t.level = { s.level with current := new, pending := .none, count := 0 }
  pushed : s.Pushed [s.notice .levelChange (some new.val) s.level.current.val cause] t
  quiet : t.QuietFresh
  frame : State.PlannerOnly { s with level := t.level } t
  others : s.OthersKept t []

theorem changedTo_changeLevel (new : Level) (cause : Cause) : s.ChangedTo new cause.code (s.changeLevel new cause) := by
  have hworks := works_changeLevel (s := s) new cause
  have hquiet : (s.releveled new cause).QuietFresh := rfl
  refine ⟨s.changeLevel_level new cause, State.Pushes.pushed (u := s.releveled new cause) rfl hworks.pushes, hquiet.works hworks,
    plannerOnly_changeLevel s new cause, ?_⟩
  exact hworks.othersKept_nil []

theorem deepeningCause_code (b : Bool) : (deepeningCause b).code = if b = true then 1 else 2 := by cases b <;> rfl

theorem exec_reserveUpdate {v : ReserveUpdate} {rest : List ReserveUpdate} (h : s.mail.level = v :: rest) :
    exec .reserveUpdate s = .next (State.levelTakes { s with mail := { s.mail with level := rest } } v) := by
  show Host.Outcome.next s.levelTakesNext = _
  unfold State.levelTakesNext
  rw [h]

/-- R31: the update read, its demanded depth stored. -/
def State.depthNoted (s : State) (v : ReserveUpdate) (rest : List ReserveUpdate) : State :=
  State.storeDeep { s with mail := { s.mail with level := rest } } v

theorem exec_deepeningDwellComplete {v : ReserveUpdate} {rest : List ReserveUpdate} (h : s.mail.level = v :: rest)
    (hfirst : s.level.firstTaken = true) (hd : s.disc.device = .run) (hdeep : s.level.current < s.plan.levels.deepOf v)
    (hcount : s.plan.levels.settings.enterDwell * 10 ≤ if s.level.pending = .deepen then s.level.count + 1 else 0) :
    exec .deepeningDwellComplete s = exec .reserveUpdate s := by
  have hdone : s.completesDeepening = true := by
    unfold State.completesDeepening
    rw [h]
    simp only [hfirst, hd, hdeep, hcount, decide_true, Bool.and_self]
  exact congrArg Host.Outcome.next (if_pos hdone)

theorem exec_easingDwellComplete {v : ReserveUpdate} {rest : List ReserveUpdate} (h : s.mail.level = v :: rest)
    (hfirst : s.level.firstTaken = true) (hd : s.disc.device = .run) (hdeep : s.plan.levels.deepOf v ≤ s.level.current)
    (hlevel : s.level.current ≠ 0) (heases : s.plan.levels.eases v s.level.current = true)
    (hcount : s.plan.levels.settings.leaveDwell * 10 ≤ if s.level.pending = .ease then s.level.count + 1 else 0) :
    exec .easingDwellComplete s = exec .reserveUpdate s := by
  have hdone : s.completesEasing = true := by
    unfold State.completesEasing
    rw [h]
    simp only [hfirst, hd, hdeep, heases, hcount, hlevel, ne_eq, not_false_eq_true, decide_true, Bool.and_self]
  exact congrArg Host.Outcome.next (if_pos hdone)

/-- R33: an update in RUN after the first. -/
theorem levelTakes_of_run {v : ReserveUpdate} (hfirst : s.level.firstTaken = true) (hd : s.disc.device = .run) :
    s.levelTakes v = (s.storeDeep v).runDwell v := by
  unfold State.levelTakes
  dsimp only
  rw [if_neg (by rw [hfirst]; nofun), if_pos hd]

/-- R38: the first update after POWER_ON has been taken. -/
def State.setFirstTaken (s : State) : State := { s with level := { s.level with firstTaken := true } }

/-- R38: the first update sets the level directly, but for ISOLATED. -/
theorem levelTakes_of_first {v : ReserveUpdate} {rest : List ReserveUpdate} (hfirst : s.level.firstTaken = false)
    (hd : s.disc.device ≠ .isolated) : State.levelTakes { s with mail := { s.mail with level := rest } } v =
      (s.depthNoted v rest).setFirstTaken.setLevelDirect (s.plan.levels.deepOf v)
        (deepeningCause (s.plan.levels.deepByReserve v)) := by
  unfold State.levelTakes
  dsimp only
  rw [if_pos (by rw [hfirst]; rfl), if_neg hd]
  rfl

theorem levelTakes_of_isolated {v : ReserveUpdate} {rest : List ReserveUpdate} (hfirst : s.level.firstTaken = false)
    (hd : s.disc.device = .isolated) : State.levelTakes { s with mail := { s.mail with level := rest } } v =
      (s.depthNoted v rest).setFirstTaken := by
  unfold State.levelTakes
  dsimp only
  rw [if_pos (by rw [hfirst]; rfl), if_pos hd]
  rfl

/-- R34: the update that completes a deepening dwell. -/
theorem runDwell_of_deepened {v : ReserveUpdate} (hdeep : s.level.current < s.plan.levels.deepOf v)
    (hcount : s.plan.levels.settings.enterDwell * 10 ≤ if s.level.pending = .deepen then s.level.count + 1 else 0) :
    s.runDwell v = s.changeLevel (s.plan.levels.deepOf v) (deepeningCause (s.plan.levels.deepByReserve v)) := by
  unfold State.runDwell
  dsimp only
  rw [if_pos hdeep]
  exact if_pos hcount

/-- R35: the update that completes an easing dwell. -/
theorem runDwell_of_eased {v : ReserveUpdate} (hdeep : s.plan.levels.deepOf v ≤ s.level.current)
    (hlevel : s.level.current ≠ 0) (heases : s.plan.levels.eases v s.level.current = true)
    (hcount : s.plan.levels.settings.leaveDwell * 10 ≤ if s.level.pending = .ease then s.level.count + 1 else 0) :
    s.runDwell v = s.changeLevel (shallower s.level.current) .ease := by
  unfold State.runDwell
  dsimp only
  rw [if_neg (not_lt.2 hdeep), if_pos (by rw [heases, Bool.and_true, decide_eq_true_eq]; exact hlevel)]
  exact if_pos hcount

end

/-- Settles O47: both completions are one level change. -/
theorem completedDwellsChangeTheLevel : Obligations.CompletedDwellsChangeTheLevel := by
  intro s u rest h hfirst hd
  have hexec : exec .reserveUpdate s = .next ((s.depthNoted u rest).runDwell u) :=
    (exec_reserveUpdate h).trans (congrArg Host.Outcome.next
      (levelTakes_of_run (s := { s with mail := { s.mail with level := rest } }) hfirst hd))
  refine ⟨fun hdeep hcount => ?_, fun hdeep hlevel heases hpending hcount => ?_⟩
  · rw [runDwell_of_deepened (s := s.depthNoted u rest) hdeep hcount] at hexec
    have hchanged := changedTo_changeLevel (s := s.depthNoted u rest)
      (s.plan.levels.deepOf u) (deepeningCause (s.plan.levels.deepByReserve u))
    rw [deepeningCause_code] at hchanged
    have hquiet := hchanged.quiet
    unfold State.QuietFresh at hquiet
    rw [hchanged.frame.plan] at hquiet
    exact ⟨_, (exec_deepeningDwellComplete h hfirst hd hdeep hcount).trans hexec, hexec, hchanged.level, hchanged.pushed,
      hquiet, hchanged.frame, hchanged.others⟩
  · have hcount' : s.plan.levels.settings.leaveDwell * 10 ≤ if s.level.pending = .ease then s.level.count + 1 else 0 := by
      rw [if_pos hpending]
      exact hcount
    rw [runDwell_of_eased (s := s.depthNoted u rest) hdeep hlevel heases hcount']
      at hexec
    have hchanged := changedTo_changeLevel (s := s.depthNoted u rest)
      (shallower (s.depthNoted u rest).level.current) .ease
    have hquiet := hchanged.quiet
    unfold State.QuietFresh at hquiet
    rw [hchanged.frame.plan] at hquiet
    refine ⟨_, (exec_easingDwellComplete h hfirst hd hdeep hlevel heases hcount').trans hexec, hexec, ?_, ?_, hchanged.pushed,
      hquiet, hchanged.frame, hchanged.others⟩
    · rw [hchanged.level]
      rfl
    · rw [hchanged.level]
      have hpos : s.level.current.val ≠ 0 := fun k => hlevel (Fin.ext k)
      show s.level.current.val - 1 + 1 = s.level.current.val
      omega

/-- Settles O48. -/
theorem firstUpdateSetsTheLevel : Obligations.FirstUpdateSetsTheLevel := by
  intro s u rest h hfirst
  have hexec := exec_reserveUpdate h
  refine ⟨fun hd hdeep => ?_, fun hd hdeep => ?_, fun hother => ?_⟩
  · have hdevice : (s.depthNoted u rest).setFirstTaken.disc.device ≠ .run := by
      show s.disc.device ≠ .run
      rw [hd]
      nofun
    have hset := (setLevelDirect_outside hdevice (s.plan.levels.deepOf u)
      (deepeningCause (s.plan.levels.deepByReserve u))).trans (if_neg hdeep)
    rw [hexec, levelTakes_of_first (rest := rest) hfirst (by rw [hd]; nofun), hset, ← deepeningCause_code]
    rfl
  · have hchanged := changedTo_changeLevel (s := (s.depthNoted u rest).setFirstTaken)
      (s.plan.levels.deepOf u) (deepeningCause (s.plan.levels.deepByReserve u))
    rw [deepeningCause_code] at hchanged
    refine ⟨_, hexec.trans (congrArg Host.Outcome.next ?_), hchanged.level, hchanged.pushed, hchanged.frame, hchanged.others⟩
    rw [levelTakes_of_first (rest := rest) hfirst (by rw [hd]; nofun)]
    exact if_neg hdeep
  · rw [hexec]
    by_cases hd : s.disc.device = .isolated
    · exact congrArg Host.Outcome.next (levelTakes_of_isolated (rest := rest) hfirst hd)
    · rw [levelTakes_of_first (rest := rest) hfirst hd]
      obtain ⟨-, hdeep⟩ := hother.resolve_right hd
      exact congrArg Host.Outcome.next (if_pos hdeep)

end Sys2Proof.Machine
end

section
/-!
PROOF. The Sag Monitor's events and timers (R41 to R47, R78, R79, R103).
-/

namespace Sys2Proof.Machine

section
variable {s t u : State} {c d : Chan}

/-! ### The comparator (R41, R42, R45) -/

theorem exec_sagComparatorSample {vb : Nat} {rest : List Nat} (h : s.mail.sag = vb :: rest) :
    exec .sagComparatorSample s = .next ((s.setSagMail rest).comparatorTakes vb) := by
  show Host.Outcome.next _ = _
  rw [h]
  rfl

theorem comparatorTakes_of_between {vb : Nat} (h : s.disc.device = .isolated ∨ (s.sag.high = true ∧ s.plan.battery.vSag ≤ vb)
    ∨ (s.sag.high = false ∧ vb ≤ s.plan.battery.vSag + s.plan.battery.hs)) : s.comparatorTakes vb = s := by
  unfold State.comparatorTakes
  rcases h with hd | ⟨hhigh, hvb⟩ | ⟨hlow, hvb⟩
  · rw [if_pos hd]
  · have hfalls : ¬(s.sag.high && vb < s.plan.battery.vSag) = true := by simp [not_lt.2 hvb]
    have hrises : ¬(!s.sag.high && s.plan.battery.vSag + s.plan.battery.hs < vb) = true := by simp [hhigh]
    rw [if_neg hfalls, if_neg hrises, ite_self]
  · have hfalls : ¬(s.sag.high && vb < s.plan.battery.vSag) = true := by simp [hlow]
    have hrises : ¬(!s.sag.high && s.plan.battery.vSag + s.plan.battery.hs < vb) = true := by simp [not_lt.2 hvb]
    rw [if_neg hfalls, if_neg hrises, ite_self]

theorem fallen_of_clear (h : s.sag.state = .clear) : s.fallen = s.setSag { s.sag with
    high := false, state := .sagging, tolerance := some ⟨s.plan.battery.sagTolerance, s.plan.battery.sagTolerance⟩ } := by
  unfold State.fallen State.fallingEvent
  rw [show (s.setSag { s.sag with high := false }).sag.state = .clear from h]
  rfl

theorem fallen_of_recovering (h : s.sag.state = .recovering) : s.fallen = s.setSag { s.sag with
    high := false, state := .sagging, recovery := none
    tolerance := some ⟨s.plan.battery.sagTolerance, s.plan.battery.sagTolerance⟩ } := by
  unfold State.fallen State.fallingEvent
  rw [show (s.setSag { s.sag with high := false }).sag.state = .recovering from h]
  rfl

/-- R45: the Sag Monitor after a rising event. -/
theorem risen_sag_eq (vb : Nat) (h : s.sag.state = .sagging ∨ s.sag.state = .sagShedding) : (s.risen vb).sag =
    if s.sag.state = .sagging ∧ s.sag.releasePending = false then
      { s.sag with high := true, state := .clear, tolerance := none }
    else
      { s.sag with
        high := true, state := .recovering, tolerance := none
        recovery := some ⟨s.plan.battery.sagRecovery * 1000, s.plan.battery.sagRecovery * 1000⟩ } := by
  unfold State.risen State.risingEvent
  rcases h with h | h
  · rw [show (s.setSag { s.sag with high := true }).sag.state = .sagging from h]
    dsimp only
    by_cases hpending : s.sag.releasePending = true
    · rw [if_pos (show (s.setSag { s.sag with high := true }).sag.releasePending = true from hpending),
        if_neg (by rw [hpending]; nofun)]
      rfl
    · rw [if_neg (show ¬(s.setSag { s.sag with high := true }).sag.releasePending = true from hpending),
        if_pos ⟨h, Bool.eq_false_iff.2 hpending⟩]
      rfl
  · rw [show (s.setSag { s.sag with high := true }).sag.state = .sagShedding from h]
    dsimp only
    rw [if_neg fun k => by rw [h] at k; cases k.1]
    rfl

theorem risen_ring_of_sagShedding (vb : Nat) (h : s.sag.state = .sagShedding) :
    (s.risen vb).ring = s.ring.push (s.notice .sagClear none s.sag.sheds vb) := by
  unfold State.risen State.risingEvent
  rw [show (s.setSag { s.sag with high := true }).sag.state = .sagShedding from h]
  rfl

end

/-- Settles O49. -/
theorem sagComparatorRaisesItsEvents : Obligations.SagComparatorRaisesItsEvents := by
  intro s vb rest h
  have hexec := exec_sagComparatorSample h
  refine ⟨fun hd hhigh hvb hst => ?_, fun hd hhigh hvb hst => ?_, fun hnone => ?_, fun hd hlow hvb hst => ?_⟩
  · rw [hexec, comparatorTakes_of_falls (s := s.setSagMail rest) vb hd hhigh hvb, fallen_of_clear (s := s.setSagMail rest) hst]
    rfl
  · rw [hexec, comparatorTakes_of_falls (s := s.setSagMail rest) vb hd hhigh hvb,
      fallen_of_recovering (s := s.setSagMail rest) hst]
    rfl
  · rw [hexec, comparatorTakes_of_between (s := s.setSagMail rest) hnone]
    rfl
  · rw [comparatorTakes_of_rises (s := s.setSagMail rest) vb hd hlow hvb] at hexec
    have hworks := works_finish (s := (s.setSagMail rest).risen vb) (s.setSagMail rest)
      ((s.setSagMail rest).sag.state ≠ .clear && ((s.setSagMail rest).risen vb).sag.state = .clear)
    have hframe := hworks.plannerOnly
    have hsag := risen_sag_eq (s := s.setSagMail rest) vb hst
    have hring := fun k => risen_ring_of_sagShedding (s := s.setSagMail rest) vb k
    have hrisen := risen_eq (s := s.setSagMail rest) vb
    generalize State.finish _ _ _ = t at hexec hworks hframe
    generalize (s.setSagMail rest).risen vb = r at hworks hframe hsag hring hrisen
    refine ⟨t, hexec, hframe.sag.trans hsag, fun k => State.Pushes.pushed (u := r) (hring k) hworks.pushes, ?_, ?_⟩
    · rw [hrisen] at hframe
      exact ⟨hframe.pending, hframe.est, hframe.mail, hframe.level, rfl, hframe.idle, hframe.aux, hframe.disc, hframe.link,
        hframe.plan, hframe.store, hframe.sys, hframe.overtaken⟩
    · refine hworks.othersKept fun d _ => ?_
      rw [hrisen]
      exact ⟨rfl, rfl, id, id, rfl⟩

/-! ### The tolerance timer and the recovery dwell (R43, R44, R46) -/

section
variable {s t u : State} {c d : Chan}

/-- R78: a sag shed of a channel that is in no list leaves it in RUNDOWN, or waiting with a held entry. -/
theorem sagShedStep_of_rundown (h : (s.chan c).state = .on ∧ (s.crec c).rundownTimeout ≠ 0) :
    (s.shedChannel c .sag .sag .waitSag).chan c = { s.chan c with
      state := .rundown, reason := .sag, intent := .waitSag, doneStreak := 0, goodRun := none
      rundownTimer := Timer.s (s.crec c).rundownTimeout } := by
  unfold State.shedChannel
  rw [if_pos (by simpa [ChannelRec.rundownConfigured] using h)]
  exact State.chan_setChan_self s c _

theorem unlisted_shedChannel_of_rundown (hu : s.Unlisted c) (h : (s.chan c).state = .on ∧ (s.crec c).rundownTimeout ≠ 0)
    (o : Origin) (r : Reason) (i : Intent) : (s.shedChannel c o r i).Unlisted c := by
  unfold State.shedChannel
  rw [if_pos (by simpa [ChannelRec.rundownConfigured] using h)]
  exact hu

/-- R131: a shed that cuts its channel. -/
theorem queued_shedChannel (hu : s.Unlisted c) (h : ¬((s.chan c).state = .on ∧ (s.crec c).rundownTimeout ≠ 0))
    (o : Origin) (r : Reason) (i : Intent) : (s.shedChannel c o r i).Queued c
      { (s.chan c).cut with state := .waiting, reason := r }
      ⟨c, o, false, o = .sag && s.sag.releasePending, s.sys.uptime⟩ := by
  unfold State.shedChannel
  rw [if_neg (by simpa [ChannelRec.rundownConfigured] using h)]
  have hframe := plannerOnly_cutTo s c .waiting r
  have hentry := entry?_insertEntry_self (s := s.cutTo c .waiting r) ((cutTo_entry? _ _).trans hu.1) o false
  rw [hframe.sag, hframe.sys] at hentry
  exact ⟨cutTo_chan_self .waiting r, rfl, hentry, cutTo_not_waiting .waiting r⟩

/-- R79, R80: all that follows a sag shed finds the restore-quiet timer fresh. -/
theorem quietFresh_sagShedStep (c : Chan) : (s.sagShedStep c).countShed.QuietFresh := by
  unfold State.sagShedStep
  generalize (s.shedChannel c .sag .sag .waitSag).push _ _ _ _ = shed
  rfl

theorem aside_sagShedStep (c d : Chan) : (s.shedChannel c .sag .sag .waitSag).Aside (s.sagShedStep c).countShed d := by
  have hcount : (s.sagShedStep c).Aside (s.sagShedStep c).countShed d := ⟨rfl, rfl, id, id, rfl⟩
  exact ((aside_push _ _ _ _ d).trans (aside_startQuiet d)).trans hcount

/-- R43, R78, R79: an expiry of the tolerance timer that finds a candidate, from the state that asks for the shed. -/
theorem State.Works.sagShed (hu : s.Unlisted c) (h : (s.sagShedStep c).countShed.Works t) :
    (t.chan c).reason = .sag
      ∧ (if (s.chan c).state = .on ∧ (s.crec c).rundownTimeout ≠ 0 then
          (t.chan c).state = .rundown ∧ (t.chan c).intent = .waitSag
        else (t.chan c).state = .waiting ∧ t.entry? c = some ⟨c, .sag, false, s.sag.releasePending, s.sys.uptime⟩
          ∧ t.out c = false) := by
  split
  · rename_i hrundown
    have hchan := sagShedStep_of_rundown hrundown
    have hstep := aside_sagShedStep (s := s) c c
    have hlisted := hstep.unlisted (unlisted_shedChannel_of_rundown hu hrundown .sag .sag .waitSag)
    have hstate : ((s.sagShedStep c).countShed.chan c).state = .rundown := by rw [hstep.chan, hchan]
    rw [(h.aside hlisted (Channel.leftAlone_of_rundown hstate _)).chan, hstep.chan, hchan]
    exact ⟨rfl, rfl, rfl⟩
  · rename_i hcut
    have hqueued := (aside_sagShedStep (s := s) c c).queued (queued_shedChannel hu hcut .sag .sag .waitSag)
    have hstill := (quietFresh_sagShedStep c).queued hqueued h
    refine ⟨by rw [hstill.chan], by rw [hstill.chan], ?_, ?_⟩
    · rw [hstill.entry]
      rfl
    · unfold State.out Channel.closed
      rw [hstill.chan]

theorem plannerOnly_countShed_sagShedStep (c : Chan) :
    State.PlannerOnly { s with sag := { s.sag with sheds := s.sag.sheds + 1 } } (s.sagShedStep c).countShed := by
  have hshed : s.PlannerOnly (s.shedChannel c .sag .sag .waitSag) := plannerOnly_shedChannel s c _ _ _
  unfold State.sagShedStep
  generalize s.shedChannel c .sag .sag .waitSag = shed at hshed ⊢
  exact ⟨hshed.pending, hshed.est, hshed.mail, hshed.level, congrArg (fun g : SagMon => { g with sheds := g.sheds + 1 }) hshed.sag,
    hshed.idle, hshed.aux, hshed.disc, hshed.link, hshed.plan, hshed.store, hshed.sys, hshed.overtaken⟩

/-- R43, R44, R78, R79: what asking for a sag shed makes of `s` when channel `c` is the candidate. -/
structure State.SagShed (s : State) (c : Chan) (t : State) : Prop where
  sag : t.sag = { s.sag with sheds := s.sag.sheds + 1 }
  reason : (t.chan c).reason = .sag
  chan : if (s.chan c).state = .on ∧ (s.crec c).rundownTimeout ≠ 0 then
      (t.chan c).state = .rundown ∧ (t.chan c).intent = .waitSag
    else (t.chan c).state = .waiting ∧ t.entry? c = some ⟨c, .sag, false, s.sag.releasePending, s.sys.uptime⟩ ∧ t.out c = false
  quiet : t.QuietFresh
  frame : State.PlannerOnly { s with sag := t.sag } t
  others : s.OthersKept t [c]
  pushes : s.Pushes t

theorem sagShed_askSagShed (hd : s.disc.device = .run) (hc : s.sagCandidate = some c) (hu : s.Unlisted c) :
    s.SagShed c s.askSagShed := by
  rw [askSagShed_of_candidate hd hc]
  have hworks : (s.sagShedStep c).countShed.Works ((s.sagShedStep c).countShed.settle settleRounds true) := works_settle _ _
  have hstep : State.PlannerOnly { s with sag := { s.sag with sheds := s.sag.sheds + 1 } } (s.sagShedStep c).countShed :=
    plannerOnly_countShed_sagShedStep c
  have hring : s.Pushes (s.sagShedStep c).countShed := ⟨[_], sagShedStep_ring c⟩
  obtain ⟨hreason, hchan⟩ := hworks.sagShed hu
  have hframe := hstep.trans hworks.plannerOnly
  refine ⟨hframe.sag, hreason, hchan, (quietFresh_sagShedStep c).works hworks, ?_, hworks.othersKept fun d hd => ?_,
    hring.trans hworks.pushes⟩
  · rw [hframe.sag]
    exact hframe
  · have hne : d ≠ c := by simpa using hd
    exact State.Aside.trans (t := s.shedChannel c .sag .sag .waitSag) (aside_shedChannel hne .sag .sag .waitSag)
      (aside_sagShedStep c d)

theorem exec_toleranceTimerExpiry (h : s.sag.tolerance.isSome = true) :
    exec .toleranceTimerExpiry s = .next s.toleranceExpiry := congrArg Host.Outcome.next (if_pos h)

theorem toleranceExpiry_none (hnone : s.disc.device ≠ .run ∨ s.sagCandidate = none) :
    s.disc.device = .run → s.sagCandidate = none := fun hd => hnone.resolve_left fun k => k hd

/-- R103: no entry is held. -/
def State.NoneHeld (s : State) : Prop := ∀ e ∈ s.standby.entries, e.held = false

theorem noneHeld_releaseHeld : s.releaseHeld.NoneHeld := by
  unfold State.releaseHeld
  split
  · intro e he
    obtain ⟨x, -, rfl⟩ := List.mem_map.1 he
    rfl
  · rename_i hany
    intro e he
    rw [Bool.eq_false_iff]
    exact fun k => hany (List.any_eq_true.2 ⟨e, he, k⟩)

theorem State.NoneHeld.act (h : s.NoneHeld) (k : s.Act t) : t.NoneHeld := by
  have hkept : t.standby = s.standby → t.NoneHeld := fun hst e he => h e (hst ▸ he)
  cases k with
  | sheds d =>
    rcases shedStep_standby (s := s) d with hst | ⟨x, -, hheld, hplaced⟩
    · exact hkept hst
    · intro e he
      rw [hplaced] at he
      rcases List.mem_cons.1 ((placeEntry_perm s.rank x _).mem_iff.1 he) with rfl | hold
      · exact hheld
      · exact h e hold
  | reports => exact h
  | timer x b => exact h
  | unthrottles d => exact hkept (unthrottle_standby d)
  | serves d => exact hkept (grantSlot_standby d)

theorem State.NoneHeld.works (h : s.NoneHeld) (k : s.Works t) : t.NoneHeld := by
  refine k.keeps (P := State.NoneHeld) (fun _ _ hs k => hs.act k) (fun m e n hm _ _ => ?_) h
  intro x hx
  refine hm x ?_
  change x ∈ (State.removeEntry _ e.channel).standby.entries at hx
  unfold State.removeEntry at hx
  split at hx
  · exact List.mem_of_mem_filter hx
  · exact hx

/-- R103: a channel without an entry is not touched by the release. -/
theorem aside_releaseHeld (h : s.entry? d = none) : s.Aside s.releaseHeld d := by
  unfold State.releaseHeld
  split
  · refine ⟨rfl, ?_, id, id, rfl⟩
    rw [h]
    unfold State.entry? at h ⊢
    rw [List.find?_eq_none] at h ⊢
    intro e he
    obtain ⟨x, hx, rfl⟩ := List.mem_map.1 he
    exact h x hx
  · exact .refl s d

/-- R46: the recovery dwell over. -/
def State.released (s : State) : State :=
  s.setSag { s.sag with state := .clear, recovery := none, releasePending := false }

theorem exec_recoveryTimerExpiry (h : s.sag.recovery.isSome = true) (hst : s.sag.state = .recovering) :
    exec .recoveryTimerExpiry s = .next (s.finish s.released.releaseHeld true) :=
  congrArg Host.Outcome.next (if_pos (by rw [h, hst]; rfl))

end

/-- Settles O50. -/
theorem sagTimersShedAndRelease : Obligations.SagTimersShedAndRelease := by
  refine ⟨fun s c htol hd hc hu hst => ?_, fun s htol hnone hst => ?_, fun s htol hnone hst => ?_, fun s hrec hst => ?_⟩
  · have hexec := exec_toleranceTimerExpiry htol
    rcases hst with hst | ⟨hst, hpending⟩
    · have hshed := sagShed_askSagShed (s := s.sagStarted) hd hc hu
      have hquiet := hshed.quiet
      unfold State.QuietFresh at hquiet
      rw [hshed.frame.plan] at hquiet
      rw [State.toleranceExpiry_of_sagging s hst] at hexec
      refine ⟨_, hexec, ?_, fun _ => State.Pushes.pushed (u := s.sagStarted) rfl hshed.pushes, hshed.reason, hshed.chan, hquiet,
        ⟨hshed.frame.pending, hshed.frame.est, hshed.frame.mail, hshed.frame.level, rfl, hshed.frame.idle, hshed.frame.aux,
          hshed.frame.disc, hshed.frame.link, hshed.frame.plan, hshed.frame.store, hshed.frame.sys, hshed.frame.overtaken⟩,
        hshed.others⟩
      rw [hshed.sag]
      simp [State.sagStarted, State.setSag, State.push, hst, State.toleranceTimer, Timer.ms]
    · have hshed := sagShed_askSagShed (s := s.setSag { s.sag with tolerance := s.toleranceTimer }) hd hc hu
      have hquiet := hshed.quiet
      unfold State.QuietFresh at hquiet
      rw [hshed.frame.plan] at hquiet
      rw [State.toleranceExpiry_of_sagShedding s hst] at hexec
      refine ⟨_, hexec, ?_, fun k => absurd (hst.symm.trans k) nofun, hshed.reason, ?_, hquiet, hshed.frame, hshed.others⟩
      · rw [hshed.sag]
        simp [State.setSag, hst, hpending, State.toleranceTimer, Timer.ms]
      · rw [← hpending]
        exact hshed.chan
  · rw [exec_toleranceTimerExpiry htol, State.toleranceExpiry_of_sagging s hst,
      askSagShed_of_none (s := s.sagStarted) (toleranceExpiry_none hnone)]
    rfl
  · rw [exec_toleranceTimerExpiry htol, State.toleranceExpiry_of_sagShedding s hst,
      askSagShed_of_none (s := s.setSag { s.sag with tolerance := s.toleranceTimer }) (toleranceExpiry_none hnone)]
    by_cases hreported : s.sag.noReliefReported = true
    · rw [if_pos (show (s.setSag { s.sag with tolerance := s.toleranceTimer }).sag.noReliefReported = true from hreported),
        if_pos hreported, ← hreported]
      rfl
    · rw [if_neg (show ¬(s.setSag { s.sag with tolerance := s.toleranceTimer }).sag.noReliefReported = true from hreported),
        if_neg hreported]
      rfl
  · have hworks := works_finish (s := s.released.releaseHeld) s true
    have hheld := (noneHeld_releaseHeld (s := s.released)).works hworks
    have hframe := (plannerOnly_releaseHeld s.released).trans hworks.plannerOnly
    refine ⟨_, exec_recoveryTimerExpiry hrec hst, hframe.sag, hheld, ?_, fun d _ hu hleft => ?_⟩
    · rw [hframe.sag]
      exact hframe
    · exact hworks.chan_of_leftAlone (s := s.released) (aside_releaseHeld (s := s.released) hu.1) hu hleft

end Sys2Proof.Machine
end

section
/-!
PROOF. The ends of the retry timer, the good-run timer and the check (R121, R136), and of a rundown (R124).
-/

namespace Sys2Proof.Machine

section
variable {s t u : State} {c d : Chan}

/-- R98: a channel that gets an entry while it is in no list. -/
theorem queued_insertEntry {ch : Channel} (hu : s.Unlisted c) (h : ch.state = .waiting) (o : Origin) :
    ((s.setChan c ch).insertEntry c o false).Queued c ch ⟨c, o, false, o = .sag && s.sag.releasePending, s.sys.uptime⟩ :=
  ⟨State.chan_setChan_self s c ch, h, entry?_insertEntry_self (s := s.setChan c ch) hu.1 o false, hu.not_mem_waiting⟩

theorem aside_queued (h : d ≠ c) (ch : Channel) (o : Origin) : s.Aside ((s.setChan c ch).insertEntry c o false) d :=
  (aside_setChan h ch).trans (aside_insertEntry h o false)

theorem plannerOnly_queued (ch : Channel) (o : Origin) : s.PlannerOnly ((s.setChan c ch).insertEntry c o false) :=
  (plannerOnly_setChan s c ch).trans (plannerOnly_insertEntry _ c o false)

end

/-- Settles O54. -/
theorem retriesGoodRunsAndChecksEnd : Obligations.RetriesGoodRunsAndChecksEnd := by
  intro s c
  refine ⟨fun hst htimer hu => ?_, fun hst htimer => ?_, fun r hst htimer => ?_⟩
  · have hq := queued_insertEntry (ch := { s.chan c with state := .waiting, retryTimer := none }) hu rfl .retry
    have haside := fun d (hd : d ∉ [c]) => aside_queued (s := s) (List.ne_of_not_mem_cons hd)
      { s.chan c with state := .waiting, retryTimer := none } .retry
    have hframe := plannerOnly_queued (s := s) (c := c) { s.chan c with state := .waiting, retryTimer := none } .retry
    have hexec : exec (.retryTimerExpiry c) s = .next (s.finish _ false) :=
      congrArg Host.Outcome.next (if_pos (by rw [hst, htimer]; rfl))
    generalize State.insertEntry _ c .retry false = t at hq haside hframe hexec
    have hworks := works_finish (s := t) s false
    obtain ⟨hwaits, hreason, hcount, htimer⟩ := hq.waitsOrStarts rfl hworks
    exact ⟨_, hexec, hwaits, hreason, hcount, htimer, hframe.trans hworks.plannerOnly, hworks.othersKept haside⟩
  · exact congrArg Host.Outcome.next (if_pos (by rw [hst, htimer]; rfl))
  · refine congrArg Host.Outcome.next ((if_pos (by rw [hst, htimer]; rfl)).trans ?_)
    cases r <;> rfl

end Sys2Proof.Machine
end

section
/-!
PROOF. Channel samples and trips (R114 to R120): the sample's own work, and what the re-evaluation that follows leaves.
-/

namespace Sys2Proof.Machine

section
variable {s t u : State} {c d : Chan}

/-! ### An event that leaves the loads, the list and the slot -/

/-- R67: the loads follow the accounted loads of the channels and which of them run down. -/
theorem loads_congr (hacc : ∀ d, t.accounted d = s.accounted d)
    (hdown : ∀ d, (t.chan d).state = .rundown ↔ (s.chan d).state = .rundown) : t.loads = s.loads := by
  unfold State.loads
  refine List.map_congr_left fun d _ => Prod.ext (hacc d) ?_
  show (if (t.chan d).state = .rundown then 0 else t.accounted d) = if (s.chan d).state = .rundown then 0 else s.accounted d
  rw [hacc d]
  simp only [hdown d]

/-- R68, R88: an event that changes neither the loads nor the list, and frees or empties nothing. -/
theorem finish_of_still (hloads : t.loads = s.loads) (hlist : t.standby = s.standby) (hslot : slotActs s t = false)
    (h : t.SlotQuiet) : s.finish t false = t := by
  have hcalls : callsPlanner s t = false := by
    unfold slotActs at hslot
    rw [Bool.or_eq_false_iff] at hslot
    unfold callsPlanner
    simp [hslot.1, hslot.2, hlist, hloads]
  unfold State.finish settleRounds State.settle
  dsimp only
  rw [serveSlot_of_quiet h, hcalls, if_neg (by simp)]

theorem slotActs_of_slot (h : t.slot = s.slot) : slotActs s t = false := by
  unfold slotActs freed emptiedFree
  rw [h]
  cases s.slot.holder <;> cases s.slot.waiting <;> simp

/-- R68, R88: nothing follows an event that leaves the loads, the list and the slot, unless the slot can be served. -/
theorem finish_of_kept (hloads : t.loads = s.loads) (hslot : t.slot = s.slot) (hlist : t.standby = s.standby)
    (h : t.SlotQuiet) : s.finish t false = t := finish_of_still hloads hlist (slotActs_of_slot hslot) h

/-! ### Without a shed (R70): a channel that is neither throttled nor listed -/

theorem aside_stageB_ordinary (h : s.plan.levels.settings.excessDwell ≠ 0) (d : Chan) : s.Aside (s.stageB .ordinary) d := by
  unfold State.stageB
  dsimp only
  split
  · exact ⟨rfl, rfl, id, id, rfl⟩
  · split
    · exact .refl s d
    · exact ⟨rfl, rfl, id, id, rfl⟩

theorem aside_stageC (d : Chan) : s.Aside s.stageC d := by
  unfold State.stageC
  split
  · exact ⟨rfl, rfl, id, id, rfl⟩
  · exact .refl s d

theorem aside_admission (hst : (s.chan d).state ≠ .throttled) (u : s.Unlisted d) (n : Nat) : s.Aside (s.admission n) d := by
  induction n generalizing s with
  | zero => exact .refl s d
  | succ n ih =>
    unfold State.admission
    split
    · split
      · exact .refl s d
      · rename_i x hx
        split
        · split
          · exact aside_admitEntry (ne_of_mem_unheld u (mem_unheld_of_firstChoice hx)) 1
          · rename_i c _
            have hthrottled := state_of_bestThrottled (bestThrottled_of_firstChoice hx)
            have haside : s.Aside (s.unthrottleChoice c) d :=
              (aside_unthrottle (by rintro rfl; exact hst hthrottled)).trans (aside_push _ _ _ _ d)
            exact haside.trans (ih (by rw [haside.chan]; exact hst) (haside.unlisted u))
        · split
          · exact .refl s d
          · rename_i e he
            exact aside_admitEntry (ne_of_mem_unheld u (mem_unheld_of_behind (List.mem_of_find?_eq_some he))) 2
    · exact .refl s d

/-- R69, R70: an ordinary re-evaluation with an excess dwell above 0 sheds nothing. -/
theorem aside_reevaluate (h : s.plan.levels.settings.excessDwell ≠ 0) (hst : (s.chan d).state ≠ .throttled) (u : s.Unlisted d) :
    s.Aside (s.reevaluate .ordinary) d := by
  unfold State.reevaluate
  split
  · have haside := (aside_stageB_ordinary h d).trans (aside_stageC d)
    exact haside.trans (aside_admission (by rw [haside.chan]; exact hst) (haside.unlisted u) _)
  · exact .refl s d

theorem aside_serveSlot (h : d ∉ s.slot.waiting) : s.Aside s.serveSlot d := by
  unfold State.serveSlot
  split
  · split
    · exact .refl s d
    · rename_i c hc
      exact aside_grantSlot (by rintro rfl; exact h (mem_waiting_of_nextServed hc))
  · exact .refl s d

theorem aside_settle (h : s.plan.levels.settings.excessDwell ≠ 0) (hst : (s.chan d).state ≠ .throttled) (u : s.Unlisted d)
    (n : Nat) (need : Bool) : s.Aside (s.settle n need) d := by
  induction n generalizing s need with
  | zero => exact .refl s d
  | succ n ih =>
    have hserved := aside_serveSlot u.not_mem_waiting
    unfold State.settle
    dsimp only
    split
    · have hround := hserved.trans (aside_reevaluate (by rw [hserved.plan]; exact h) (by rw [hserved.chan]; exact hst)
        (hserved.unlisted u))
      split
      · exact hround.trans (ih (by rw [hround.plan]; exact h) (by rw [hround.chan]; exact hst) (hround.unlisted u) _)
      · exact hround
    · exact hserved

/-- R70, R72: an unlisted channel, ON or STARTING, that no shed may take. -/
theorem aside_finish_of_running (h : s.rank d = 0 ∨ s.plan.levels.settings.excessDwell ≠ 0)
    (hst : (s.chan d).state = .on ∨ (s.chan d).state = .starting) (u : s.Unlisted d) (before : State) (tell : Bool) :
    s.Aside (before.finish s tell) d := by
  rcases h with hrank | hdwell
  · refine (works_finish before tell).aside u ?_
    unfold Channel.leftAlone
    rw [hrank]
    rcases hst with hst | hst <;> rw [hst] <;> rfl
  · exact aside_settle hdwell (by rcases hst with hst | hst <;> rw [hst] <;> nofun) u _ _

/-! ### The last sample (R114) -/

theorem m_of_aside (h : ∀ d, d ≠ c → s.Aside t d) (hself : (t.chan c).m = (s.chan c).m) (d : Chan) :
    (t.chan d).m = (s.chan d).m := by
  by_cases hd : d = c
  · rw [hd]
    exact hself
  · rw [(h d hd).chan]

theorem setChan_m {ch : Channel} (h : ch.m = (s.chan c).m) : ((s.setChan c ch).chan c).m = (s.chan c).m := by
  rw [State.chan_setChan_self, h]

theorem shedStep_m (c : Chan) : ((s.shedStep c).chan c).m = (s.chan c).m := by
  unfold State.shedStep State.shedChannel
  dsimp only
  split
  · exact setChan_m (s := s) rfl
  · split
    · exact setChan_m (s := s) rfl
    · show ((s.cutTo c _ _).chan c).m = _
      rw [cutTo_chan_self]
      rfl

theorem grantSlot_m (c : Chan) : ((s.grantSlot c).chan c).m = (s.chan c).m := by
  unfold State.grantSlot
  split <;> exact setChan_m (s := s) rfl

theorem unthrottle_m (c : Chan) : ((s.unthrottle c).chan c).m = (s.chan c).m := by
  unfold State.unthrottle
  split <;> exact setChan_m (s := s) rfl

/-- R114: nothing that follows an event changes a last sample. -/
theorem State.Act.m (h : s.Act t) (d : Chan) : (t.chan d).m = (s.chan d).m := by
  cases h with
  | sheds c hd h => exact m_of_aside (fun d hd => aside_shedStep hd) (shedStep_m c) d
  | reports => rfl
  | timer x b => rfl
  | unthrottles c hm h => exact m_of_aside (fun d hd => aside_unthrottle hd) (unthrottle_m c) d
  | serves c hfree hsag h => exact m_of_aside (fun d hd => aside_grantSlot hd) (grantSlot_m c) d

theorem State.Works.m (h : s.Works t) (d : Chan) : (t.chan d).m = (s.chan d).m :=
  h.keeps (P := fun t => (t.chan d).m = (s.chan d).m) (fun _ _ hs h => (h.m d).trans hs)
    (fun r e k hr _ _ => (m_of_aside (fun d hd => aside_admitEntry hd k)
      (by rw [admitEntry_chan_self]; rfl) d).trans hr) rfl

end

end Sys2Proof.Machine
end

section
/-!
PROOF. Channel samples and trips (R114 to R120): the sample's own work, and what the re-evaluation that follows leaves.
-/

namespace Sys2Proof.Machine

section
variable {s t u : State} {c d : Chan} {m : Nat}

/-! ### The work of a sample -/

/-- R114, R117: the sample and its streak recorded. -/
def State.sampled (s : State) (c : Chan) (m n : Nat) : State := s.setChan c { s.chan c with m := m, ocStreak := n }

theorem sampled_chan (m n : Nat) : (s.sampled c m n).chan c = { s.chan c with m := m, ocStreak := n } :=
  State.chan_setChan_self s c _

theorem sampleWork_of_open (h : (s.chan c).closed = false) : s.sampleWork c m = s.setChan c { s.chan c with m := m } := by
  unfold State.sampleWork
  rw [State.chan_setChan_self]
  exact if_neg (by rw [show Channel.closed { s.chan c with m := m } = (s.chan c).closed from rfl, h]; nofun)

theorem sampleWork_of_closed (h : (s.chan c).closed = true) :
    s.sampleWork c m = (s.setChan c { s.chan c with m := m }).testSample c m := by
  unfold State.sampleWork
  rw [State.chan_setChan_self]
  exact if_pos h

/-- R117: the fifth sample in a row above the limit. -/
theorem sampleWork_of_trip (h : (s.chan c).closed = true) (hstreak : 5 ≤ (s.chan c).streakAfter (s.crec c) m) :
    s.sampleWork c m = (s.setChan c { s.chan c with m := m }).trip c .trip := by
  rw [sampleWork_of_closed h]
  unfold State.testSample
  dsimp only
  rw [State.chan_setChan_self]
  exact if_pos hstreak

/-- R117: any other sample of a closed switch. -/
theorem sampleWork_of_below (h : (s.chan c).closed = true) (hstreak : (s.chan c).streakAfter (s.crec c) m < 5) :
    s.sampleWork c m =
      if (s.chan c).state = .rundown then
        ((s.sampled c m ((s.chan c).streakAfter (s.crec c) m)).endSampleWindow c).doneTest c m
      else (s.sampled c m ((s.chan c).streakAfter (s.crec c) m)).endSampleWindow c := by
  rw [sampleWork_of_closed h]
  unfold State.testSample
  dsimp only
  rw [State.chan_setChan_self]
  refine (if_neg (show ¬tripStreak ≤ (s.chan c).streakAfter (s.crec c) m from Nat.not_le.2 hstreak)).trans ?_
  unfold State.setStreak
  rw [State.chan_setChan_self, State.setChan_setChan]
  rfl

theorem endSampleWindow_of_none (h : (s.chan c).inrush ≠ .untilSample) : s.endSampleWindow c = s := if_neg h

theorem endSampleWindow_sampled (h : (s.chan c).inrush ≠ .untilSample) (m n : Nat) :
    (s.sampled c m n).endSampleWindow c = s.sampled c m n :=
  endSampleWindow_of_none (by rw [sampled_chan]; exact h)

theorem streakAfter_of_within (h : m ≤ (s.chan c).limit (s.crec c)) : (s.chan c).streakAfter (s.crec c) m = 0 :=
  if_neg (Nat.not_lt.2 h)

theorem streakAfter_lt (h : m ≤ (s.chan c).limit (s.crec c) ∨ (s.chan c).ocStreak + 1 < 5) :
    (s.chan c).streakAfter (s.crec c) m < 5 := by
  unfold Channel.streakAfter
  split
  · omega
  · omega

/-! ### Channels that the events of one channel leave -/

theorem aside_endWindow (h : d ≠ c) : s.Aside (s.endWindow c) d := (aside_setChan h _).trans (aside_releaseSlot c d)

theorem aside_endRundown (h : d ≠ c) : s.Aside (s.endRundown c) d := by
  unfold State.endRundown
  dsimp only
  split
  · exact aside_setChan h _
  · exact aside_queued h _ _

theorem aside_trip (h : d ≠ c) (r : Reason) : s.Aside (s.trip c r) d := by
  have cut : ∀ ch : Channel, s.Aside ((s.setChan c ch).releaseSlot c) d := fun ch =>
    (aside_setChan h ch).trans (aside_releaseSlot c d)
  unfold State.trip
  dsimp only
  split
  · exact (cut _).trans (aside_push _ _ _ _ d)
  · exact ((cut _).trans (aside_push _ _ _ _ d)).trans (aside_push _ _ _ _ d)

theorem aside_endSampleWindow (h : d ≠ c) : s.Aside (s.endSampleWindow c) d := by
  unfold State.endSampleWindow
  split
  · exact aside_endWindow h
  · exact .refl s d

theorem aside_doneTest (h : d ≠ c) (m : Nat) : s.Aside (s.doneTest c m) d := by
  unfold State.doneTest
  split
  · split
    · exact aside_endRundown h
    · exact aside_setChan h _
  · exact aside_setChan h _

theorem aside_sampleWork (h : d ≠ c) (m : Nat) : s.Aside (s.sampleWork c m) d := by
  by_cases hclosed : (s.chan c).closed = true
  · rcases Nat.lt_or_ge ((s.chan c).streakAfter (s.crec c) m) 5 with hstreak | hstreak
    · rw [sampleWork_of_below hclosed hstreak]
      have hrecorded : s.Aside (s.sampled c m ((s.chan c).streakAfter (s.crec c) m)) d := aside_setChan h _
      have hwindow := hrecorded.trans (aside_endSampleWindow h)
      split
      · exact hwindow.trans (aside_doneTest h m)
      · exact hwindow
    · rw [sampleWork_of_trip hclosed hstreak]
      exact State.Aside.trans (t := s.setChan c { s.chan c with m := m }) (aside_setChan h _) (aside_trip h .trip)
  · rw [sampleWork_of_open (Bool.not_eq_true _ ▸ hclosed)]
    exact aside_setChan h _

theorem aside_currentActivity (m : Nat) (c d : Chan) : s.Aside (s.currentActivity c m) d := by
  unfold State.currentActivity State.activity
  split
  · split
    · exact ⟨rfl, rfl, id, id, rfl⟩
    · exact .refl s d
  · exact .refl s d

theorem aside_takeSample (h : d ≠ c) (m : Nat) : s.Aside (s.takeSample c m) d := by
  rw [State.takeSample_eq]
  exact (aside_sampleWork h m).trans (aside_currentActivity m c d)

/-! ### The sample stands recorded -/

theorem releaseSlot_m (c d : Chan) : ((s.releaseSlot c).chan d).m = (s.chan d).m := by rw [State.releaseSlot_chan]

theorem endWindow_m (c : Chan) : ((s.endWindow c).chan c).m = (s.chan c).m := by
  unfold State.endWindow
  dsimp only
  rw [releaseSlot_m]
  split <;> exact setChan_m (s := s) rfl

theorem endRundown_m (c : Chan) : ((s.endRundown c).chan c).m = (s.chan c).m := by
  unfold State.endRundown
  dsimp only
  split <;> exact setChan_m (s := s) rfl

theorem doneTest_m (c : Chan) (m : Nat) : ((s.doneTest c m).chan c).m = (s.chan c).m := by
  unfold State.doneTest
  split
  · split
    · exact endRundown_m c
    · exact setChan_m (s := s) rfl
  · exact setChan_m (s := s) rfl

/-- R118, R120: a trip makes the channel TRIPPED, or LOCKED with the retries used up. -/
theorem trip_chan (c : Chan) (r : Reason) : (s.trip c r).chan c = (s.chan c).tripped (s.crec c) r := by
  unfold State.trip Channel.tripped
  dsimp only
  by_cases h : (s.chan c).retryCount + 1 ≤ (s.crec c).retries
  · rw [if_pos h, if_pos h, if_pos h]
    show ((State.setChan s c _).releaseSlot c).chan c = _
    rw [State.releaseSlot_chan, State.chan_setChan_self]
    rfl
  · rw [if_neg h, if_neg h, if_neg h]
    show ((State.setChan s c _).releaseSlot c).chan c = _
    rw [State.releaseSlot_chan, State.chan_setChan_self]
    rfl

theorem sampleWork_m (c : Chan) (m : Nat) : ((s.sampleWork c m).chan c).m = m := by
  have hset : ((s.setChan c { s.chan c with m := m }).chan c).m = m := by rw [State.chan_setChan_self]
  by_cases hclosed : (s.chan c).closed = true
  · rcases Nat.lt_or_ge ((s.chan c).streakAfter (s.crec c) m) 5 with hstreak | hstreak
    · rw [sampleWork_of_below hclosed hstreak]
      have hwindow : (((s.sampled c m ((s.chan c).streakAfter (s.crec c) m)).endSampleWindow c).chan c).m = m := by
        unfold State.endSampleWindow
        split
        · rw [endWindow_m, sampled_chan]
        · rw [sampled_chan]
      split
      · exact (doneTest_m c m).trans hwindow
      · exact hwindow
    · rw [sampleWork_of_trip hclosed hstreak, trip_chan]
      exact hset
  · rw [sampleWork_of_open (Bool.not_eq_true _ ▸ hclosed)]
    exact hset

/-- R146: the idle timers after a sample. -/
theorem takeSample_idleAfter (c : Chan) (m : Nat) (n : TimerIx) : (s.takeSample c m).idle[n] =
    s.idleAfter n ((s.crec c).activityThreshold ≠ 0 ∧ (s.crec c).activityThreshold < m
      ∧ s.plan.timers[n].hasCurrent = true ∧ s.plan.timers[n].isMember c = true) := by
  have hsum := congrArg (fun x => x[n]) (takeSample_idle (s := s) c m)
  refine hsum.trans ?_
  unfold State.currentActivity
  by_cases h : (s.crec c).activityThreshold ≠ 0 ∧ (s.crec c).activityThreshold < m
  · rw [if_pos (by simpa using h), activity_idle]
    congr 1
    simp [h]
  · rw [if_neg (by simpa using h)]
    unfold State.idleAfter
    rw [if_neg (by simp only [decide_eq_true_eq]; exact fun k => h ⟨k.2.1.1, k.2.1.2.1⟩)]

end

end Sys2Proof.Machine
end

section
/-!
PROOF. Trips (R118 to R120), and what a sample of a channel brings about in every state.
-/

namespace Sys2Proof.Machine

section
variable {s t u : State} {c d : Chan} {m : Nat}

/-! ### A trip and all that follows it -/

theorem trip_slot (c : Chan) (r : Reason) : (s.trip c r).slot = s.slot.release c := by
  unfold State.trip
  dsimp only
  split <;> exact State.releaseSlot_slot _ c

theorem trip_standby (c : Chan) (r : Reason) : (s.trip c r).standby = s.standby := by
  unfold State.trip
  dsimp only
  split <;> exact State.releaseSlot_standby _ c

theorem Slot.release_waiting (x : Slot) (c : Chan) : (x.release c).waiting = x.waiting := by
  unfold Slot.release
  split <;> rfl

theorem unlisted_congr (hlist : t.standby = s.standby) (hslot : t.slot.waiting = s.slot.waiting) (u : s.Unlisted c) :
    t.Unlisted c := by
  refine unlisted_of ?_ ?_
  · unfold State.entry?
    rw [hlist]
    exact u.1
  · rw [hslot]
    exact u.not_mem_waiting

theorem unlisted_trip (u : s.Unlisted c) (r : Reason) : (s.trip c r).Unlisted c :=
  unlisted_congr (trip_standby c r) (by rw [trip_slot, Slot.release_waiting]) u

theorem trip_holder (c : Chan) (r : Reason) : (s.trip c r).slot.holder ≠ some c := by
  rw [trip_slot]
  exact Slot.release_holder_ne _ c

theorem Channel.leftAlone_tripped (ch : Channel) (r : ChannelRec) (x : Reason) (rank : Nat) :
    (ch.tripped r x).leftAlone rank = true := by
  unfold Channel.tripped Channel.leftAlone
  by_cases h : ch.retryCount + 1 ≤ r.retries <;> simp [h]

/-- R118: the Planner and the slot leave a channel that has tripped. -/
theorem aside_of_trip {r : Reason} (u : s.Unlisted c) (h : (s.trip c r).Works t) : (s.trip c r).Aside t c :=
  h.aside (unlisted_trip u r) (by rw [trip_chan]; exact Channel.leftAlone_tripped _ _ _ _)

/-- R118, R120: the notices of a trip. -/
theorem trip_ring (c : Chan) (r : Reason) : (s.trip c r).ring = (s.tripNotices c (tripCode r)).foldl Ring.push s.ring := by
  have hring : ∀ ch : Channel, ((s.setChan c ch).releaseSlot c).ring = s.ring := fun ch => releaseSlot_ring c
  have huptime : ∀ ch : Channel, ((s.setChan c ch).releaseSlot c).sys = s.sys := fun ch =>
    (plannerOnly_releaseSlot (s.setChan c ch) c).sys
  unfold State.trip State.tripNotices
  dsimp only
  by_cases h : (s.chan c).retryCount + 1 ≤ (s.crec c).retries
  · rw [if_pos h, if_pos h]
    show Ring.push _ ⟨_, _, _, _, _⟩ = _
    rw [hring, huptime]
    rfl
  · rw [if_neg h, if_neg h]
    show Ring.push (Ring.push _ ⟨_, _, _, _, _⟩) ⟨_, State.sys _ |>.uptime, _, _, _⟩ = _
    rw [hring, State.push_sys, huptime]
    rfl

/-! ### The sample as a command -/

/-- R114: the event of a sample within the sense range. -/
theorem exec_channelSample (h : m ≤ 2500) : exec (.channelSample c m) s = .next (s.finish (s.takeSample c m) false) := by
  show Host.Outcome.next (s.finish (s.takeSample c (sampleRange m)) false) = _
  rw [show sampleRange m = m from Nat.min_eq_right h]

theorem takeSample_ring (c : Chan) (m : Nat) : (s.takeSample c m).ring = (s.sampleWork c m).ring := by
  rw [State.takeSample_eq]
  unfold State.currentActivity State.activity
  split
  · split <;> rfl
  · rfl

/-- R114: a sample behind an open switch is recorded, and an activity. -/
theorem takeSample_of_open (h : (s.chan c).closed = false) : s.takeSample c m =
    { s with chans := s.chans.set c { s.chan c with m := m }, idle := (s.takeSample c m).idle } := by
  rw [State.takeSample_eq, sampleWork_of_open h]
  unfold State.currentActivity State.activity
  split
  · split <;> rfl
  · rfl

theorem accountedOf_of_open {ch : Channel} (r : ChannelRec) (h : ch.closed = false) (m : Nat) :
    accountedOf r { ch with m := m } = accountedOf r ch := by
  unfold Channel.closed at h
  unfold accountedOf
  cases hst : ch.state <;> simp_all

/-- R114, R68: nothing follows a sample behind an open switch. -/
theorem finish_takeSample_of_open (h : (s.chan c).closed = false) (hquiet : s.SlotQuiet) :
    s.finish (s.takeSample c m) false = s.takeSample c m := by
  have hsample := takeSample_of_open (m := m) h
  have hslot : (s.takeSample c m).slot = s.slot := by rw [hsample]
  have hsag : (s.takeSample c m).sag = s.sag := (plannerOnly_takeSample s c m).sag
  have hplan : (s.takeSample c m).plan = s.plan := (plannerOnly_takeSample s c m).plan
  have hchan : (s.takeSample c m).chan c = { s.chan c with m := m } := by
    rw [hsample]
    exact State.chan_setChan_self s c _
  refine finish_of_kept (loads_congr (fun d => ?_) fun d => ?_) hslot (by rw [hsample]) ?_
  · by_cases hd : d = c
    · unfold State.accounted
      rw [hd, hchan, crec_congr hplan, accountedOf_of_open _ h]
    · unfold State.accounted
      rw [(aside_takeSample hd m).chan, crec_congr hplan]
  · by_cases hd : d = c
    · rw [hd, hchan]
    · rw [(aside_takeSample hd m).chan]
  · unfold State.SlotQuiet
    rw [hslot, hsag]
    exact hquiet

/-- R70, R114: a sample that ends nothing. -/
theorem chan_of_sampled {n : Nat} (hwork : s.sampleWork c m = s.sampled c m n) (u : s.Unlisted c)
    (hst : (s.chan c).state = .on ∨ (s.chan c).state = .starting)
    (hcalm : s.rank c = 0 ∨ s.plan.levels.settings.excessDwell ≠ 0) :
    (s.finish (s.takeSample c m) false).chan c = { s.chan c with m := m, ocStreak := n } := by
  have hactive := aside_currentActivity (s := s.sampled c m n) m c c
  rw [State.takeSample_eq, hwork]
  have hchan := hactive.chan.trans (sampled_chan m n)
  refine (aside_finish_of_running ?_ ?_ (hactive.unlisted u) s false).chan.trans hchan
  · rw [hactive.rank, hactive.plan]
    exact hcalm
  · rw [hchan]
    exact hst

/-- R118: a trip by a sample. -/
theorem trip_of_sample (hwork : s.sampleWork c m = (s.setChan c { s.chan c with m := m }).trip c .trip) (u : s.Unlisted c) :
    (s.finish (s.takeSample c m) false).chan c = Channel.tripped { s.chan c with m := m } (s.crec c) .trip
      ∧ (s.finish (s.takeSample c m) false).slot.holder ≠ some c
      ∧ s.Pushed (s.tripNotices c 1) (s.finish (s.takeSample c m) false) := by
  have hself := State.chan_setChan_self s c { s.chan c with m := m }
  have htrip := trip_chan (s := s.setChan c { s.chan c with m := m }) c .trip
  have hring := trip_ring (s := s.setChan c { s.chan c with m := m }) c .trip
  have hunlisted := unlisted_trip (s := s.setChan c { s.chan c with m := m }) u .trip
  have hholder := trip_holder (s := s.setChan c { s.chan c with m := m }) c .trip
  have hnotices : (s.setChan c { s.chan c with m := m }).tripNotices c 1 = s.tripNotices c 1 := by
    unfold State.tripNotices
    rw [hself]
    rfl
  rw [hself] at htrip
  rw [show tripCode .trip = 1 from rfl, hnotices] at hring
  have hsample := takeSample_ring (s := s) c m
  rw [hwork] at hsample
  rw [State.takeSample_eq, hwork] at hsample ⊢
  generalize State.trip _ c .trip = t at *
  have hactive := aside_currentActivity (s := t) m c c
  have hworks := works_finish (s := t.currentActivity c m) s false
  have haside := hactive.trans (hworks.aside (hactive.unlisted hunlisted)
    (hactive.leftAlone (by rw [htrip]; exact Channel.leftAlone_tripped _ _ _ _)))
  exact ⟨haside.chan.trans htrip, haside.holder hholder, State.Pushes.pushed (u := t.currentActivity c m)
    (hsample.trans hring) hworks.pushes⟩

end

/-- Settles O52. -/
theorem channelSamplesRecordAndTrip : Obligations.ChannelSamplesRecordAndTrip := by
  intro s c m hm
  have hexec := exec_channelSample (s := s) (c := c) hm
  have hworks := works_finish (s := s.takeSample c m) s false
  refine ⟨⟨_, hexec, ?_, fun n => ?_, ?_, ?_⟩, fun hopen hquiet => ⟨_, hexec, ?_⟩,
    fun hst hinrush hu hcalm hbelow => ⟨_, hexec, ?_⟩, fun hclosed hu hstreak habove => ⟨_, hexec, ?_⟩,
    fun hclosed hu => ?_, fun hopen => ?_⟩
  · rw [hworks.m, State.takeSample_eq]
    unfold State.currentActivity State.activity
    split
    · split <;> exact sampleWork_m c m
    · exact sampleWork_m c m
  · rw [hworks.plannerOnly.idle]
    exact takeSample_idleAfter c m n
  · rw [hworks.plannerOnly.idle]
    exact (plannerOnly_takeSample s c m).trans hworks.plannerOnly
  · exact hworks.othersKept fun d hd => aside_takeSample (List.ne_of_not_mem_cons hd) m
  · rw [finish_takeSample_of_open hopen hquiet]
    exact takeSample_of_open hopen
  · have hclosed : (s.chan c).closed = true := by
      unfold Channel.closed
      rcases hst with hst | hst <;> rw [hst]
    have hwithin : m ≤ (s.chan c).limit (s.crec c) ∨ (s.chan c).ocStreak + 1 < 5 := by
      unfold Channel.limit
      split <;> simp_all
    refine chan_of_sampled ?_ hu hst hcalm
    rw [sampleWork_of_below hclosed (streakAfter_lt hwithin), endSampleWindow_sampled hinrush,
      if_neg (by rcases hst with hst | hst <;> rw [hst] <;> nofun)]
    rfl
  · refine trip_of_sample (sampleWork_of_trip hclosed ?_) hu
    unfold Channel.streakAfter Channel.limit
    rw [if_pos habove]
    omega
  · have hworks := works_finish (s := s.trip c .short) s false
    have haside := aside_of_trip hu hworks
    exact ⟨_, congrArg Host.Outcome.next (if_pos hclosed), haside.chan.trans (trip_chan c .short),
      haside.holder (trip_holder c .short), State.Pushes.pushed (trip_ring c .short) hworks.pushes,
      (plannerOnly_trip s c .short).trans hworks.plannerOnly,
      hworks.othersKept fun d hd => aside_trip (List.ne_of_not_mem_cons hd) .short⟩
  · exact congrArg Host.Outcome.next (if_neg (by rw [hopen]; nofun))

end Sys2Proof.Machine
end

section
/-!
PROOF. The ends of rundowns (R124) and of inrush windows (R116, R54).
-/

namespace Sys2Proof.Machine

section
variable {s t u : State} {c d : Chan} {m : Nat}

/-! ### The end of a rundown (R124) -/

/-- R124: the channel's items at the end of its rundown. -/
def Channel.ranDown (ch : Channel) (st : ChState) : Channel :=
  { ch with state := st, intent := .none, doneStreak := 0, ocStreak := 0, rundownTimer := none }

theorem endRundown_of_off (h : (s.chan c).intent.origin? = none) :
    s.endRundown c = s.setChan c ((s.chan c).ranDown .off) := by
  unfold State.endRundown
  dsimp only
  rw [h]
  rfl

theorem endRundown_of_wait {o : Origin} (h : (s.chan c).intent.origin? = some o) :
    s.endRundown c = (s.setChan c ((s.chan c).ranDown .waiting)).insertEntry c o false := by
  unfold State.endRundown
  dsimp only
  rw [h]
  rfl

/-- R124: the channel goes by its intent. -/
theorem chan_of_endRundown (hu : s.Unlisted c) (k : (s.endRundown c).Aside u c) (h : u.Works t) :
    ((s.chan c).intent.origin? = none → t.chan c = (s.chan c).ranDown .off)
      ∧ ∀ o : Origin, (s.chan c).intent.origin? = some o →
        s.waitsOrStarts t c o (o = .sag ∧ s.sag.releasePending = true) ∧ (t.chan c).reason = (s.chan c).reason := by
  refine ⟨fun hnone => ?_, fun o ho => ?_⟩
  · rw [endRundown_of_off hnone] at k
    have hself := State.chan_setChan_self s c ((s.chan c).ranDown .off)
    exact (h.chan_of_leftAlone k hu (by rw [hself]; exact Channel.leftAlone_of_off (.inl rfl) _)).trans hself
  · rw [endRundown_of_wait ho] at k
    have hq := queued_insertEntry (ch := (s.chan c).ranDown .waiting) hu rfl o
    rw [show (decide (o = .sag) && s.sag.releasePending) = decide (o = .sag ∧ s.sag.releasePending = true) by simp] at hq
    obtain ⟨hwaits, hreason, -⟩ := (k.queued hq).waitsOrStarts rfl h
    exact ⟨hwaits, hreason⟩

/-! ### The done test (R124) -/

theorem doneTest_of_above (h : (s.crec c).doneCurrent ≤ m) :
    s.doneTest c m = s.setChan c { s.chan c with doneStreak := 0 } := if_neg (Nat.not_lt.2 h)

theorem doneTest_of_first (h : m < (s.crec c).doneCurrent) (hstreak : (s.chan c).doneStreak = 0) :
    s.doneTest c m = s.setChan c { s.chan c with doneStreak := 1 } := by
  unfold State.doneTest
  rw [if_pos h, hstreak]
  rfl

theorem doneTest_of_second (h : m < (s.crec c).doneCurrent) (hstreak : (s.chan c).doneStreak ≠ 0) :
    s.doneTest c m = s.endRundown c := by
  unfold State.doneTest
  rw [if_pos h, if_pos (by omega)]

/-- R114, R124: a sample within both limits in a rundown. -/
theorem sampleWork_of_rundown (hst : (s.chan c).state = .rundown) (hinrush : (s.chan c).inrush ≠ .untilSample)
    (htrip : m ≤ (s.crec c).tripLimit) (hsurge : m ≤ (s.crec c).surgeLimit) :
    s.sampleWork c m = (s.sampled c m 0).doneTest c m := by
  have hclosed : (s.chan c).closed = true := by
    unfold Channel.closed
    rw [hst]
  have hwithin : m ≤ (s.chan c).limit (s.crec c) := by
    unfold Channel.limit
    split <;> assumption
  rw [sampleWork_of_below hclosed (streakAfter_lt (.inl hwithin)), streakAfter_of_within hwithin,
    endSampleWindow_sampled hinrush, if_pos hst]

/-! ### The end of an inrush window (R116) -/

/-- R116: the channel's items at the end of its window. -/
def Channel.windowEnded (ch : Channel) : Channel :=
  if ch.state = .starting then { ch with inrush := .stopped }.toOn else { ch with inrush := .stopped }

theorem endWindow_chan (c : Chan) : (s.endWindow c).chan c = (s.chan c).windowEnded := by
  unfold State.endWindow
  rw [State.releaseSlot_chan]
  exact State.chan_setChan_self s c _

theorem endWindow_slot (c : Chan) : (s.endWindow c).slot = s.slot.release c := State.releaseSlot_slot _ c

theorem unlisted_endWindow (u : s.Unlisted c) : (s.endWindow c).Unlisted c :=
  unlisted_congr (State.releaseSlot_standby _ c) ((congrArg Slot.waiting (endWindow_slot c)).trans (Slot.release_waiting _ c)) u

/-- R116, R80, R87: a channel whose window has ended, and that nothing that follows starts again: it waits for nothing, and
where it has been shed the restore-quiet timer runs. -/
structure State.Shut (s : State) (c : Chan) : Prop where
  window : (s.chan c).inrush = .stopped
  holder : s.slot.holder ≠ some c
  apart : c ∉ s.slot.waiting
  quiet : s.QuietFresh ∨ (s.entry? c = none ∧ ((s.chan c).state = .throttled → (s.chan c).phase = .run))

theorem State.Shut.aside (h : s.Shut c) (k : s.Aside t c) (hquiet : s.QuietFresh → t.QuietFresh) : t.Shut c := by
  refine ⟨?_, k.holder h.holder, fun x => h.apart (k.waits x), h.quiet.imp hquiet fun x => ?_⟩
  · rw [k.chan]
    exact h.window
  · rw [k.chan, k.entry]
    exact x

theorem shut_of_quietFresh (h : (s.chan c).inrush = .stopped ∧ s.slot.holder ≠ some c ∧ c ∉ s.slot.waiting)
    (hquiet : s.QuietFresh) : s.Shut c := ⟨h.1, h.2.1, h.2.2, .inl hquiet⟩

/-- R127, R131: a shed opens no window and takes no slot. -/
theorem shedStep_shut (h : s.Shut c) : (s.shedStep c).Shut c := by
  refine shut_of_quietFresh ⟨?_, ?_, fun x => h.apart ((shedStep_waiting_sublist c).subset x)⟩ (shedStep_quietFresh c)
  · unfold State.shedStep State.shedChannel
    dsimp only
    split
    · show ((s.throttle c).chan c).inrush = .stopped
      unfold State.throttle
      rw [State.chan_setChan_self]
      rfl
    · split
      · show ((s.enterRundown c _ _).chan c).inrush = .stopped
        unfold State.enterRundown
        rw [State.chan_setChan_self]
        exact h.window
      · show ((s.cutTo c _ _).chan c).inrush = .stopped
        rw [cutTo_chan_self]
        rfl
  · unfold State.shedStep State.shedChannel
    dsimp only
    split
    · exact h.holder
    · split
      · exact h.holder
      · exact cutTo_holder _ _

theorem State.Shut.act (h : s.Shut c) (k : s.Act t) : t.Shut c := by
  have hfresh := fun x : s.QuietFresh => x.act k
  cases k with
  | sheds d hd hcand =>
    by_cases hdc : c = d
    · subst hdc
      exact shedStep_shut h
    · exact h.aside (aside_shedStep hdc) hfresh
  | reports => exact h.aside ⟨rfl, rfl, id, id, rfl⟩ hfresh
  | timer x b => exact h.aside ⟨rfl, rfl, id, id, rfl⟩ hfresh
  | unthrottles d hm hst =>
    by_cases hdc : c = d
    · subst hdc
      obtain ⟨hentry, hrun⟩ := h.quiet.resolve_left fun x => x.not_mayAdmit hm
      have hchan : (s.unthrottle c).chan c = (s.chan c).toOn := by
        unfold State.unthrottle
        rw [if_pos (hrun hst)]
        exact State.chan_setChan_self s c _
      have hslot : (s.unthrottle c).slot = s.slot := by
        unfold State.unthrottle
        rw [if_pos (hrun hst)]
        rfl
      have hlist : (s.unthrottle c).entry? c = s.entry? c := by
        unfold State.unthrottle
        rw [if_pos (hrun hst)]
        rfl
      refine State.Shut.aside (s := s.unthrottle c) ⟨?_, ?_, ?_, .inr ⟨hlist.trans hentry, ?_⟩⟩ (aside_push _ _ _ _ c) id
      · rw [hchan]
        exact h.window
      · rw [hslot]
        exact h.holder
      · rw [hslot]
        exact h.apart
      · rw [hchan]
        nofun
    · exact h.aside ((aside_unthrottle hdc).trans (aside_push _ _ _ _ c)) hfresh
  | serves d hfree hsag hd =>
    exact h.aside (aside_grantSlot (by rintro rfl; exact h.apart hd)) hfresh

/-- R116: nothing that follows opens the window again, or gives the channel the slot. -/
theorem State.Shut.works (h : s.Shut c) (k : s.Works t) : t.Shut c := by
  refine k.keeps (P := fun t => t.Shut c) (fun _ _ hs k => hs.act k) (fun m e n hs hm he => ?_) h
  obtain ⟨hentry, -⟩ := hs.quiet.resolve_left fun x => x.not_mayAdmit hm
  exact hs.aside (aside_admitEntry (ne_of_mem_unheld (unlisted_of hentry hs.apart) he) n) fun x => absurd hm x.not_mayAdmit

theorem shut_endWindow (u : s.Unlisted c) (h : (s.chan c).state = .starting ∨ (s.chan c).phase = .run) :
    (s.endWindow c).Shut c := by
  have hunlisted := unlisted_endWindow u
  refine ⟨?_, ?_, hunlisted.not_mem_waiting, .inr ⟨hunlisted.1, ?_⟩⟩
  · rw [endWindow_chan]
    unfold Channel.windowEnded
    split <;> rfl
  · rw [endWindow_slot]
    exact Slot.release_holder_ne _ c
  · rw [endWindow_chan]
    unfold Channel.windowEnded
    split
    · nofun
    · exact fun _ => h.resolve_left ‹_›

theorem windowEnded_of_starting {ch : Channel} (h : ch.state = .starting) : ch.windowEnded = { ch with
    state := .on, phase := .none, unthrottlePending := false, onTimer := none, inrush := .stopped
    goodRun := some ⟨60000, 60000⟩ } := if_pos h

/-- R70, R116: a STARTING channel is ON, unless a shed takes it. -/
theorem chan_of_endWindow {t : State} (haside : (s.endWindow c).Aside t c) (u : s.Unlisted c)
    (hst : (s.chan c).state = .starting) (hcalm : s.rank c = 0 ∨ s.plan.levels.settings.excessDwell ≠ 0) (before : State) :
    (before.finish t false).chan c = (s.chan c).windowEnded := by
  have hframe := plannerOnly_endWindow s c
  have hchan := haside.chan.trans (endWindow_chan c)
  refine (aside_finish_of_running ?_ ?_ (haside.unlisted (unlisted_endWindow u)) before false).chan.trans hchan
  · rw [haside.rank, haside.plan, State.rank_congr hframe.plan, hframe.plan]
    exact hcalm
  · rw [hchan, windowEnded_of_starting hst]
    exact .inl rfl

theorem starting_or_run (hs : s.ChannelsOk) (h : (s.chan c).inrush.isOpen = true) :
    (s.chan c).state = .starting ∨ (s.chan c).phase = .run := ((Channel.ok_iff_fits _).1 (hs c)).inrush h

end

/-- Settles O53. -/
theorem rundownsAndWindowsEnd : Obligations.RundownsAndWindowsEnd := by
  intro s c hu
  refine ⟨fun len left hst htimer => ?_, fun m hst hinrush hm htrip hsurge => ?_, fun r hs hopen => ?_,
    fun m hs hopen hm hbelow => ?_⟩
  · have hexec : exec (.rundownTimeout c) s = .next (s.finish
        ((s.push .rundownTimeout (some c) (s.chan c).m (len / 1000)).endRundown c) false) := by
      refine congrArg Host.Outcome.next ((if_pos (by rw [hst, htimer]; rfl)).trans ?_)
      rw [htimer]
      rfl
    have hworks := works_finish
      (s := (s.push .rundownTimeout (some c) (s.chan c).m (len / 1000)).endRundown c) s false
    obtain ⟨hoff, hwaits⟩ := chan_of_endRundown
      (s := s.push .rundownTimeout (some c) (s.chan c).m (len / 1000)) hu (.refl _ c) hworks
    refine ⟨_, hexec, State.Pushes.pushed (endRundown_ring c) hworks.pushes, hoff, hwaits, ?_, ?_⟩
    · exact ((plannerOnly_push s _ _ _ _).trans (plannerOnly_endRundown _ c)).trans hworks.plannerOnly
    · exact hworks.othersKept fun d hd => (aside_push _ _ _ _ d).trans (aside_endRundown (List.ne_of_not_mem_cons hd))
  · have hexec := exec_channelSample (s := s) (c := c) hm
    have hworks := works_finish (s := s.takeSample c m) s false
    have hchan := sampled_chan (s := s) (c := c) m 0
    have hcounted : ∀ ch : Channel, ch.state = .rundown → (s.sampled c m 0).doneTest c m = (s.sampled c m 0).setChan c ch →
        (s.finish (s.takeSample c m) false).chan c = ch := fun ch hrundown htest => by
      rw [State.takeSample_eq, sampleWork_of_rundown hst hinrush htrip hsurge, htest] at hworks ⊢
      have hself := State.chan_setChan_self (s.sampled c m 0) c ch
      exact (hworks.chan_of_leftAlone (s := (s.sampled c m 0).setChan c ch) (aside_currentActivity m c c) hu
        (by rw [hself]; exact Channel.leftAlone_of_rundown hrundown _)).trans hself
    refine ⟨_, hexec, fun habove => ?_, fun hbelow hfirst => ?_, fun hbelow hsecond => ?_⟩
    · refine hcounted _ hst ?_
      rw [doneTest_of_above (s := s.sampled c m 0) habove, hchan]
    · refine hcounted _ hst ?_
      rw [doneTest_of_first (s := s.sampled c m 0) hbelow (by rw [hchan]; exact hfirst), hchan]
    · have htest := doneTest_of_second (s := s.sampled c m 0) (c := c) hbelow (by rw [hchan]; exact hsecond)
      rw [State.takeSample_eq, sampleWork_of_rundown hst hinrush htrip hsurge, htest] at hworks ⊢
      have hends := chan_of_endRundown (s := s.sampled c m 0) hu (aside_currentActivity m c c) hworks
      rw [hchan] at hends
      exact hends
  · have hexec : exec (.inrushWindowEnd c) s = .next (s.finish (s.endWindow c) false) :=
      congrArg Host.Outcome.next (if_pos (by rw [hopen]; rfl))
    have hworks := works_finish (s := s.endWindow c) s false
    have hshut := (shut_endWindow hu (starting_or_run hs (by rw [hopen]; rfl))).works hworks
    refine ⟨_, hexec, hshut.window, hshut.holder, fun hst hcalm => ?_,
      (plannerOnly_endWindow s c).trans hworks.plannerOnly,
      hworks.othersKept fun d hd => aside_endWindow (List.ne_of_not_mem_cons hd)⟩
    rw [chan_of_endWindow (.refl _ c) hu hst hcalm, windowEnded_of_starting hst]
  · have hexec := exec_channelSample (s := s) (c := c) hm
    have hworks := works_finish (s := s.takeSample c m) s false
    have hframe := plannerOnly_takeSample s c m
    have hothers : ∀ d, d ∉ [c] → s.Aside (s.takeSample c m) d := fun d hd => aside_takeSample (List.ne_of_not_mem_cons hd) m
    have hisOpen : (s.chan c).inrush.isOpen = true := by rw [hopen]; rfl
    have hlimit : (s.chan c).limit (s.crec c) = (s.crec c).surgeLimit := if_pos hisOpen
    have hstarted := starting_or_run hs hisOpen
    have hclosed := ((Channel.ok_iff_fits _).1 (hs c)).closed_of_open hisOpen
    have hchan := sampled_chan (s := s) (c := c) m ((s.chan c).streakAfter (s.crec c) m)
    have hnotdown : (s.chan c).state ≠ .rundown := by
      rcases hstarted with hst | hrun
      · rw [hst]
        nofun
      · rw [((Channel.ok_iff_fits _).1 (hs c)).throttled_of_run hrun]
        nofun
    have hwork : s.sampleWork c m = (s.sampled c m ((s.chan c).streakAfter (s.crec c) m)).endWindow c := by
      rw [sampleWork_of_below hclosed (streakAfter_lt (by rw [hlimit]; exact hbelow)), if_neg hnotdown]
      exact if_pos (by rw [hchan]; exact hopen)
    have hended : ((s.sampled c m ((s.chan c).streakAfter (s.crec c) m)).endWindow c).Aside (s.takeSample c m) c := by
      rw [State.takeSample_eq, hwork]
      exact aside_currentActivity m c c
    have hshut := ((shut_endWindow (s := s.sampled c m _) hu (by rw [hchan]; exact hstarted)).aside hended
      fun x => ?_).works hworks
    · refine ⟨_, hexec, hshut.window, hshut.holder, fun hst hcalm => ?_, ?_, hworks.othersKept hothers⟩
      · rw [chan_of_endWindow hended hu (by rw [hchan]; exact hst) hcalm, hchan]
        refine (windowEnded_of_starting (ch := { s.chan c with
          m := m, ocStreak := (s.chan c).streakAfter (s.crec c) m }) hst).trans ?_
        unfold Channel.streakAfter
        rw [hlimit]
      · rw [hworks.plannerOnly.idle]
        exact hframe.trans hworks.plannerOnly
    · rw [State.takeSample_eq, hwork]
      unfold State.currentActivity State.activity
      split
      · split <;> exact x
      · exact x

end Sys2Proof.Machine
end

section
/-!
PROOF. The phases of a throttled channel turn (R87, R88, R128), and a re-evaluation that neither sheds nor admits.
-/

namespace Sys2Proof.Machine

section
variable {s t u : State} {c d : Chan}

/-! ### An event after which nothing follows -/

theorem slotActs_of_waits (h : t.slot.holder = s.slot.holder) (hwaits : t.slot.waiting ≠ []) : slotActs s t = false := by
  unfold slotActs freed emptiedFree
  rw [h, List.isEmpty_eq_false_iff.2 hwaits]
  cases s.slot.holder <;> simp

theorem slotActs_of_held (h : t.slot.holder ≠ none) : slotActs s t = false := by
  unfold slotActs freed emptiedFree
  cases hholder : t.slot.holder with
  | none => exact absurd hholder h
  | some c => simp

/-- R52, R67: a channel that stays THROTTLED keeps its load in either phase. -/
theorem loads_of_throttled {ch : Channel} (hchans : t.chans = s.chans.set c ch) (hst : (s.chan c).state = .throttled)
    (hch : ch.state = .throttled) (hplan : t.plan = s.plan) : t.loads = s.loads := by
  have hchan : t.chan = (s.setChan c ch).chan := by
    funext d
    show t.chans[d] = (s.chans.set c ch)[d]
    rw [hchans]
  refine loads_congr (fun d => ?_) fun d => ?_
  · unfold State.accounted
    rw [crec_congr hplan, hchan]
    by_cases hd : d = c
    · unfold accountedOf
      rw [hd, State.chan_setChan_self, hch, hst]
    · rw [State.chan_setChan_of_ne s c d ch hd]
  · rw [hchan]
    by_cases hd : d = c
    · rw [hd, State.chan_setChan_self, hch, hst]
    · rw [State.chan_setChan_of_ne s c d ch hd]

/-! ### A re-evaluation that neither sheds nor admits (R70, R80) -/

theorem setExcess_self (s : State) : s.setExcess s.planner.excess s.planner.overloadReported = s := rfl

theorem admission_of_not (h : ¬s.mayAdmit = true) (n : Nat) : s.admission n = s := by
  cases n with
  | zero => rfl
  | succ n => exact if_neg h

/-- R70, R80: with the restore-quiet timer running and an excess dwell above 0 only the excess timer and the overload flag
follow. -/
theorem reevaluate_of_calm (hquiet : s.planner.restoreQuiet.isSome = true) (hdwell : s.plan.levels.settings.excessDwell ≠ 0) :
    ∃ x b, s.reevaluate .ordinary = s.setExcess x b := by
  have hB : ∃ x, s.stageB .ordinary = s.setExcess x s.planner.overloadReported := by
    unfold State.stageB
    dsimp only
    split
    · exact ⟨none, rfl⟩
    · split
      · exact ⟨_, rfl⟩
      · exact ⟨_, rfl⟩
  obtain ⟨x, hx⟩ := hB
  have hC : ∃ b, (s.stageB .ordinary).stageC = s.setExcess x b := by
    rw [hx]
    unfold State.stageC
    split
    · exact ⟨false, rfl⟩
    · exact ⟨_, rfl⟩
  obtain ⟨b, hb⟩ := hC
  unfold State.reevaluate
  split
  · refine ⟨x, b, ?_⟩
    rw [hb, admission_of_not]
    intro hm
    have hnone : s.planner.restoreQuiet = none := (State.mayAdmit_iff.1 hm).2.2.2.2.2
    rw [hnone] at hquiet
    cases hquiet
  · exact ⟨_, _, (setExcess_self s).symm⟩

theorem serveSlot_planner : s.serveSlot.planner = s.planner := by
  unfold State.serveSlot
  split
  · split
    · rfl
    · exact grantSlot_planner _
  · rfl

/-- R88: then the slot is served and nothing else follows. -/
theorem finish_of_calm (hquiet : t.planner.restoreQuiet.isSome = true) (hdwell : t.plan.levels.settings.excessDwell ≠ 0)
    (before : State) (tell : Bool) : ∃ x b, before.finish t tell = t.serveSlot.setExcess x b := by
  have hplan : t.serveSlot.plan = t.plan := (State.Works.acts (acts_serveSlot (s := t))).plannerOnly.plan
  obtain ⟨x, b, hround⟩ := reevaluate_of_calm (s := t.serveSlot) (by rw [serveSlot_planner]; exact hquiet)
    (by rw [hplan]; exact hdwell)
  unfold State.finish settleRounds State.settle
  dsimp only
  split
  · rw [hround, if_neg (by rw [slotActs_of_slot (s := t.serveSlot) (t := t.serveSlot.setExcess x b) rfl]; nofun)]
    exact ⟨x, b, rfl⟩
  · exact ⟨_, _, (setExcess_self _).symm⟩

/-- R88: who holds the slot once it has been served. -/
theorem serveSlot_holder (hfree : s.slot.holder = none) :
    s.serveSlot.slot.holder = if s.sag.state = .clear ∨ s.sag.state = .recovering then s.nextServed else none := by
  have hserves : s.sag.state.servesSlot = true ↔ s.sag.state = .clear ∨ s.sag.state = .recovering := by
    simp [SagState.servesSlot]
  unfold State.serveSlot
  by_cases h : s.sag.state.servesSlot = true
  · rw [if_pos (by simp [hfree, h]), if_pos (hserves.1 h)]
    cases hnext : s.nextServed with
    | none => exact hfree
    | some d =>
      dsimp only
      rw [grantSlot_slot]
      rfl
  · rw [if_neg (by simp [h]), if_neg (fun k => h (hserves.2 k))]
    exact hfree

/-! ### The phases (R128) -/

/-- R128: the end of a REST phase that gets the slot at once. -/
theorem restEnd_of_free (hpending : (s.chan c).unthrottlePending = false) (hslot : s.slot = ⟨none, []⟩)
    (hsag : s.sag.state.servesSlot = true) : (s.setChan c { s.chan c with offTimer := none }).askSlot c =
      { s with
        chans := s.chans.set c
          { s.chan c with
            phase := .run, offTimer := none, ocStreak := 0
            onTimer := some ⟨(s.crec c).onTime * 1000, (s.crec c).onTime * 1000⟩
            inrush := Inrush.opened (s.crec c).inrush }
        slot := ⟨some c, []⟩ } := by
  have hself := State.chan_setChan_self s c { s.chan c with offTimer := none }
  unfold State.askSlot
  rw [if_pos]
  · unfold State.grantSlot
    rw [if_neg (by rw [hself]; exact Bool.not_eq_true _ ▸ hpending)]
    unfold State.startRun
    rw [hself, State.setChan_setChan]
    unfold State.setChan State.setHolder State.leaveWaiting
    rw [hslot]
    rfl
  · show (decide (s.slot.holder = none) && s.slot.waiting.isEmpty && s.sag.state.servesSlot) = true
    rw [hslot, hsag]
    rfl

/-- R87: the end of a REST phase that joins the waiting set. -/
theorem restEnd_of_busy (hwait : s.slot.waiting.contains c = false)
    (hbusy : s.slot.holder ≠ none ∨ s.sag.state.servesSlot = false) :
    (s.setChan c { s.chan c with offTimer := none }).askSlot c =
      { s with
        chans := s.chans.set c { s.chan c with offTimer := none }
        slot := ⟨s.slot.holder, s.slot.waiting ++ [c]⟩ } := by
  unfold State.askSlot
  refine (if_neg ?_).trans (if_neg (show ¬s.slot.waiting.contains c = true by rw [hwait]; nofun))
  · show ¬(decide (s.slot.holder = none) && s.slot.waiting.isEmpty && s.sag.state.servesSlot) = true
    rcases hbusy with h | h
    · simp [h]
    · simp [h]

/-- R128: the channel's items at the end of its RUN phase. -/
def Channel.rests (ch : Channel) (r : ChannelRec) : Channel :=
  { ch with
    phase := .rest, ocStreak := 0, inrush := .stopped, onTimer := none
    offTimer := some ⟨r.offTime * 1000, r.offTime * 1000⟩ }

theorem endRun_eq (c : Chan) : s.endRun c = (s.setChan c ((s.chan c).rests (s.crec c))).releaseSlot c := rfl

theorem endRun_chan (c : Chan) : (s.endRun c).chan c = (s.chan c).rests (s.crec c) := by
  rw [endRun_eq, State.releaseSlot_chan, State.chan_setChan_self]

theorem aside_endRun (h : d ≠ c) : s.Aside (s.endRun c) d := (aside_setChan h _).trans (aside_releaseSlot c d)

theorem endRun_planner (c : Chan) : (s.endRun c).planner = s.planner := by
  rw [endRun_eq, State.releaseSlot_eq]
  rfl

theorem endRun_slot (c : Chan) : (s.endRun c).slot = s.slot.release c := State.releaseSlot_slot _ c

theorem nextServed_congr (hplan : t.plan = s.plan) (hwaits : t.slot.waiting = s.slot.waiting) :
    t.nextServed = s.nextServed := by
  have hrank : t.rank = s.rank := funext fun d => State.rank_congr hplan d
  have hbefore : t.servedBefore = s.servedBefore := by
    unfold State.servedBefore
    rw [hrank]
  unfold State.nextServed
  rw [hbefore, hwaits]

end

/-- Settles O55. -/
theorem throttlePhasesTurn : Obligations.ThrottlePhasesTurn := by
  intro s c hst
  have hoff : (s.chan c).phase = .rest → (s.chan c).offTimer.isSome = true → exec (.offTimerExpiry c) s =
      .next (s.finish ((s.setChan c { s.chan c with offTimer := none }).askSlot c) false) := fun hrest htimer =>
    congrArg Host.Outcome.next (if_pos (by rw [hst, hrest, htimer]; rfl))
  have hon : (s.chan c).phase = .run → (s.chan c).onTimer.isSome = true → exec (.onTimerExpiry c) s =
      .next (s.finish (s.endRun c) false) := fun hrun htimer =>
    congrArg Host.Outcome.next (if_pos (by rw [hst, hrun, htimer]; rfl))
  refine ⟨fun hrest htimer hpending hslot hsag => ?_, fun hrest htimer hwait hbusy => ?_, fun hrun htimer hholder hquiet => ?_,
    fun hrun htimer hholder hwait hquiet hdwell => ?_⟩
  · have hserves : s.sag.state.servesSlot = true := by rcases hsag with h | h <;> rw [h] <;> rfl
    rw [hoff hrest htimer, restEnd_of_free hpending hslot hserves]
    refine congrArg Host.Outcome.next (finish_of_still ?_ rfl (slotActs_of_held nofun) (.inl nofun))
    exact loads_of_throttled rfl hst hst rfl
  · have hserves : s.slot.holder ≠ none ∨ s.sag.state.servesSlot = false :=
      hbusy.imp id fun h => by rcases h with h | h <;> rw [h] <;> rfl
    rw [hoff hrest htimer, restEnd_of_busy hwait hserves]
    refine congrArg Host.Outcome.next (finish_of_still ?_ rfl (slotActs_of_waits rfl (by simp)) (hserves.imp id .inr))
    exact loads_of_throttled rfl hst hst rfl
  · rw [hon hrun htimer]
    have hkept : s.endRun c = s.setChan c ((s.chan c).rests (s.crec c)) := if_neg hholder
    rw [hkept]
    refine congrArg Host.Outcome.next (finish_of_kept ?_ rfl rfl hquiet)
    exact loads_of_throttled rfl hst hst rfl
  · have hframe := plannerOnly_endRun s c
    have hslot : (s.endRun c).slot = ⟨none, s.slot.waiting⟩ := by
      rw [endRun_slot]
      unfold Slot.release
      rw [if_pos hholder]
    have hworks := works_finish (s := s.endRun c) s false
    obtain ⟨x, b, hfinish⟩ := finish_of_calm (t := s.endRun c) (by rw [endRun_planner]; exact hquiet)
      (by rw [hframe.plan]; exact hdwell) s false
    refine ⟨_, hon hrun htimer, ?_, ?_, hframe.trans hworks.plannerOnly,
      hworks.othersKept fun d hd => aside_endRun (List.ne_of_not_mem_cons hd)⟩
    · have hnot : c ∉ (s.endRun c).slot.waiting := by
        rw [hslot]
        simpa using hwait
      rw [hfinish]
      exact (aside_serveSlot hnot).chan.trans (endRun_chan c)
    · rw [hfinish]
      refine (serveSlot_holder (by rw [hslot])).trans ?_
      rw [hframe.sag, nextServed_congr hframe.plan (by rw [hslot])]

end Sys2Proof.Machine
end

section
/-!
PROOF. The excess timer's end (R70 to R76, R89): the pass it makes, the overload it reports, and the re-evaluation that
follows a pass that took the last channel waiting for a free slot.
-/

namespace Sys2Proof.Machine

section
variable {s t u : State} {c d : Chan}

/-! ### What a shed pass keeps -/

/-- A property that each step of a pass keeps, and its report. -/
theorem shedPass_keeps {P : State → Prop} (hstep : ∀ r c, P r → r.isShedCandidate c = true → P (r.shedStep c))
    (hend : ∀ r, P r → P r.endPass) (n : Nat) (hs : P s) : P (s.shedPass n) := by
  induction n generalizing s with
  | zero => exact hend s hs
  | succ n ih =>
    unfold State.shedPass
    split
    · exact hs
    · split
      · exact hend s hs
      · exact ih (hstep _ _ hs (isShedCandidate_of_shedCandidate ‹_›))

theorem shedPass_of_candidate (habove : s.ceiling < s.totalP) (h : s.shedCandidate = some c) (n : Nat) :
    s.shedPass (n + 1) = (s.shedStep c).shedPass n := by
  rw [State.shedPass, if_neg (Nat.not_le.2 habove), h]

theorem shedPass_of_within (h : s.totalP ≤ s.ceiling) (n : Nat) : s.shedPass (n + 1) = s := if_pos h

theorem shedPass_of_none (habove : s.ceiling < s.totalP) (h : s.shedCandidate = none) (n : Nat) :
    s.shedPass (n + 1) = s.endPass := by
  rw [State.shedPass, if_neg (Nat.not_le.2 habove), h]

theorem endPass_of_reported (h : s.totalP ≤ s.ceiling ∨ s.planner.overloadReported = true) : s.endPass = s := by
  unfold State.endPass
  rcases h with h | h
  · rw [if_neg (by simp [h])]
  · rw [if_neg (by simp [h])]

/-- R76: an excess that no shed can end is reported once. -/
theorem endPass_of_above (h : s.ceiling < s.totalP) : s.endPass = State.setExcess { s with
    ring := if s.planner.overloadReported = true then s.ring else s.ring.push (s.notice .overload none s.totalP s.ceiling) }
      s.planner.excess true := by
  by_cases hreported : s.planner.overloadReported = true
  · rw [endPass_of_reported (.inr hreported), if_pos hreported, ← hreported]
    rfl
  · unfold State.endPass
    rw [if_pos (by simp [h, hreported]), if_neg hreported]
    rfl

theorem endPass_slot : s.endPass.slot = s.slot := by
  unfold State.endPass
  split <;> rfl

theorem endPass_excess : s.endPass.planner.excess = s.planner.excess := by
  unfold State.endPass
  split <;> rfl

theorem endPass_restoreQuiet : s.endPass.planner.restoreQuiet = s.planner.restoreQuiet := by
  unfold State.endPass
  split <;> rfl

/-- R76: at the end of a pass that leaves an excess an overload stands reported. -/
theorem endPass_reported : s.endPass.totalP ≤ s.endPass.ceiling ∨ s.endPass.planner.overloadReported = true := by
  unfold State.endPass
  split
  · exact .inr rfl
  · rename_i h
    by_cases hreported : s.planner.overloadReported = true
    · exact .inr hreported
    · exact .inl (Nat.not_lt.1 fun k => h (by simp [k, hreported]))

theorem shedPass_reported (n : Nat) :
    (s.shedPass n).totalP ≤ (s.shedPass n).ceiling ∨ (s.shedPass n).planner.overloadReported = true := by
  induction n generalizing s with
  | zero =>
    unfold State.shedPass
    exact endPass_reported
  | succ n ih =>
    unfold State.shedPass
    split
    · exact .inl ‹_›
    · split
      · exact endPass_reported
      · exact ih

theorem cutTo_planner (c : Chan) (st : ChState) (r : Reason) : (s.cutTo c st r).planner = s.planner := by
  show (State.releaseSlot _ c).planner = _
  rw [State.releaseSlot_eq]
  rfl

theorem shedChannel_planner (c : Chan) (o : Origin) (r : Reason) (i : Intent) :
    (s.shedChannel c o r i).planner = s.planner := by
  unfold State.shedChannel
  split
  · rfl
  · exact cutTo_planner c .waiting r

theorem shedStep_excess (c : Chan) : (s.shedStep c).planner.excess = s.planner.excess := by
  unfold State.shedStep
  dsimp only
  split
  · rfl
  · have hkept := shedChannel_planner (s := s) c .shed .shed .waitShed
    generalize s.shedChannel c .shed .shed .waitShed = t at hkept ⊢
    show t.planner.excess = s.planner.excess
    rw [hkept]

theorem shedPass_excess (n : Nat) : (s.shedPass n).planner.excess = s.planner.excess :=
  shedPass_keeps (P := fun r => r.planner.excess = s.planner.excess) (fun _ c hr _ => (shedStep_excess c).trans hr)
    (fun _ hr => endPass_excess.trans hr) n rfl

/-- R131: a shed frees the slot or leaves it. -/
theorem shedStep_holder_of_free (h : s.slot.holder = none) : (s.shedStep c).slot.holder = none := by
  unfold State.shedStep State.shedChannel
  dsimp only
  split
  · exact h
  · split
    · exact h
    · show (s.cutTo c _ _).slot.holder = none
      rw [State.cutTo_slot]
      show (if s.slot.holder = some c then none else s.slot.holder) = none
      rw [h, ite_self]

theorem shedPass_holder (n : Nat) (h : s.slot.holder = none) : (s.shedPass n).slot.holder = none :=
  shedPass_keeps (P := fun r => r.slot.holder = none) (fun _ _ hr _ => shedStep_holder_of_free hr)
    (fun r hr => by rw [endPass_slot]; exact hr) n h

theorem State.QuietFresh.shedPass (hs : s.QuietFresh) (n : Nat) : (s.shedPass n).QuietFresh :=
  shedPass_keeps (P := State.QuietFresh) (fun _ c _ _ => shedStep_quietFresh c)
    (fun r hr => by
      unfold State.QuietFresh
      rw [endPass_restoreQuiet, (plannerOnly_endPass r).plan]
      exact hr) n hs

/-- R74: a channel that a pass has throttled waits or stays so, and one it has shed is left. -/
theorem shedPass_state (n : Nat) (h : (s.chan c).state = .throttled ∨ (s.chan c).state = .rundown ∨ (s.chan c).state = .waiting) :
    ((s.shedPass n).chan c).state = .throttled ∨ ((s.shedPass n).chan c).state = .rundown
      ∨ ((s.shedPass n).chan c).state = .waiting := by
  refine shedPass_keeps (P := fun r => (r.chan c).state = .throttled ∨ (r.chan c).state = .rundown ∨ (r.chan c).state = .waiting)
    (fun r d hr _ => ?_) (fun r hr => by rw [endPass_chan]; exact hr) n h
  by_cases hd : c = d
  · rw [← hd]
    exact (shedStep_state c).imp And.left id
  · rw [shedStep_chan_of_ne hd]
    exact hr

theorem shedPass_state_of_waiting (n : Nat) (h : (s.chan c).state = .waiting) : ((s.shedPass n).chan c).state = .waiting := by
  rw [shedPass_chan n]
  · exact h
  · unfold State.isShedCandidate
    rw [h]
    rfl

theorem shedStep_state_of_throttled (h : (s.chan c).state = .throttled) : ((s.shedStep c).chan c).state = .waiting := by
  unfold State.shedStep State.shedChannel
  dsimp only
  rw [if_neg (by rw [h]; nofun), if_neg (by rw [h]; nofun)]
  show ((s.cutTo c _ _).chan c).state = .waiting
  rw [cutTo_chan_self]

/-! ### The re-evaluation that the timer's end makes -/

theorem stageC_eq :
    ∃ b, (s.ceiling < s.totalP → b = s.planner.overloadReported) ∧ s.stageC = s.setExcess s.planner.excess b := by
  unfold State.stageC
  split
  · rename_i hwithin
    exact ⟨false, fun habove => absurd hwithin (Nat.not_le.2 habove), rfl⟩
  · exact ⟨_, fun _ => rfl, rfl⟩

/-- R70: the timer's end makes a pass, and no admission where the restore-quiet timer runs afterwards. -/
theorem reevaluate_expiry (hd : s.disc.device = .run) (h : ¬(s.stopExcess.shedPass passSteps).stageC.mayAdmit = true) :
    s.stopExcess.reevaluate .expiry = (s.stopExcess.shedPass passSteps).stageC :=
  (if_pos hd).trans (admission_of_not h _)

theorem exec_excess (h : s.planner.excess.isSome = true) :
    exec .excessTimerExpiry s = .next (s.stopExcess.reevaluateThen .expiry) := congrArg Host.Outcome.next (if_pos h)

theorem reevaluateThen_of_still (call : Call) (h : slotActs s (s.reevaluate call) = false) :
    s.reevaluateThen call = s.reevaluate call := if_neg (by rw [h]; nofun)

theorem not_mayAdmit_of_quiet (h : s.planner.restoreQuiet.isSome = true) : ¬s.mayAdmit = true := fun hm => by
  rw [(State.mayAdmit_iff.1 hm).2.2.2.2.2] at h
  cases h

theorem not_mayAdmit_of_above (h : s.ceiling < s.totalP) : ¬s.mayAdmit = true := fun hm =>
  absurd (State.mayAdmit_iff.1 hm).2.2.2.1 (Nat.not_le.2 h)

/-- R89: the re-evaluation that follows a pass which emptied the waiting set of a free slot. -/
theorem settle_of_passed (hd : s.disc.device = .run) (hempty : s.slot.waiting = []) (hquiet : s.planner.restoreQuiet.isSome = true)
    (hexcess : s.planner.excess = none) (hends : s.totalP ≤ s.ceiling ∨ s.shedCandidate = none)
    (hreported : s.totalP ≤ s.ceiling ∨ s.planner.overloadReported = true) :
    ∃ b, s.settle settleRounds true = s.setExcess
      (if s.ceiling < s.totalP ∧ s.plan.levels.settings.excessDwell ≠ 0 then Timer.s s.plan.levels.settings.excessDwell
        else none) b := by
  have hB : s.stageB .ordinary = s.setExcess
      (if s.ceiling < s.totalP ∧ s.plan.levels.settings.excessDwell ≠ 0 then Timer.s s.plan.levels.settings.excessDwell
        else none) s.planner.overloadReported := by
    unfold State.stageB
    dsimp only
    by_cases hwithin : s.totalP ≤ s.ceiling
    · rw [if_pos hwithin, if_neg fun k => absurd hwithin (Nat.not_le.2 k.1)]
      rfl
    · have habove := Nat.not_le.1 hwithin
      rw [if_neg hwithin, if_neg (by rw [hexcess]; nofun)]
      by_cases hdwell : s.plan.levels.settings.excessDwell = 0
      · rw [if_pos hdwell, if_neg fun k => k.2 hdwell, show passSteps = 31 + 1 from rfl,
          shedPass_of_none habove (hends.resolve_left hwithin), endPass_of_reported hreported, ← hexcess]
        rfl
      · rw [if_neg hdwell, if_pos ⟨habove, hdwell⟩]
        rfl
  generalize (if s.ceiling < s.totalP ∧ s.plan.levels.settings.excessDwell ≠ 0 then
    Timer.s s.plan.levels.settings.excessDwell else none) = x at hB ⊢
  obtain ⟨b, -, hC⟩ := stageC_eq (s := s.stageB .ordinary)
  rw [hB] at hC
  have hround : s.reevaluate .ordinary = s.setExcess x b := by
    have hcalm : (s.stageB .ordinary).stageC = s.setExcess x b := by
      rw [hB, hC]
      rfl
    refine (if_pos hd).trans ((admission_of_not (not_mayAdmit_of_quiet ?_) _).trans hcalm)
    rw [hcalm]
    exact hquiet
  have hquietSlot : s.SlotQuiet := .inr (.inl hempty)
  unfold settleRounds State.settle
  dsimp only
  rw [serveSlot_of_quiet hquietSlot, if_pos (Bool.true_or _), hround,
    if_neg (by rw [slotActs_of_slot (s := s) (t := s.setExcess x b) rfl]; nofun)]
  exact ⟨b, rfl⟩

theorem setExcess_totalP (x : Timer) (b : Bool) : (s.setExcess x b).totalP = s.totalP := rfl

theorem setExcess_ceiling (x : Timer) (b : Bool) : (s.setExcess x b).ceiling = s.ceiling := rfl

/-- R70, R89: all that the timer's end does, where the pass has left the restore-quiet timer running and the slot free. -/
theorem reevaluateThen_expiry (hd : s.disc.device = .run) (hfree : s.slot.holder = none) {p : State}
    (hp : s.stopExcess.shedPass passSteps = p) (hquiet : p.planner.restoreQuiet.isSome = true) :
    ∃ b, s.stopExcess.reevaluateThen .expiry = p.setExcess
      (if (s.slot.waiting ≠ [] ∧ p.slot.waiting = []) ∧ p.ceiling < p.totalP ∧ p.plan.levels.settings.excessDwell ≠ 0 then
        Timer.s p.plan.levels.settings.excessDwell else none) b := by
  have hexcess : p.planner.excess = none := by
    rw [← hp, shedPass_excess]
    rfl
  have hends := shedPass_ends (s := s.stopExcess) passSteps stepsLeft_le
  have hreported := shedPass_reported (s := s.stopExcess) passSteps
  have hholder : p.slot.holder = none := by
    rw [← hp]
    exact shedPass_holder _ hfree
  have hrun : p.disc.device = .run := by
    rw [← hp, (plannerOnly_shedPass s.stopExcess passSteps).disc]
    exact hd
  rw [hp] at hends hreported
  obtain ⟨b, hb, hC⟩ := stageC_eq (s := p)
  have hcalm : ¬(p.setExcess p.planner.excess b).mayAdmit = true := not_mayAdmit_of_quiet hquiet
  have hround := reevaluate_expiry hd (by rw [hp, hC]; exact hcalm)
  rw [hp, hC, hexcess] at hround
  have hacts : slotActs s.stopExcess (p.setExcess none b) = true ↔ s.slot.waiting ≠ [] ∧ p.slot.waiting = [] := by
    rw [slotActs_iff]
    exact ⟨fun k => k.2.resolve_left fun x => x hfree, fun k => ⟨hholder, .inr k⟩⟩
  by_cases hemptied : s.slot.waiting ≠ [] ∧ p.slot.waiting = []
  · have hsettle := settle_of_passed (s := p.setExcess none b) hrun hemptied.2 hquiet rfl hends
      ((Nat.lt_or_ge p.ceiling p.totalP).symm.imp id fun habove => ?_)
    · obtain ⟨b', hsettle⟩ := hsettle
      refine ⟨b', ?_⟩
      have hempty : (p.setExcess none b).slot.waiting.isEmpty = true := List.isEmpty_iff.2 hemptied.2
      unfold State.reevaluateThen
      dsimp only
      rw [setExcess_totalP, setExcess_ceiling, show (p.setExcess none b).plan = p.plan from rfl] at hsettle
      rw [hround, if_pos (hacts.2 hemptied), hempty, hsettle]
      simp only [hemptied, ne_eq, not_false_eq_true, true_and]
      rfl
    · exact (hb habove).trans (hreported.resolve_left (Nat.not_le.2 habove))
  · refine ⟨b, ?_⟩
    unfold State.reevaluateThen
    dsimp only
    rw [hround, if_neg fun k => hemptied (hacts.1 k), if_neg fun k => hemptied k.1]

end

/-- Settles O56. -/
theorem excessTimerSheds : Obligations.ExcessTimerSheds := by
  intro s hexcess hd
  have hexec := exec_excess hexcess
  refine ⟨fun hwithin hquiet => ?_, fun c habove hcand hfree => ?_, fun habove hnone => ?_⟩
  · have hpass : s.stopExcess.shedPass passSteps = s.stopExcess := shedPass_of_within (s := s.stopExcess) hwithin 31
    have hC : s.stopExcess.stageC = s.setExcess none false := if_pos hwithin
    have hround := reevaluate_expiry hd (by rw [hpass, hC]; exact not_mayAdmit_of_quiet hquiet)
    rw [hpass, hC] at hround
    have hacts : slotActs s.stopExcess (s.stopExcess.reevaluate .expiry) = false := by
      rw [hround]
      exact slotActs_of_slot rfl
    rw [hexec, reevaluateThen_of_still _ hacts, hround]
    rfl
  · have hothers : s.OthersKept (s.stopExcess.reevaluateThen .expiry) [] :=
      (works_reevaluateThen (s := s.stopExcess) .expiry).othersKept fun d _ => ⟨rfl, rfl, id, id, rfl⟩
    have hpass : s.stopExcess.shedPass passSteps = (s.stopExcess.shedStep c).shedPass 31 :=
      shedPass_of_candidate (s := s.stopExcess) habove hcand 31
    have hends := shedPass_ends (s := s.stopExcess) passSteps stepsLeft_le
    have hfresh := (shedStep_quietFresh (s := s.stopExcess) c).shedPass 31
    have hframe := plannerOnly_shedPass s.stopExcess passSteps
    have hstates := shedPass_state 31 ((shedStep_state (s := s.stopExcess) c).imp And.left id)
    have hthrottled := fun h : (s.chan c).state = .throttled =>
      shedPass_state_of_waiting 31 (shedStep_state_of_throttled (s := s.stopExcess) (c := c) h)
    rw [← hpass] at hfresh hstates hthrottled
    generalize hp : s.stopExcess.shedPass passSteps = p at *
    obtain ⟨b, ht⟩ := reevaluateThen_expiry hd hfree hp (by rw [hfresh]; rfl)
    have hplan : p.plan = s.plan := hframe.plan
    refine ⟨_, hexec, ?_⟩
    rw [ht] at hothers ⊢
    unfold State.QuietFresh at hfresh
    rw [hplan] at hfresh hothers ⊢
    refine ⟨hends, hstates, hthrottled, ?_, hfresh, ⟨hframe.pending, hframe.est, hframe.mail, hframe.level, hframe.sag,
      hframe.idle, hframe.aux, hframe.disc, hframe.link, hframe.plan, hframe.store, hframe.sys, hframe.overtaken⟩, hothers⟩
    simp only [and_assoc]
    rfl
  · have hpass : s.stopExcess.shedPass passSteps = s.stopExcess.endPass := shedPass_of_none (s := s.stopExcess) habove hnone 31
    have habove' : s.stopExcess.ceiling < s.stopExcess.totalP := habove
    have hend := endPass_of_above habove'
    have hstill := fun b r => slotActs_of_slot (s := s.stopExcess) (t := State.setExcess { s.stopExcess with ring := r } none b) rfl
    have hmay : ¬(s.stopExcess.endPass).mayAdmit = true := by
      rw [hend]
      exact not_mayAdmit_of_above habove
    have hC : s.stopExcess.endPass.stageC = s.stopExcess.endPass := by
      rw [hend]
      exact if_neg (Nat.not_le.2 habove)
    have hround := reevaluate_expiry hd (by rw [hpass, hC]; exact hmay)
    rw [hpass, hC, hend] at hround
    rw [hexec, reevaluateThen_of_still _ (by rw [hround]; exact hstill _ _), hround]
    rfl

end Sys2Proof.Machine
end

section
/-!
PROOF. The ends of idle timers (R148, R131) and the expiries that forced SWITCH ON requests overtook (R107, R150).
-/

namespace Sys2Proof.Machine

section
variable {s t u : State} {c d : Chan} {n : TimerIx}

/-! ### The off request of an idle timer (R131) -/

theorem aside_idleOff (h : d ≠ c) : s.Aside (s.idleOff c) d := by
  unfold State.idleOff
  split
  · split
    · exact aside_setChan h _
    · exact aside_cutTo h _ _
  · exact aside_cutTo h _ _
  · exact aside_cutTo h _ _
  · exact (aside_cutTo h _ _).trans (aside_removeEntry h)
  all_goals exact .refl s d

theorem idleOff_of_rundown (hst : (s.chan c).state = .on) (h : (s.crec c).rundownTimeout ≠ 0) :
    s.idleOff c = s.setChan c
      { s.chan c with
        state := .rundown, reason := .idle, intent := .off, doneStreak := 0, goodRun := none
        rundownTimer := some ⟨(s.crec c).rundownTimeout * 1000, (s.crec c).rundownTimeout * 1000⟩ } := by
  unfold State.idleOff
  rw [hst]
  exact if_pos (by simpa [ChannelRec.rundownConfigured] using h)

theorem turnedOff_idleOff (hst : ((s.chan c).state = .on ∧ (s.crec c).rundownTimeout = 0) ∨ (s.chan c).state = .starting
    ∨ (s.chan c).state = .throttled ∨ (s.chan c).state = .waiting) (h : (s.chan c).state = .waiting ∨ s.entry? c = none) :
    s.TurnedOff (s.idleOff c) c .idle := by
  have hentry : (s.chan c).state ≠ .waiting → s.entry? c = none := h.resolve_left
  unfold State.idleOff
  rcases hst with ⟨hst, hzero⟩ | hst | hst | hst <;> rw [hst]
  · dsimp only
    rw [if_neg (by simp [ChannelRec.rundownConfigured, hzero])]
    exact turnedOff_cutTo (hentry (by rw [hst]; nofun)) .idle
  · exact turnedOff_cutTo (hentry (by rw [hst]; nofun)) .idle
  · exact turnedOff_cutTo (hentry (by rw [hst]; nofun)) .idle
  · exact turnedOff_cutTo_removeEntry .idle

/-! ### Each member in turn (R148) -/

theorem aside_idleOffAll {cs : List Chan} (h : d ∉ cs) : s.Aside (s.idleOffAll cs) d := by
  induction cs generalizing s with
  | nil => exact .refl s d
  | cons c cs ih =>
    rw [List.mem_cons, not_or] at h
    exact (aside_idleOff h.1).trans (ih h.2)

/-- R148: a member is turned off in its turn, from a state that has left it, and then left. -/
theorem idleOffAll_of_mem {cs : List Chan} (h : c ∈ cs) (honce : cs.Nodup) :
    ∃ r, s.Aside r c ∧ (r.idleOff c).Aside (s.idleOffAll cs) c := by
  induction cs generalizing s with
  | nil => cases h
  | cons x xs ih =>
    rw [List.nodup_cons] at honce
    by_cases hx : c = x
    · subst hx
      exact ⟨s, .refl s c, aside_idleOffAll honce.1⟩
    · obtain ⟨r, hbefore, hafter⟩ := ih (s := s.idleOff x) ((List.mem_cons.1 h).resolve_left hx) honce.2
      exact ⟨r, (aside_idleOff hx).trans hbefore, hafter⟩

/-- R131: a member that no rundown keeps is off after all that follows the expiry. -/
theorem turnedOff_of_mem {cs : List Chan} (h : c ∈ cs) (honce : cs.Nodup) (k : (s.idleOffAll cs).Aside t c) (hw : t.Works u)
    (hst : ((s.chan c).state = .on ∧ (s.crec c).rundownTimeout = 0) ∨ (s.chan c).state = .starting
      ∨ (s.chan c).state = .throttled ∨ (s.chan c).state = .waiting)
    (hentry : (s.chan c).state = .waiting ∨ s.entry? c = none) :
    (u.chan c).state = .off ∧ (u.chan c).reason = .idle ∧ u.out c = false ∧ u.Unlisted c ∧ u.slot.holder ≠ some c := by
  obtain ⟨r, hbefore, hafter⟩ := idleOffAll_of_mem (s := s) h honce
  have hoff := ((turnedOff_idleOff (s := r) (by rw [hbefore.chan, crec_congr hbefore.plan]; exact hst)
    (by rw [hbefore.chan, hbefore.entry]; exact hentry)).aside (hafter.trans k)).works hw
  exact ⟨hoff.state, by rw [hoff.chan], hoff.out, hoff.unlisted, hoff.holder⟩

/-- R123: a member that runs down. -/
theorem rundown_of_mem {cs : List Chan} (h : c ∈ cs) (honce : cs.Nodup) (k : (s.idleOffAll cs).Aside t c) (hw : t.Works u)
    (hst : (s.chan c).state = .on) (htimeout : (s.crec c).rundownTimeout ≠ 0) (hu : s.Unlisted c) : u.chan c =
      { s.chan c with
        state := .rundown, reason := .idle, intent := .off, doneStreak := 0, goodRun := none
        rundownTimer := some ⟨(s.crec c).rundownTimeout * 1000, (s.crec c).rundownTimeout * 1000⟩ } := by
  obtain ⟨r, hbefore, hafter⟩ := idleOffAll_of_mem (s := s) h honce
  rw [idleOff_of_rundown (by rw [hbefore.chan]; exact hst) (by rw [crec_congr hbefore.plan]; exact htimeout), hbefore.chan,
    crec_congr hbefore.plan] at hafter
  have hself := State.chan_setChan_self r c { s.chan c with
    state := .rundown, reason := .idle, intent := .off, doneStreak := 0, goodRun := none
    rundownTimer := some ⟨(s.crec c).rundownTimeout * 1000, (s.crec c).rundownTimeout * 1000⟩ }
  exact (hw.chan_of_leftAlone (hafter.trans k) (hbefore.unlisted hu)
    (by rw [hself]; exact Channel.leftAlone_of_rundown rfl _)).trans hself

theorem aside_idleTurned (c : Chan) : (s.idleOffAll (s.affectedMembers s.plan.timers[n])).Aside (s.idleTurned n) c := by
  unfold State.idleTurned
  generalize s.idleOffAll (s.affectedMembers s.plan.timers[n]) = off
  exact ⟨rfl, rfl, id, id, rfl⟩

theorem aside_overtakenTurned (c : Chan) : (s.idleOffAll (s.overtakenMembers n)).Aside (s.overtakenTurned n) c := by
  unfold State.overtakenTurned
  generalize s.idleOffAll (s.overtakenMembers n) = off
  exact ⟨rfl, rfl, id, id, rfl⟩

/-! ### The members (R148, R107) -/

theorem affectedMembers_eq (r : TimerRec) : s.affectedMembers r =
    allChans.filter fun c => r.isMember c && ((s.chan c).state = .on || (s.chan c).state = .starting
      || (s.chan c).state = .throttled || (s.chan c).state = .waiting) := by
  unfold State.affectedMembers
  refine List.filter_congr fun c _ => congrArg (r.isMember c && ·) ?_
  cases (s.chan c).state <;> rfl

theorem mem_affectedMembers {r : TimerRec} : c ∈ s.affectedMembers r ↔ r.isMember c = true
    ∧ ((s.chan c).state = .on ∨ (s.chan c).state = .starting ∨ (s.chan c).state = .throttled ∨ (s.chan c).state = .waiting) := by
  rw [affectedMembers_eq, List.mem_filter]
  simp [mem_allChans, or_assoc]

theorem affectedMembers_nodup (r : TimerRec) : (s.affectedMembers r).Nodup := allChans_nodup.filter _

theorem overtakenMembers_nodup (n : TimerIx) : (s.overtakenMembers n).Nodup := allChans_nodup.filter _

theorem mem_overtakenMembers : c ∈ s.overtakenMembers n ↔ (n, c) ∈ s.overtaken
    ∧ ((s.chan c).state = .starting ∨ ((s.chan c).state = .waiting ∧ (s.entry? c).any (·.forced) = true)) := by
  unfold State.overtakenMembers State.overtakenFinds
  rw [List.mem_filter]
  simp [mem_allChans]

/-- R148: the notice of the expiry. -/
theorem idleTurned_ring (n : TimerIx) : (s.idleTurned n).ring = s.ring.push (s.notice .idleOff (some n.val)
    (allChans.filter fun c => s.plan.timers[n].isMember c && ((s.chan c).state = .on || (s.chan c).state = .starting
      || (s.chan c).state = .throttled || (s.chan c).state = .waiting)).length s.plan.timers[n].terminal) := by
  have hring := idleOffAll_ring (s := s) (s.affectedMembers s.plan.timers[n])
  have hsys := (plannerOnly_idleOffAll s (s.affectedMembers s.plan.timers[n])).sys
  unfold State.idleTurned State.notice
  generalize s.idleOffAll (s.affectedMembers s.plan.timers[n]) = off at hring hsys ⊢
  show off.ring.push ⟨_, off.sys.uptime, _, _, _⟩ = _
  rw [hring, hsys, affectedMembers_eq]

theorem idleDue_iff : s.idleDue n = true ↔ s.idle[n].state = .running ∧ s.idle[n].count = 0 ∧ s.disc.device = .run := by
  simp [State.idleDue, and_assoc]

end

/-- Settles O58. -/
theorem idleTimerTurnsItsMembersOff : Obligations.IdleTimerTurnsItsMembersOff := by
  intro s n
  refine ⟨fun hrunning hcount hd => ?_, fun hnot hnone => ?_, fun k hk hd hnot => ?_⟩
  · have hexec : exec (.idleTimerExpiry n) s = .next (s.finish (s.idleTurned n) false) :=
      congrArg Host.Outcome.next (if_pos (idleDue_iff.2 ⟨hrunning, hcount, hd⟩))
    have hworks := works_finish (s := s.idleTurned n) s false
    have hturned := plannerOnly_idleTurned (s := s) n
    have hframe := hturned.trans hworks.plannerOnly
    have honce := affectedMembers_nodup (s := s) s.plan.timers[n]
    have hafter := aside_idleTurned (s := s) (n := n)
    have hring := idleTurned_ring (s := s) n
    generalize s.finish _ false = t at hexec hworks hframe
    refine ⟨t, hexec, ?_, fun k hk => ?_, State.Pushes.pushed hring hworks.pushes, fun c hmember hentry => ⟨?_, ?_⟩,
      fun c hout hu hleft => ?_, hframe.overtaken, ?_⟩
    · rw [hframe.idle]
      exact Vector.getElem_set_self n.isLt
    · rw [hframe.idle]
      exact Vector.getElem_set_ne n.isLt k.isLt fun x => hk (Fin.ext x.symm)
    · exact fun hon htimeout hu =>
        rundown_of_mem (mem_affectedMembers.2 ⟨hmember, .inl hon⟩) honce (hafter c) hworks hon htimeout hu
    · exact fun hst => turnedOff_of_mem (mem_affectedMembers.2 ⟨hmember, hst.imp And.left id⟩) honce (hafter c) hworks hst hentry
    · refine hworks.chan_of_leftAlone ((aside_idleOffAll fun hmem => ?_).trans (hafter c)) hu hleft
      obtain ⟨hmember, hst⟩ := mem_affectedMembers.1 hmem
      obtain ⟨hthrottled, hwaiting, -⟩ := Channel.leftAlone_states hleft
      rcases hout with hout | ⟨hon, hstarting⟩
      · rw [hout] at hmember
        cases hmember
      · exact hst.elim hon fun x => x.elim hstarting fun y => y.elim hthrottled hwaiting
    · rw [hframe.idle, hframe.overtaken]
      exact hframe
  · have hdue : ¬s.idleDue n = true := by
      rw [idleDue_iff]
      tauto
    refine congrArg Host.Outcome.next ((if_neg hdue).trans (if_neg ?_))
    rw [Bool.and_eq_true, decide_eq_true_eq, List.any_eq_true]
    rintro ⟨hd, ⟨m, c⟩, hmem, hm⟩
    rw [decide_eq_true_eq] at hm
    exact hnone.elim (fun h => h c (hm ▸ hmem)) fun h => h hd
  · have hdue : ¬s.idleDue n = true := by
      rw [idleDue_iff]
      tauto
    have hexec : exec (.idleTimerExpiry n) s = .next (s.finish (s.overtakenTurned n) false) := by
      refine congrArg Host.Outcome.next ((if_neg hdue).trans (if_pos ?_))
      rw [Bool.and_eq_true, decide_eq_true_eq, List.any_eq_true]
      exact ⟨hd, (n, k), hk, decide_eq_true rfl⟩
    have hworks := works_finish (s := s.overtakenTurned n) s false
    have hframe := (plannerOnly_overtakenTurned (s := s) n).trans hworks.plannerOnly
    have honce := overtakenMembers_nodup (s := s) n
    have hafter := aside_overtakenTurned (s := s) (n := n)
    generalize s.finish _ false = t at hexec hworks hframe
    refine ⟨t, hexec, hframe.overtaken, fun c hmem hfinds => ?_, fun c hout hu hleft => ?_, ?_⟩
    · rcases hfinds with ⟨e, hst, he, hforced⟩ | ⟨hst, hentry⟩
      · exact turnedOff_of_mem (mem_overtakenMembers.2 ⟨hmem, .inr ⟨hst, by rw [he]; exact hforced⟩⟩) honce (hafter c) hworks
          (.inr (.inr (.inr hst))) (.inl hst)
      · exact turnedOff_of_mem (mem_overtakenMembers.2 ⟨hmem, .inl hst⟩) honce (hafter c) hworks (.inr (.inl hst)) (.inr hentry)
    · refine hworks.chan_of_leftAlone ((aside_idleOffAll fun hmem => ?_).trans (hafter c)) hu hleft
      obtain ⟨hlisted, hst⟩ := mem_overtakenMembers.1 hmem
      obtain ⟨-, hwaiting, -⟩ := Channel.leftAlone_states hleft
      rcases hst with hst | ⟨hst, -⟩
      · exact hout.elim (fun h => h hlisted) fun h => h hst
      · exact hwaiting hst
    · rw [hframe.overtaken]
      exact hframe

end Sys2Proof.Machine
end

section
/-!
PROOF. The restore-quiet timer's end (R80 to R84, R129): the one re-evaluation it makes, by the first choice.
-/

namespace Sys2Proof.Machine

section
variable {s t u : State} {c d : Chan} {e f : Entry}

/-! ### Stage D by the first choice (R81 to R84) -/

theorem admission_of_none (h : s.firstChoice = none) (n : Nat) : s.admission n = s := by
  cases n with
  | zero => rfl
  | succ n =>
    unfold State.admission
    rw [h]
    exact ite_self s

theorem admission_of_entry (hm : s.mayAdmit = true) (h : s.firstChoice = some (.entry e))
    (hfits : s.fits (s.need (.entry e)) = true) (n : Nat) : s.admission (n + 1) = s.admitEntry e.channel 1 := by
  unfold State.admission
  rw [if_pos hm, h]
  exact if_pos hfits

theorem admission_of_throttled (hm : s.mayAdmit = true) (h : s.firstChoice = some (.throttled c))
    (hfits : s.fits (s.need (.throttled c)) = true) (n : Nat) : s.admission (n + 1) = (s.unthrottleChoice c).admission n := by
  rw [State.admission, if_pos hm, h]
  exact if_pos hfits

theorem admission_of_passed {x : Contender} (hm : s.mayAdmit = true) (h : s.firstChoice = some x)
    (hfits : ¬s.fits (s.need x) = true) (hpass : (s.behind x).find? s.passesBy = some f) (n : Nat) :
    s.admission (n + 1) = s.admitEntry f.channel 2 := by
  unfold State.admission
  rw [if_pos hm, h]
  dsimp only
  rw [if_neg hfits, hpass]

theorem admission_of_stuck {x : Contender} (hm : s.mayAdmit = true) (h : s.firstChoice = some x)
    (hfits : ¬s.fits (s.need x) = true) (hpass : (s.behind x).find? s.passesBy = none) (n : Nat) : s.admission (n + 1) = s := by
  unfold State.admission
  rw [if_pos hm, h]
  dsimp only
  rw [if_neg hfits, hpass]

theorem firstChoice_of_entry {more : List Entry} (h : s.unheld = e :: more)
    (hfirst : ∀ c : Chan, (s.chan c).state = .throttled → e.forced = true ∨ s.rank c < s.rank e.channel) :
    s.firstChoice = some (.entry e) := by
  unfold State.firstChoice
  rw [h]
  cases hbest : s.bestThrottled with
  | none => rfl
  | some c => exact if_pos (by simpa using hfirst c (state_of_bestThrottled hbest))

theorem firstChoice_of_throttled (h : s.bestThrottled = some c)
    (hfirst : ∀ (e : Entry) (more : List Entry), s.unheld = e :: more → e.forced = false ∧ s.rank e.channel ≤ s.rank c) :
    s.firstChoice = some (.throttled c) := by
  unfold State.firstChoice
  rw [h]
  cases hunheld : s.unheld with
  | nil => rfl
  | cons e more =>
    obtain ⟨hforced, hrank⟩ := hfirst e more hunheld
    exact if_neg (by simp [hforced, hrank])

theorem firstChoice_of_none (h : s.unheld = []) (hnone : ∀ c : Chan, (s.chan c).state ≠ .throttled) :
    s.firstChoice = none := by
  have hbest : s.bestThrottled = none := by
    by_contra hsome
    obtain ⟨c, hc⟩ := Option.ne_none_iff_exists'.1 hsome
    exact hnone c (state_of_bestThrottled hc)
  unfold State.firstChoice
  rw [h, hbest]
  rfl

/-! ### The re-evaluation with P at or below D and both timers stopped -/

/-- R70, R76, R80: the timers stopped and the overload flag cleared. -/
def State.quieted (s : State) : State := { s with planner := ⟨none, none, false⟩ }

theorem mayAdmit_quieted (hd : s.disc.device = .run) (hslot : s.slot = ⟨none, []⟩) (hwithin : s.totalP ≤ s.ceiling)
    (hsag : s.sag.state = .clear) : s.quieted.mayAdmit = true :=
  State.mayAdmit_iff.2 ⟨hd, congrArg Slot.holder hslot, congrArg Slot.waiting hslot, hwithin, hsag, rfl⟩

/-- R69, R80: a re-evaluation with P at or below D and the slot free and nobody waiting for it is its stage D. -/
theorem settle_of_within (hd : s.disc.device = .run) (hslot : s.slot = ⟨none, []⟩) (hwithin : s.totalP ≤ s.ceiling) :
    s.settle settleRounds true = (s.setExcess none false).admission admissionRounds := by
  have hB : s.stageB .ordinary = s.stopExcess := by
    unfold State.stageB
    dsimp only
    rw [if_pos hwithin]
  have hC : s.stopExcess.stageC = s.setExcess none false := by
    have hkept : s.stopExcess.totalP ≤ s.stopExcess.ceiling := hwithin
    unfold State.stageC
    rw [if_pos hkept]
    rfl
  have hround : s.reevaluate .ordinary = (s.setExcess none false).admission admissionRounds := by
    refine (if_pos hd).trans ?_
    rw [hB, hC]
  have hacts : ¬slotActs s ((s.setExcess none false).admission admissionRounds) = true := by
    rw [slotActs_iff, hslot]
    exact fun k => k.2.elim (fun x => x rfl) fun x => x.1 rfl
  unfold settleRounds State.settle
  dsimp only
  rw [serveSlot_of_quiet (.inr (.inl (by rw [hslot]))), if_pos (Bool.true_or _), hround, if_neg hacts]

/-- R80: the timer's end makes stage D and nothing else. -/
theorem exec_restoreQuiet (h : s.planner.restoreQuiet.isSome = true) (hd : s.disc.device = .run) (hslot : s.slot = ⟨none, []⟩)
    (hwithin : s.totalP ≤ s.ceiling) : exec .restoreQuietExpiry s = .next (s.quieted.admission admissionRounds) :=
  congrArg Host.Outcome.next ((if_pos h).trans
    (settle_of_within (s := { s with planner := { s.planner with restoreQuiet := none } }) hd hslot hwithin))

theorem startFromWaiting_slot (c : Chan) : (s.startFromWaiting c).slot = ⟨some c, s.slot.waiting⟩ :=
  State.removeEntry_slot _ c

theorem startFromWaiting_standby (h : s.standby.Lists c) : (s.startFromWaiting c).standby =
    ⟨s.standby.entries.filter (fun x => x.channel ≠ c), nextVersion s.standby.version⟩ := by
  unfold State.startFromWaiting
  exact State.removeEntry_of_lists (s := State.setHolder (s.setChan c _) (some c)) h

/-- R84: an admission into the free slot. -/
theorem admittedAs_admitEntry (hslot : s.slot = ⟨none, []⟩) (he : e ∈ s.unheld) (k : Nat) :
    s.AdmittedAs e k (s.admitEntry e.channel k) where
  chan := admitEntry_chan_self e.channel k
  others d hd := (aside_admitEntry hd k).chan
  slot := by
    refine (startFromWaiting_slot e.channel).trans ?_
    rw [hslot]
  standby := startFromWaiting_standby (State.lists_of_mem_unheld he)
  ring := by
    have hring := startFromWaiting_ring (s := s) e.channel
    have hsys := (plannerOnly_startFromWaiting s e.channel).sys
    unfold State.admitEntry
    dsimp only
    generalize s.startFromWaiting e.channel = t at hring hsys ⊢
    show t.ring.push ⟨_, t.sys.uptime, _, _, _⟩ = _
    rw [hring, hsys]
    rfl
  kept := plannerOnly_admitEntry s e.channel k

theorem startFromWaiting_planner (c : Chan) : (s.startFromWaiting c).planner = s.planner := by
  unfold State.startFromWaiting State.removeEntry
  dsimp only
  split <;> rfl

/-! ### Unthrottling (R129) -/

theorem unthrottle_planner (c : Chan) : (s.unthrottle c).planner = s.planner := by
  unfold State.unthrottle
  split <;> rfl

/-- R84: stage D leaves the Planner's timers. -/
theorem admission_planner (n : Nat) : (s.admission n).planner = s.planner := by
  induction n generalizing s with
  | zero => rfl
  | succ n ih =>
    unfold State.admission
    split
    · split
      · rfl
      · split
        · split
          · exact startFromWaiting_planner _
          · exact ih.trans (unthrottle_planner _)
        · split
          · rfl
          · exact startFromWaiting_planner _
    · rfl

/-- R67: P after one channel's part in it has changed. -/
theorem totalP_setChan (c : Chan) (ch : Channel) :
    s.projected c + (s.setChan c ch).totalP = projectedOf (s.crec c) ch + s.totalP := by
  have hself : (s.setChan c ch).projected c = projectedOf (s.crec c) ch := by
    unfold State.projected
    rw [State.chan_setChan_self]
    rfl
  have hothers : (allChans.erase c).map (s.setChan c ch).projected = (allChans.erase c).map s.projected := by
    refine List.map_congr_left fun d hd => ?_
    unfold State.projected
    rw [State.chan_setChan_of_ne s c d ch (allChans_nodup.mem_erase_iff.1 hd).1]
    rfl
  have hbefore := List.sum_map_erase s.projected (mem_allChans c)
  have hafter := List.sum_map_erase (s.setChan c ch).projected (mem_allChans c)
  rw [hself, hothers] at hafter
  unfold State.totalP
  omega

theorem fits_iff (n : Nat) : s.fits n = true ↔ s.totalP + n + s.plan.levels.settings.margin ≤ s.ceiling := decide_eq_true_iff

theorem quieted_fits (n : Nat) : s.quieted.fits n = s.fits n := rfl

theorem quieted_unheld : s.quieted.unheld = s.unheld := rfl

theorem quieted_bestThrottled : s.quieted.bestThrottled = s.bestThrottled := rfl

theorem quieted_passesBy : s.quieted.passesBy = s.mayPass := rfl

theorem quieted_plannerOnly (h : s.quieted.PlannerOnly t) : s.PlannerOnly t :=
  ⟨h.pending, h.est, h.mail, h.level, h.sag, h.idle, h.aux, h.disc, h.link, h.plan, h.store, h.sys, h.overtaken⟩

/-- R84: an admission from the state in which stage D is made. -/
theorem admittedAs_quieted (hslot : s.slot = ⟨none, []⟩) (he : e ∈ s.unheld) (k : Nat) :
    s.AdmittedAs e k (s.quieted.admitEntry e.channel k) ∧ (s.quieted.admitEntry e.channel k).planner = ⟨none, none, false⟩ := by
  have h := admittedAs_admitEntry (s := s.quieted) hslot he k
  exact ⟨⟨h.chan, h.others, h.slot, h.standby, h.ring, quieted_plannerOnly h.kept⟩, startFromWaiting_planner e.channel⟩

/-- R129: an unthrottling out of REST takes the slot, after which nothing more is admitted. -/
theorem startFromRest_eq (hslot : s.slot = ⟨none, []⟩) (c : Chan) : s.startFromRest c =
    { s.setChan c { (s.chan c).close (s.crec c) with
        state := .starting, phase := .none, unthrottlePending := false, offTimer := none } with
      slot := ⟨some c, []⟩ } := by
  unfold State.startFromRest State.leaveWaiting State.setHolder
  show ({ State.setChan s c _ with slot := _ } : State) = _
  rw [show (State.setChan s c _).slot = ⟨none, []⟩ from hslot]
  rfl

theorem unthrottle_of_rest (h : (s.chan c).phase ≠ .run) : s.unthrottle c = s.startFromRest c := if_neg h

theorem unthrottle_of_run (h : (s.chan c).phase = .run) : s.unthrottle c = s.setChan c (s.chan c).toOn := if_pos h

/-- R84: the notice of an unthrottling. -/
theorem unthrottleChoice_ring (c : Chan) : (s.unthrottleChoice c).ring =
    s.ring.push (s.notice .restore (some c.val) 3 (s.unthrottle c).totalP) := by
  have hring := unthrottle_ring (s := s) c
  have hsys := (plannerOnly_unthrottle s c).sys
  unfold State.unthrottleChoice
  dsimp only
  generalize s.unthrottle c = t at hring hsys ⊢
  show t.ring.push ⟨_, t.sys.uptime, _, _, _⟩ = _
  rw [hring, hsys]
  rfl

theorem aside_unthrottleChoice (c d : Chan) : (s.unthrottle c).Aside (s.unthrottleChoice c) d := aside_push _ _ _ _ d

theorem unthrottleChoice_slot (c : Chan) : (s.unthrottleChoice c).slot = (s.unthrottle c).slot := rfl

theorem unthrottleChoice_planner (c : Chan) : (s.unthrottleChoice c).planner = s.planner := unthrottle_planner c

theorem projected_le_totalP (c : Chan) : s.projected c ≤ s.totalP := by
  have hsum := List.sum_map_erase s.projected (mem_allChans c)
  unfold State.totalP
  omega

/-- R129, R67: P after an unthrottling out of RUN. -/
theorem totalP_toOn (hst : (s.chan c).state = .throttled) :
    (s.setChan c (s.chan c).toOn).totalP = s.totalP - s.accounted c + (s.chan c).m := by
  have hbefore : s.projected c = s.accounted c := if_neg (by rw [hst]; nofun)
  have hafter : projectedOf (s.crec c) (s.chan c).toOn = (s.chan c).m := rfl
  have hsum := totalP_setChan (s := s) c (s.chan c).toOn
  have hle := projected_le_totalP (s := s) c
  omega

end

/-- Settles O57. -/
theorem restoreQuietAdmits : Obligations.RestoreQuietAdmits := by
  intro s hquiet hd hslot hwithin hsag
  have hexec : exec .restoreQuietExpiry s = .next (s.quieted.admission (16 + 1)) := exec_restoreQuiet hquiet hd hslot hwithin
  have hm := mayAdmit_quieted hd hslot hwithin hsag
  refine ⟨fun e more hunheld hfirst => ?_, fun hheld hnone => ?_, fun c hbest hfirst => ?_⟩
  · have hchoice : s.quieted.firstChoice = some (.entry e) := firstChoice_of_entry (s := s.quieted) hunheld hfirst
    have hbehind : s.quieted.behind (.entry e) = more := by
      show List.drop 1 s.unheld = more
      rw [State.unheld, hunheld]
      rfl
    have hneed : s.quieted.fits (s.quieted.need (.entry e)) = s.fits (s.crec e.channel).demand := rfl
    refine ⟨fun hfits => ?_, fun f hfits hpass => ?_, fun hfits hpass => ?_⟩
    · rw [hexec, admission_of_entry hm hchoice (hneed.trans ((fits_iff _).2 hfits))]
      exact ⟨_, rfl, admittedAs_quieted hslot (by rw [State.unheld, hunheld]; exact List.mem_cons_self) 1⟩
    · have hnot : ¬s.quieted.fits (s.quieted.need (.entry e)) = true := by
        rw [hneed, fits_iff]
        exact Nat.not_le.2 hfits
      rw [hexec, admission_of_passed hm hchoice hnot (by rw [hbehind, quieted_passesBy]; exact hpass)]
      refine ⟨_, rfl, admittedAs_quieted hslot ?_ 2⟩
      rw [State.unheld, hunheld]
      exact List.mem_cons_of_mem e (List.mem_of_find?_eq_some hpass)
    · have hnot : ¬s.quieted.fits (s.quieted.need (.entry e)) = true := by
        rw [hneed, fits_iff]
        exact Nat.not_le.2 hfits
      rw [hexec, admission_of_stuck hm hchoice hnot (by
        rw [hbehind, quieted_passesBy, List.find?_eq_none]
        exact fun f hf => by rw [hpass f hf]; nofun)]
      rfl
  · rw [hexec, admission_of_none (firstChoice_of_none (s := s.quieted) ?_ hnone)]
    · rfl
    · exact List.filter_eq_nil_iff.2 fun e he => by rw [hheld e he]; nofun
  · have hchoice : s.quieted.firstChoice = some (.throttled c) :=
      firstChoice_of_throttled (s := s.quieted) hbest hfirst
    have hst := state_of_bestThrottled hbest
    have hneed : s.quieted.fits (s.quieted.need (.throttled c)) = s.fits ((s.crec c).demand - s.accounted c) := rfl
    have hframe := quieted_plannerOnly (plannerOnly_unthrottleChoice s.quieted c)
    refine ⟨fun hfits hphase => ?_, fun hfits hphase hentry => ?_, fun f hfits hpass => ?_, fun hfits hpass => ?_⟩
    · rw [hexec, admission_of_throttled hm hchoice (hneed.trans ((fits_iff _).2 hfits))]
      have hrest := (unthrottle_of_rest (s := s.quieted) hphase).trans (startFromRest_eq (s := s.quieted) hslot c)
      have hslotAfter : (s.quieted.unthrottleChoice c).slot = ⟨some c, []⟩ := by rw [unthrottleChoice_slot, hrest]
      rw [admission_of_not fun k => by rw [State.mayAdmit_iff, hslotAfter] at k; cases k.2.1]
      refine ⟨_, rfl, ?_, fun d hd => ?_, hslotAfter, unthrottle_standby c, unthrottleChoice_planner c,
        unthrottleChoice_ring c, hframe⟩
      · rw [(aside_unthrottleChoice c c).chan, hrest]
        exact State.chan_setChan_self s c _
      · exact ((aside_unthrottle (s := s.quieted) hd).trans (aside_unthrottleChoice c d)).chan
    · rw [hexec, admission_of_throttled hm hchoice (hneed.trans ((fits_iff _).2 hfits))]
      have hrun := unthrottle_of_run (s := s.quieted) hphase
      have hchan : (s.quieted.unthrottleChoice c).chan c = (s.chan c).toOn := by
        rw [(aside_unthrottleChoice c c).chan, hrun]
        exact State.chan_setChan_self s c _
      have hunlisted : (s.quieted.unthrottleChoice c).Unlisted c := by
        refine (aside_unthrottleChoice c c).unlisted ?_
        rw [hrun]
        exact unlisted_of hentry (show c ∉ s.slot.waiting by rw [hslot]; nofun)
      have hring := unthrottleChoice_ring (s := s.quieted) c
      have htotal : (s.quieted.setChan c (s.quieted.chan c).toOn).totalP = s.totalP - s.accounted c + (s.chan c).m :=
        totalP_toOn (s := s.quieted) hst
      rw [hrun, htotal] at hring
      have hworks := works_admission (s := s.quieted.unthrottleChoice c) 16
      have hkept := aside_admission (by rw [hchan]; nofun) hunlisted 16
      refine ⟨_, rfl, hkept.chan.trans hchan, State.Pushes.pushed hring hworks.pushes,
        (admission_planner 16).trans (unthrottleChoice_planner c), hframe.trans hworks.plannerOnly,
        hworks.othersKept fun d hd => ?_⟩
      have hother := (aside_unthrottle (s := s.quieted) (List.ne_of_not_mem_cons hd)).trans (aside_unthrottleChoice c d)
      exact ⟨hother.chan, hother.entry, hother.waits, hother.holder, hother.plan⟩
    · have hnot : ¬s.quieted.fits (s.quieted.need (.throttled c)) = true := by
        rw [hneed, fits_iff]
        exact Nat.not_le.2 hfits
      rw [hexec, admission_of_passed hm hchoice hnot (by rw [quieted_passesBy]; exact hpass)]
      exact ⟨_, rfl, admittedAs_quieted hslot (List.mem_of_find?_eq_some hpass) 2⟩
    · have hnot : ¬s.quieted.fits (s.quieted.need (.throttled c)) = true := by
        rw [hneed, fits_iff]
        exact Nat.not_le.2 hfits
      rw [hexec, admission_of_stuck hm hchoice hnot (by
        rw [quieted_passesBy, List.find?_eq_none]
        intro f hf
        obtain ⟨hmem, hheld⟩ := List.mem_filter.1 hf
        rw [hpass f hmem (by simpa using hheld)]
        nofun)]
      rfl

end Sys2Proof.Machine
end

section
/-!
PROOF. SET_CHANNEL (R58 to R65, R102, R130): what the owner makes of the record and the live channel, and all that follows.
-/

namespace Sys2Proof.Machine

section
variable {s t u : State} {c d : Chan} {r old new : ChannelRec} {rest : List Byte} {raw : RawChannel}

/-! ### What the owner answers (R58, R59) -/

theorem editChannel_of_carried (h : channelFromBody (s.crec c) rest = some raw) (hvalid : raw.valid = true)
    (hd : deactivates (s.crec c) raw.fields = false) :
    s.editChannel c.val rest = ((s.setCrec c raw.fields).carryEdit c (s.crec c) raw.fields, .ok) := by
  unfold State.editChannel
  rw [dif_pos c.isLt]
  dsimp only [Fin.eta]
  rw [h]
  dsimp only
  rw [if_neg (by simp [hvalid]), if_neg (by simp [hd])]

theorem editChannel_of_deactivated (h : channelFromBody (s.crec c) rest = some raw) (hvalid : raw.valid = true)
    (hd : deactivates (s.crec c) raw.fields = true) (hst : (s.chan c).state = .off ∨ (s.chan c).state = .locked) :
    s.editChannel c.val rest = ((s.setCrec c raw.fields).setChan c (s.chan c).deactivated, .ok) := by
  unfold State.editChannel
  rw [dif_pos c.isLt]
  dsimp only [Fin.eta]
  rw [h]
  dsimp only
  rw [if_neg (by simp [hvalid]), if_pos hd, if_pos (by simpa using hst)]

theorem editChannel_of_used (h : channelFromBody (s.crec c) rest = some raw) (hvalid : raw.valid = true)
    (hd : deactivates (s.crec c) raw.fields = true) (hoff : (s.chan c).state ≠ .off) (hlocked : (s.chan c).state ≠ .locked) :
    s.editChannel c.val rest = (s, .notAllowed) := by
  unfold State.editChannel
  rw [dif_pos c.isLt]
  dsimp only [Fin.eta]
  rw [h]
  dsimp only
  rw [if_neg (by simp [hvalid]), if_pos hd, if_neg (by simp [hoff, hlocked])]

theorem editChannel_of_invalid (h : channelFromBody (s.crec c) rest = none
    ∨ ∃ raw, channelFromBody (s.crec c) rest = some raw ∧ raw.valid = false) : s.editChannel c.val rest = (s, .invalid) := by
  unfold State.editChannel
  rw [dif_pos c.isLt]
  dsimp only [Fin.eta]
  rcases h with h | ⟨raw, h, hvalid⟩
  · rw [h]
  · rw [h]
    dsimp only
    rw [if_pos (by simp [hvalid])]

/-! ### The live effects (R61 to R65) -/

theorem carryEdit_of_moved (hst : (s.chan c).state = .waiting) (h : old.rank ≠ new.rank) :
    s.carryEdit c old new = s.repositionEntry c := if_pos (by simp [hst, h])

theorem carryEdit_of_unthrottled (hst : (s.chan c).state = .throttled) (h : unthrottles old new = true) :
    s.carryEdit c old new = s.editUnthrottle c := by
  unfold State.carryEdit
  rw [if_neg (by rw [hst]; nofun), if_pos (by rw [hst, h]; rfl)]

theorem carryEdit_of_kept (hwaits : (s.chan c).state = .waiting → old.rank = new.rank)
    (hst : (s.chan c).state ≠ .throttled) : s.carryEdit c old new = s := by
  unfold State.carryEdit
  rw [if_neg, if_neg (by simp [hst])]
  simp only [Bool.and_eq_true, decide_eq_true_eq, not_and, not_not]
  exact hwaits

theorem aside_carryEdit (h : d ≠ c) : s.Aside (s.carryEdit c old new) d := by
  unfold State.carryEdit
  split
  · unfold State.repositionEntry
    split
    · exact .refl s d
    · rename_i e he
      have hchannel : e.channel = c := by simpa using List.find?_some he
      refine ⟨rfl, ?_, id, id, rfl⟩
      show (placeEntry s.rank e _).find? _ = _
      rw [find?_placeEntry_of_ne _ (by rw [hchannel]; exact fun k => h k.symm), find?_filter_of_ne h]
      rfl
  · split
    · exact aside_editUnthrottle h
    · exact .refl s d

theorem askSlot_planner (c : Chan) : (s.askSlot c).planner = s.planner := by
  unfold State.askSlot
  split
  · exact grantSlot_planner c
  · split <;> rfl

theorem carryEdit_planner (c : Chan) : (s.carryEdit c old new).planner = s.planner := by
  unfold State.carryEdit
  split
  · unfold State.repositionEntry
    split <;> rfl
  · split
    · unfold State.editUnthrottle
      dsimp only
      split
      · split <;> rfl
      · exact askSlot_planner c
    · rfl

/-! ### The generation (R190) does not bear on them -/

theorem grantSlot_bumpGeneration (c : Chan) : (s.grantSlot c).bumpGeneration = s.bumpGeneration.grantSlot c := by
  have hchan : s.bumpGeneration.chan c = s.chan c := rfl
  unfold State.grantSlot
  rw [hchan]
  split <;> rfl

theorem askSlot_bumpGeneration (c : Chan) : (s.askSlot c).bumpGeneration = s.bumpGeneration.askSlot c := by
  have hslot : s.bumpGeneration.slot = s.slot := rfl
  have hsag : s.bumpGeneration.sag = s.sag := rfl
  unfold State.askSlot
  rw [hslot, hsag]
  split
  · exact grantSlot_bumpGeneration c
  · split <;> rfl

theorem carryEdit_bumpGeneration (c : Chan) :
    (s.carryEdit c old new).bumpGeneration = s.bumpGeneration.carryEdit c old new := by
  have hchan : s.bumpGeneration.chan c = s.chan c := rfl
  have hentry : s.bumpGeneration.entry? c = s.entry? c := rfl
  unfold State.carryEdit
  rw [hchan]
  split
  · unfold State.repositionEntry
    rw [hentry]
    split <;> rfl
  · split
    · unfold State.editUnthrottle
      rw [hchan]
      dsimp only
      split
      · split <;> rfl
      · exact askSlot_bumpGeneration c
    · rfl

/-- R58, R190: the state with the record replaced and the generation increased. -/
def State.edited (s : State) (c : Chan) (r : ChannelRec) : State := (s.setCrec c r).bumpGeneration

theorem edited_crec (c : Chan) (r : ChannelRec) : (s.edited c r).crec c = r := Vector.getElem_set_self c.isLt

theorem edited_crec_of_ne (h : d ≠ c) (r : ChannelRec) : (s.edited c r).crec d = s.crec d :=
  Vector.getElem_set_ne c.isLt d.isLt fun k => h (Fin.ext k.symm)

theorem edited_rank (c : Chan) (r : ChannelRec) : (s.edited c r).rank c = r.rank := congrArg ChannelRec.rank (edited_crec c r)

theorem edited_rank_of_ne (h : d ≠ c) (r : ChannelRec) : (s.edited c r).rank d = s.rank d :=
  congrArg ChannelRec.rank (edited_crec_of_ne h r)

/-- R190: the plan after an accepted edit. -/
theorem edited_plan (c : Chan) (r : ChannelRec) :
    (s.edited c r).plan = { s.plan with channels := s.plan.channels.set c r, generation := s.increased } := rfl

/-- What the edit of channel `c` and all that follows leave of the others. -/
theorem othersKept_of_edited (h : t.Works u) (k : ∀ d, d ≠ c → (s.edited c r).Aside t d) : s.OthersKept u [c] := by
  intro d hd hu hleft
  have hne := List.ne_of_not_mem_cons hd
  exact h.othersKept (s := s.edited c r) (cs := [c]) (fun d hd => k d (List.ne_of_not_mem_cons hd)) d hd hu
    (by rw [edited_rank_of_ne hne]; exact hleft)

end

end Sys2Proof.Machine
end

section
/-!
PROOF. SET_CHANNEL (R61 to R65, R102, R130): its live effects where the restore-quiet timer runs and the excess dwell is not 0,
so that the slot's service is all that follows.
-/

namespace Sys2Proof.Machine

section
variable {s t u : State} {c d : Chan} {r old new : ChannelRec} {p : Peer}

/-! ### An edit's unthrottle, by the phase (R130) -/

theorem editUnthrottle_of_shut (hphase : (s.chan c).phase = .run) (h : (s.chan c).inrush.isOpen = false) :
    s.editUnthrottle c = s.setChan c (s.chan c).toOn := by
  unfold State.editUnthrottle
  dsimp only
  rw [if_pos hphase, if_neg (by rw [h]; nofun)]

theorem editUnthrottle_of_open (hphase : (s.chan c).phase = .run) (h : (s.chan c).inrush.isOpen = true) :
    s.editUnthrottle c = s.setChan c { s.chan c with state := .starting, phase := .none, onTimer := none } := by
  unfold State.editUnthrottle
  dsimp only
  rw [if_pos hphase, if_pos h]

/-- R130: a channel in REST that an edit unthrottles, ahead of its asking for the slot. -/
def State.unthrottleAsked (s : State) (c : Chan) : State :=
  s.setChan c { s.chan c with unthrottlePending := true, offTimer := none }

theorem unthrottleAsked_chan (c : Chan) :
    (s.unthrottleAsked c).chan c = { s.chan c with unthrottlePending := true, offTimer := none } :=
  State.chan_setChan_self s c _

theorem editUnthrottle_of_rest (hphase : (s.chan c).phase = .rest) :
    s.editUnthrottle c = (s.unthrottleAsked c).askSlot c := by
  unfold State.editUnthrottle
  dsimp only
  rw [if_neg (by rw [hphase]; nofun)]
  rfl

/-- R87, R130: the slot is taken at once. -/
theorem askSlot_of_free (hpending : (s.chan c).unthrottlePending = true) (hslot : s.slot = ⟨none, []⟩)
    (hsag : s.sag.state.servesSlot = true) : s.askSlot c = s.startFromRest c := by
  unfold State.askSlot
  rw [if_pos (by simp [hslot, hsag])]
  exact if_pos hpending

/-- R87: the channel stands in the waiting set, once. -/
theorem askSlot_of_busy (hbusy : s.slot.holder ≠ none ∨ s.sag.state.servesSlot = false) : s.askSlot c = { s with
    slot := ⟨s.slot.holder, if c ∈ s.slot.waiting then s.slot.waiting else s.slot.waiting ++ [c]⟩ } := by
  unfold State.askSlot
  rw [if_neg (by rcases hbusy with h | h <;> simp [h])]
  by_cases hmem : c ∈ s.slot.waiting
  · rw [if_pos (List.contains_iff_mem.2 hmem), if_pos hmem]
  · rw [if_neg (fun k => hmem (List.contains_iff_mem.1 k)), if_neg hmem]

/-! ### The slot's service and no more (R88) -/

/-- The slot served, and nothing changed besides but the excess timer and the overload flag. -/
def State.OnlyServed (s t : State) : Prop := ∃ x b, t = s.serveSlot.setExcess x b

theorem serveSlot_ring : s.serveSlot.ring = s.ring := by
  unfold State.serveSlot
  split
  · split
    · rfl
    · exact grantSlot_ring _
  · rfl

theorem serveSlot_standby : s.serveSlot.standby = s.standby := by
  unfold State.serveSlot
  split
  · split
    · rfl
    · exact grantSlot_standby _
  · rfl

theorem State.OnlyServed.chan (h : s.OnlyServed t) (hwaits : c ∉ s.slot.waiting) : t.chan c = s.chan c := by
  obtain ⟨x, b, rfl⟩ := h
  exact (aside_serveSlot hwaits).chan

theorem State.OnlyServed.ring (h : s.OnlyServed t) : t.ring = s.ring := by
  obtain ⟨x, b, rfl⟩ := h
  exact serveSlot_ring

theorem State.OnlyServed.standby (h : s.OnlyServed t) : t.standby = s.standby := by
  obtain ⟨x, b, rfl⟩ := h
  exact serveSlot_standby

theorem State.OnlyServed.quiet (h : s.OnlyServed t) (hquiet : s.SlotQuiet) : t.chan = s.chan ∧ t.slot = s.slot := by
  obtain ⟨x, b, rfl⟩ := h
  rw [serveSlot_of_quiet hquiet]
  exact ⟨rfl, rfl⟩

/-! ### The edited channel (R63, R102, R130) -/

/-- R102: a changed rank moves the entry of a WAITING channel to its place. -/
theorem waiting_of_edited {e : Entry} (h : ((s.edited c r).carryEdit c (s.crec c) r).OnlyServed t)
    (hst : (s.chan c).state = .waiting) (he : s.entry? c = some e) (hwaits : c ∉ s.slot.waiting)
    (hrank : t.rank = (s.edited c r).rank) : t.chan c = s.chan c ∧ t.entry? c = some e
      ∧ t.standby = if r.rank = s.rank c then s.standby
        else ⟨placeEntry t.rank e (s.standby.entries.filter fun x => x.channel ≠ c), (s.standby.version + 1) % 256⟩ := by
  have hchannel : e.channel = c := by simpa using List.find?_some he
  by_cases hsame : r.rank = s.rank c
  · have hkept : (s.edited c r).carryEdit c (s.crec c) r = s.edited c r :=
      carryEdit_of_kept (fun _ => hsame.symm) (by rw [show (s.edited c r).chan c = s.chan c from rfl, hst]; nofun)
    rw [hkept] at h
    refine ⟨h.chan hwaits, ?_, by rw [if_pos hsame]; exact h.standby⟩
    unfold State.entry?
    rw [h.standby]
    exact he
  · have hmoved : (s.edited c r).carryEdit c (s.crec c) r = (s.edited c r).setEntries
        (placeEntry (s.edited c r).rank e (s.standby.entries.filter fun x => x.channel ≠ c)) := by
      rw [carryEdit_of_moved (s := s.edited c r) hst fun k => hsame k.symm]
      unfold State.repositionEntry
      rw [show (s.edited c r).entry? c = some e from he]
      rfl
    rw [hmoved] at h
    refine ⟨h.chan hwaits, ?_, ?_⟩
    · unfold State.entry?
      rw [h.standby]
      show (placeEntry _ e _).find? _ = _
      rw [← hchannel]
      exact find?_placeEntry_self _ e (find?_filter_self _)
    · rw [if_neg hsame, hrank]
      exact h.standby

theorem toOn_of_edited (h : ((s.edited c r).carryEdit c old r).OnlyServed t) (hst : (s.chan c).state = .throttled)
    (hedit : unthrottles old r = true) (hphase : (s.chan c).phase = .run) (hshut : (s.chan c).inrush.isOpen = false)
    (hwaits : c ∉ s.slot.waiting) : t.ring = s.ring ∧ t.chan c = (s.chan c).toOn := by
  rw [carryEdit_of_unthrottled (s := s.edited c r) hst hedit, editUnthrottle_of_shut (s := s.edited c r) hphase hshut] at h
  exact ⟨h.ring, (h.chan hwaits).trans (State.chan_setChan_self _ c _)⟩

theorem starting_of_edited (h : ((s.edited c r).carryEdit c old r).OnlyServed t) (hst : (s.chan c).state = .throttled)
    (hedit : unthrottles old r = true) (hphase : (s.chan c).phase = .run) (hopen : (s.chan c).inrush.isOpen = true)
    (hholder : s.slot.holder = some c) : t.ring = s.ring ∧ t.slot = s.slot
      ∧ t.chan c = { s.chan c with state := .starting, phase := .none, onTimer := none } := by
  rw [carryEdit_of_unthrottled (s := s.edited c r) hst hedit, editUnthrottle_of_open (s := s.edited c r) hphase hopen] at h
  obtain ⟨hchan, hslot⟩ := h.quiet (.inl fun k => absurd (hholder.symm.trans k) nofun)
  refine ⟨h.ring, hslot, ?_⟩
  rw [hchan]
  exact State.chan_setChan_self _ c _

theorem startFromRest_of_edited (h : ((s.edited c r).carryEdit c old r).OnlyServed t) (hst : (s.chan c).state = .throttled)
    (hedit : unthrottles old r = true) (hphase : (s.chan c).phase = .rest) (hslot : s.slot = ⟨none, []⟩)
    (hsag : s.sag.state.servesSlot = true) : t.ring = s.ring ∧ t.slot = ⟨some c, []⟩ ∧ t.chan c = { s.chan c with
      state := .starting, phase := .none, unthrottlePending := false, offTimer := none, ocStreak := 0
      inrush := Inrush.opened r.inrush } := by
  rw [carryEdit_of_unthrottled (s := s.edited c r) hst hedit, editUnthrottle_of_rest (s := s.edited c r) hphase] at h
  have hself := unthrottleAsked_chan (s := s.edited c r) c
  have hcrec : ((s.edited c r).unthrottleAsked c).crec c = r := edited_crec c r
  rw [askSlot_of_free (s := (s.edited c r).unthrottleAsked c) (by rw [hself]) hslot hsag,
    startFromRest_eq (s := (s.edited c r).unthrottleAsked c) hslot, hself, hcrec] at h
  obtain ⟨hchan, hslotAfter⟩ := h.quiet (.inl nofun)
  refine ⟨h.ring, hslotAfter, ?_⟩
  rw [hchan]
  exact State.chan_setChan_self _ c _

theorem joins_of_edited (h : ((s.edited c r).carryEdit c old r).OnlyServed t) (hst : (s.chan c).state = .throttled)
    (hedit : unthrottles old r = true) (hphase : (s.chan c).phase = .rest)
    (hbusy : s.slot.holder ≠ none ∨ s.sag.state.servesSlot = false) : t.ring = s.ring
      ∧ t.slot = ⟨s.slot.holder, if c ∈ s.slot.waiting then s.slot.waiting else s.slot.waiting ++ [c]⟩
      ∧ t.chan c = { s.chan c with unthrottlePending := true, offTimer := none } := by
  rw [carryEdit_of_unthrottled (s := s.edited c r) hst hedit, editUnthrottle_of_rest (s := s.edited c r) hphase,
    askSlot_of_busy (s := (s.edited c r).unthrottleAsked c) hbusy] at h
  obtain ⟨hchan, hslot⟩ := h.quiet (hbusy.imp id .inr)
  refine ⟨h.ring, hslot, ?_⟩
  rw [hchan]
  exact State.chan_setChan_self _ c _

/-! ### The request -/

/-- R190, R181: the request whose record the owner accepts. -/
theorem setChannel_accepted {g : Nat} {rest : List Byte} (h : s.Admits p) (hg : s.Passes g) (hlen : rest.length ≤ 53)
    (hedit : (s.heard p).editChannel c.val rest = (t, .ok)) (hkept : ((s.heard p).setCrec c r).PlannerOnly t)
    (hring : t.ring = s.ring) : exec (.setChannel p (u16 g ++ [BitVec.ofNat 8 c.val] ++ rest)) s =
      .next (((s.heard p).finish t.bumpGeneration true).repliedWith s.summary p 0x20 .ok (u16 s.increased)) := by
  have hsummary : t.summary = s.summary := summary_congr (s := (s.heard p).setCrec c r) hkept hring
  have hgeneration : t.bumpGeneration.plan.generation = s.increased := by
    show nextGeneration t.plan.generation = _
    rw [hkept.plan]
    rfl
  have harrive := arrive_of_ownerAccepted (ty := .setChannel) (rest := BitVec.ofNat 8 c.val :: rest) (t := t)
    (acts := fun t => (s.heard p).finish t true) rfl h hg (by simp [ReqType.minBody]) (by simp; omega) rfl
    (indexed_owner (s.heard p).editChannel c (by decide) hedit)
  rw [hsummary, hgeneration] at harrive
  rw [List.append_assoc]
  exact congrArg Host.Outcome.next harrive

/-- R191: the request that the owner refuses. -/
theorem setChannel_refused {g : Nat} {rest : List Byte} {y : Status} (h : s.Admits p) (hg : s.Passes g) (hlen : rest.length ≤ 53)
    (hedit : (s.heard p).editChannel c.val rest = (s.heard p, y)) (hy : y ≠ .ok) (hq : y ≠ .queued) :
    exec (.setChannel p (u16 g ++ [BitVec.ofNat 8 c.val] ++ rest)) s =
      .next ((s.setService true).replied p 0x20 y (u16 s.plan.generation)) := by
  rw [List.append_assoc]
  exact congrArg Host.Outcome.next (arrive_of_ownerRefused (ty := .setChannel) (rest := BitVec.ofNat 8 c.val :: rest) rfl h hg
    (by simp [ReqType.minBody]) (by simp; omega) rfl (indexed_owner (s.heard p).editChannel c (by decide) hedit) hy hq)

/-- R58: what the accepted request touches. -/
theorem plannerOnly_of_edited (h : s.Admits p) (hkept : ((s.heard p).edited c r).PlannerOnly t) :
    State.PlannerOnly { s.setService true with plan := t.plan, link := t.link } t := by
  rw [heard_eq h.2.1] at hkept
  exact ⟨hkept.pending, hkept.est, hkept.mail, hkept.level, hkept.sag, hkept.idle, hkept.aux, hkept.disc, rfl, rfl,
    hkept.store, hkept.sys, hkept.overtaken⟩

theorem bumpGeneration_of_edited :
    ((s.setCrec c r).carryEdit c old r).bumpGeneration = (s.edited c r).carryEdit c old r := carryEdit_bumpGeneration c

theorem unthrottles_iff : unthrottles old new = true ↔
    (old.throttle = true ∧ new.throttle = false) ∨ (old.rank ≠ 0 ∧ new.rank = 0) := by
  simp [unthrottles]

/-- R88: what follows an accepted record where the restore-quiet timer runs and the excess dwell is not 0. -/
theorem onlyServed_of_edited (hquiet : s.planner.restoreQuiet.isSome = true)
    (hdwell : s.plan.levels.settings.excessDwell ≠ 0) (before : State) (tell : Bool) :
    ((s.edited c r).carryEdit c old r).OnlyServed (before.finish ((s.edited c r).carryEdit c old r) tell) := by
  refine finish_of_calm ?_ ?_ before tell
  · rw [carryEdit_planner]
    exact hquiet
  · rw [(plannerOnly_carryEdit (s.edited c r) c old r).plan]
    exact hdwell

end

/-- Settles O32. -/
theorem setChannelReplacesTheRecord : Obligations.SetChannelReplacesTheRecord := by
  intro s p g c rest h hg hlen
  refine ⟨fun raw hraw hvalid hd => ?_, fun raw hraw hvalid hd hst hu => ?_, fun raw hraw hvalid hd hoff hlocked => ?_,
    fun hnot => ?_, fun index hindex => (refused_editIndex h hg hlen).1 hindex⟩
  · have hedit := editChannel_of_carried (s := s.heard p) hraw hvalid hd
    have hedited := State.ChannelEdited.carried (s := s.heard p) (c := c) (r := raw.fields) hd
    have hexec := setChannel_accepted h hg hlen hedit (plannerOnly_channelEdited _ hedited)
      (channelEdited_ring (s := s.heard p) hedited)
    rw [bumpGeneration_of_edited] at hexec
    have hcarry := plannerOnly_carryEdit ((s.heard p).edited c raw.fields) c ((s.heard p).crec c) raw.fields
    have hworks := works_finish (s := ((s.heard p).edited c raw.fields).carryEdit c ((s.heard p).crec c) raw.fields)
      (s.heard p) true
    have hframe := hcarry.trans hworks.plannerOnly
    have hserved := onlyServed_of_edited (s := s.heard p) (c := c) (r := raw.fields) (old := (s.heard p).crec c)
    refine ⟨_, hexec, hframe.plan, plannerOnly_of_edited h hframe,
      othersKept_of_edited (s := s.heard p) hworks fun d hd => aside_carryEdit hd, fun hu hleft hleft' => ?_,
      fun hquiet hdwell => ⟨fun e hst he hwait => ?_, fun hst hun => ?_⟩⟩
    · obtain ⟨hthrottled, hwaiting, -⟩ := Channel.leftAlone_states hleft
      have hkept : ((s.heard p).edited c raw.fields).carryEdit c ((s.heard p).crec c) raw.fields =
          (s.heard p).edited c raw.fields := carryEdit_of_kept (fun k => absurd k hwaiting) hthrottled
      rw [hkept] at hworks ⊢
      exact hworks.chan_of_leftAlone (s := (s.heard p).edited c raw.fields) (.refl _ c) hu (by rw [edited_rank]; exact hleft')
    · have hnot : c ∉ s.slot.waiting := by
        unfold State.waitsForSlot at hwait
        simpa using hwait
      exact waiting_of_edited (s := s.heard p) (hserved hquiet hdwell (s.heard p) true) hst he hnot
        (funext fun d => State.rank_congr hframe.plan d)
    · have honly := hserved hquiet hdwell (s.heard p) true
      have hedit := unthrottles_iff.2 hun
      refine ⟨fun hphase hshut hwait => ?_, fun hphase hopen hholder => ?_, fun hphase hslot hsag => ?_,
        fun hphase hbusy => ?_⟩
      · have hnot : c ∉ s.slot.waiting := by
          unfold State.waitsForSlot at hwait
          simpa using hwait
        exact toOn_of_edited (s := s.heard p) honly hst hedit hphase hshut hnot
      · exact starting_of_edited (s := s.heard p) honly hst hedit hphase hopen hholder
      · exact startFromRest_of_edited (s := s.heard p) honly hst hedit hphase hslot
          (by rw [show (s.heard p).sag = s.sag from rfl]; rcases hsag with h | h <;> rw [h] <;> rfl)
      · exact joins_of_edited (s := s.heard p) honly hst hedit hphase
          (hbusy.imp id fun k => by rw [show (s.heard p).sag = s.sag from rfl]; rcases k with k | k <;> rw [k] <;> rfl)
  · have hedit := editChannel_of_deactivated (s := s.heard p) hraw hvalid hd hst
    have hedited := State.ChannelEdited.deactivated (s := s.heard p) (c := c) (r := raw.fields) hd hst
    have hexec := setChannel_accepted h hg hlen hedit (plannerOnly_channelEdited _ hedited)
      (channelEdited_ring (s := s.heard p) hedited)
    have hworks := works_finish (s := ((s.heard p).edited c raw.fields).setChan c (s.chan c).deactivated) (s.heard p) true
    have hframe := (plannerOnly_setChan ((s.heard p).edited c raw.fields) c (s.chan c).deactivated).trans hworks.plannerOnly
    exact ⟨_, hexec, hframe.plan, plannerOnly_of_edited h hframe,
      othersKept_of_edited (s := s.heard p) hworks fun d hd => aside_setChan hd _,
      chan_of_setChan (s := (s.heard p).edited c raw.fields) hu (Channel.leftAlone_of_off (.inl rfl) _) hworks⟩
  · exact setChannel_refused h hg hlen (editChannel_of_used (s := s.heard p) hraw hvalid hd hoff hlocked) nofun nofun
  · exact setChannel_refused h hg hlen (editChannel_of_invalid (s := s.heard p) hnot) nofun nofun

end Sys2Proof.Machine
end

section
/-!
PROOF. The queue of waiting commands is read by no operation on the channels, the list, the slot and the Planner (the model's
own field, notes/assumptions/10.md and 20.md): each commutes with `State.withPending`, branch by branch.
-/

namespace Sys2Proof.Machine

section
variable {s a b a' b' : State} {q : List Instr} {c : Chan}

/-! ### Composition and branches -/

theorem withPending_ite {p : Prop} [Decidable p] (ha : a' = a.withPending q) (hb : b' = b.withPending q) :
    (if p then a' else b') = (if p then a else b).withPending q := by
  split
  · exact ha
  · exact hb

/-- An operation after another one. -/
theorem withPending_comp {f : State → State} (hf : ∀ s : State, f (s.withPending q) = (f s).withPending q)
    (ha : a' = a.withPending q) : f a' = (f a).withPending q := by rw [ha, hf]

/-! ### The Standby List and the Start Slot -/

theorem removeEntry_withPending (c : Chan) : (s.withPending q).removeEntry c = (s.removeEntry c).withPending q :=
  withPending_ite rfl rfl

theorem forceEntry_withPending (c : Chan) : (s.withPending q).forceEntry c = (s.forceEntry c).withPending q := by
  have hentry : (s.withPending q).entry? c = s.entry? c := rfl
  unfold State.forceEntry
  rw [hentry]
  cases s.entry? c with
  | none => rfl
  | some e => exact withPending_ite rfl rfl

theorem repositionEntry_withPending (c : Chan) :
    (s.withPending q).repositionEntry c = (s.repositionEntry c).withPending q := by
  have hentry : (s.withPending q).entry? c = s.entry? c := rfl
  unfold State.repositionEntry
  rw [hentry]
  cases s.entry? c with
  | none => rfl
  | some e => rfl

theorem releaseHeld_withPending : (s.withPending q).releaseHeld = s.releaseHeld.withPending q := withPending_ite rfl rfl

theorem emptyStandby_withPending : (s.withPending q).emptyStandby = s.emptyStandby.withPending q := withPending_ite rfl rfl

theorem resumeAll_withPending : (s.withPending q).resumeAll = s.resumeAll.withPending q := withPending_ite rfl rfl

theorem releaseSlot_withPending (c : Chan) : (s.withPending q).releaseSlot c = (s.releaseSlot c).withPending q :=
  withPending_ite rfl rfl

theorem pushAll_withPending (l : List (NoticeKind × Option Nat × Nat × Nat)) :
    (s.withPending q).pushAll l = (s.pushAll l).withPending q := by
  induction l generalizing s with
  | nil => rfl
  | cons x l ih =>
    obtain ⟨k, j, a, b⟩ := x
    exact ih (s := s.push k j a b)

/-! ### One channel (06) -/

theorem cutTo_withPending (c : Chan) (st : ChState) (r : Reason) :
    (s.withPending q).cutTo c st r = (s.cutTo c st r).withPending q :=
  withPending_comp (f := (State.leaveWaiting · c)) (fun _ => rfl) (releaseSlot_withPending (s := State.setChan s c _) c)

theorem cutToWaiting_withPending (c : Chan) (o : Origin) (r : Reason) :
    (s.withPending q).cutToWaiting c o r = (s.cutToWaiting c o r).withPending q :=
  withPending_comp (f := (State.insertEntry · c o false)) (fun _ => rfl) (cutTo_withPending c .waiting r)

theorem endRundown_withPending (c : Chan) : (s.withPending q).endRundown c = (s.endRundown c).withPending q := by
  have hchan : (s.withPending q).chan c = s.chan c := rfl
  unfold State.endRundown
  rw [hchan]
  dsimp only
  cases (s.chan c).intent.origin? <;> rfl

theorem trip_withPending (c : Chan) (r : Reason) : (s.withPending q).trip c r = (s.trip c r).withPending q := by
  have hreleased : ∀ ch : Channel, ((s.withPending q).setChan c ch).releaseSlot c =
      ((s.setChan c ch).releaseSlot c).withPending q := fun ch => releaseSlot_withPending (s := s.setChan c ch) c
  unfold State.trip
  exact withPending_ite (withPending_comp (f := (State.push · _ _ _ _)) (fun _ => rfl) (hreleased _))
    (withPending_comp (f := fun s => State.push (State.push s _ _ _ _) _ _ _ _) (fun _ => rfl) (hreleased _))

theorem startFromWaiting_withPending (c : Chan) :
    (s.withPending q).startFromWaiting c = (s.startFromWaiting c).withPending q :=
  removeEntry_withPending (s := State.setHolder (State.setChan s c _) (some c)) c

theorem grantSlot_withPending (c : Chan) : (s.withPending q).grantSlot c = (s.grantSlot c).withPending q :=
  withPending_ite rfl rfl

theorem askSlot_withPending (c : Chan) : (s.withPending q).askSlot c = (s.askSlot c).withPending q :=
  withPending_ite (grantSlot_withPending c) (withPending_ite rfl rfl)

theorem endWindow_withPending (c : Chan) : (s.withPending q).endWindow c = (s.endWindow c).withPending q :=
  releaseSlot_withPending (s := State.setChan s c _) c

theorem endRun_withPending (c : Chan) : (s.withPending q).endRun c = (s.endRun c).withPending q :=
  releaseSlot_withPending (s := State.setChan s c _) c

theorem unthrottle_withPending (c : Chan) : (s.withPending q).unthrottle c = (s.unthrottle c).withPending q :=
  withPending_ite rfl rfl

theorem editUnthrottle_withPending (c : Chan) : (s.withPending q).editUnthrottle c = (s.editUnthrottle c).withPending q :=
  withPending_ite (withPending_ite rfl rfl) (askSlot_withPending (s := State.setChan s c _) c)

/-- R131: an ON channel runs down or is cut. -/
theorem rundownOrCut_withPending (c : Chan) (r : Reason) :
    (if ((s.withPending q).crec c).rundownConfigured then (s.withPending q).enterRundown c r .off
      else (s.withPending q).cutTo c .off r) =
    (if (s.crec c).rundownConfigured then s.enterRundown c r .off else s.cutTo c .off r).withPending q :=
  withPending_ite rfl (cutTo_withPending c .off r)

/-- R131: a WAITING channel is cut and its entry removed. -/
theorem cutAndRemoved_withPending (c : Chan) (r : Reason) :
    ((s.withPending q).cutTo c .off r).removeEntry c = ((s.cutTo c .off r).removeEntry c).withPending q :=
  withPending_comp (f := (State.removeEntry · c)) (fun _ => removeEntry_withPending c) (cutTo_withPending c .off r)

theorem idleOff_withPending (c : Chan) : (s.withPending q).idleOff c = (s.idleOff c).withPending q := by
  have hchan : (s.withPending q).chan c = s.chan c := rfl
  unfold State.idleOff
  rw [hchan]
  cases (s.chan c).state with
  | on => exact rundownOrCut_withPending c .idle
  | starting => exact cutTo_withPending c .off .idle
  | throttled => exact cutTo_withPending c .off .idle
  | waiting => exact cutAndRemoved_withPending c .idle
  | off | rundown | tripped | locked | checking => rfl

theorem switchOff_withPending (c : Chan) : (s.withPending q).switchOff c = (s.switchOff c).withPending q := by
  have hchan : (s.withPending q).chan c = s.chan c := rfl
  unfold State.switchOff
  rw [hchan]
  cases (s.chan c).state with
  | on => exact rundownOrCut_withPending c .panel
  | starting => exact cutTo_withPending c .off .panel
  | throttled => exact cutTo_withPending c .off .panel
  | waiting => exact cutAndRemoved_withPending c .panel
  | off | rundown | tripped | locked | checking => rfl

theorem shedChannel_withPending (c : Chan) (o : Origin) (r : Reason) (i : Intent) :
    (s.withPending q).shedChannel c o r i = (s.shedChannel c o r i).withPending q :=
  withPending_ite rfl (cutToWaiting_withPending c o r)

/-! ### The Planner (04) -/

/-- R75, R84: a notice that carries P after the step. -/
theorem pushTotal_withPending (k : NoticeKind) (c : Chan) (n : Nat) (ha : a' = a.withPending q) :
    a'.push k (some c) n a'.totalP = (a.push k (some c) n a.totalP).withPending q := by
  rw [ha]
  rfl

theorem shedStep_withPending (c : Chan) : (s.withPending q).shedStep c = (s.shedStep c).withPending q :=
  withPending_ite (withPending_comp (f := State.startQuiet) (fun _ => rfl) (pushTotal_withPending .shed c 1 rfl))
    (withPending_comp (f := State.startQuiet) (fun _ => rfl)
      (pushTotal_withPending .shed c 2 (shedChannel_withPending c .shed .shed .waitShed)))

theorem endPass_withPending : (s.withPending q).endPass = s.endPass.withPending q := withPending_ite rfl rfl

theorem shedPass_withPending (n : Nat) : (s.withPending q).shedPass n = (s.shedPass n).withPending q := by
  induction n generalizing s with
  | zero => exact endPass_withPending
  | succ n ih =>
    have hcandidate : (s.withPending q).shedCandidate = s.shedCandidate := rfl
    unfold State.shedPass
    rw [hcandidate]
    refine withPending_ite rfl ?_
    cases s.shedCandidate with
    | none => exact endPass_withPending
    | some c => exact withPending_comp (f := State.shedPass n) (fun _ => ih) (shedStep_withPending c)

theorem admitEntry_withPending (c : Chan) (k : Nat) : (s.withPending q).admitEntry c k = (s.admitEntry c k).withPending q :=
  pushTotal_withPending .restore c k (startFromWaiting_withPending c)

theorem unthrottleChoice_withPending (c : Chan) :
    (s.withPending q).unthrottleChoice c = (s.unthrottleChoice c).withPending q :=
  pushTotal_withPending .restore c 3 (unthrottle_withPending c)

theorem admission_withPending (n : Nat) : (s.withPending q).admission n = (s.admission n).withPending q := by
  induction n generalizing s with
  | zero => rfl
  | succ n ih =>
    have hchoice : (s.withPending q).firstChoice = s.firstChoice := rfl
    unfold State.admission
    rw [hchoice]
    refine withPending_ite ?_ rfl
    cases s.firstChoice with
    | none => rfl
    | some x =>
      refine withPending_ite ?_ ?_
      · cases x with
        | entry e => exact admitEntry_withPending e.channel 1
        | throttled c => exact withPending_comp (f := State.admission n) (fun _ => ih) (unthrottleChoice_withPending c)
      · have hpass : ((s.withPending q).behind x).find? (s.withPending q).passesBy = (s.behind x).find? s.passesBy := rfl
        rw [hpass]
        cases (s.behind x).find? s.passesBy with
        | none => rfl
        | some e => exact admitEntry_withPending e.channel 2

theorem totalP_withPending : (s.withPending q).totalP = s.totalP := rfl

theorem ceiling_withPending : (s.withPending q).ceiling = s.ceiling := rfl

theorem stopExcess_withPending : (s.withPending q).stopExcess = s.stopExcess.withPending q := rfl

theorem stageB_withPending (k : Call) : (s.withPending q).stageB k = (s.stageB k).withPending q := by
  unfold State.stageB
  rw [totalP_withPending, ceiling_withPending, stopExcess_withPending, shedPass_withPending, shedPass_withPending]
  cases k with
  | ordinary => exact withPending_ite rfl (withPending_ite rfl (withPending_ite rfl rfl))
  | expiry => rfl
  | levelChange => rfl

theorem stageC_withPending : (s.withPending q).stageC = s.stageC.withPending q := withPending_ite rfl rfl

theorem reevaluate_withPending (k : Call) : (s.withPending q).reevaluate k = (s.reevaluate k).withPending q :=
  withPending_ite (withPending_comp (f := fun s => State.admission admissionRounds s.stageC)
    (fun _ => withPending_comp (f := State.admission admissionRounds) (fun _ => admission_withPending _) stageC_withPending)
    (stageB_withPending k)) rfl

theorem serveSlot_withPending : (s.withPending q).serveSlot = s.serveSlot.withPending q := by
  have hnext : (s.withPending q).nextServed = s.nextServed := rfl
  unfold State.serveSlot
  rw [hnext]
  refine withPending_ite ?_ rfl
  cases s.nextServed with
  | none => rfl
  | some c => exact grantSlot_withPending c

theorem settle_withPending (n : Nat) (need : Bool) : (s.withPending q).settle n need = (s.settle n need).withPending q := by
  induction n generalizing s need with
  | zero => rfl
  | succ n ih =>
    unfold State.settle
    dsimp only
    rw [serveSlot_withPending, reevaluate_withPending]
    refine withPending_ite (withPending_ite ?_ rfl) rfl
    exact ih _

theorem reevaluateThen_withPending (k : Call) : (s.withPending q).reevaluateThen k = (s.reevaluateThen k).withPending q := by
  unfold State.reevaluateThen
  dsimp only
  rw [reevaluate_withPending]
  exact withPending_ite (settle_withPending _ _) rfl

/-- R68: all that follows an event. -/
theorem finish_withPending (ha : a' = a.withPending q) (tell : Bool) :
    (s.withPending q).finish a' tell = (s.finish a tell).withPending q := by
  rw [ha]
  exact settle_withPending _ _

theorem tellLevelChange_withPending : (s.withPending q).tellLevelChange = s.tellLevelChange.withPending q :=
  withPending_ite (reevaluateThen_withPending (s := s.startQuiet.stopExcess) .levelChange) rfl

end

end Sys2Proof.Machine
end

section
/-!
PROOF. Nor is the queue read by the events of the blocks (notes/assumptions/10.md and 20.md): each commutes with
`State.withPending`.
-/

namespace Sys2Proof.Machine

section
variable {s a b a' b' : State} {q : List Instr} {c : Chan}

/-! ### Battery samples and levels (01, 02) -/

theorem takeBatterySample_withPending (vb i : Int) :
    (s.withPending q).takeBatterySample vb i = (s.takeBatterySample vb i).withPending q :=
  withPending_comp (f := fun t => { t with mail := s.mail.publish (s.sampleResult vb i).est.update s.comparatorListens })
    (fun _ => rfl) (pushAll_withPending (s := { s with est := (s.sampleResult vb i).est }) _)

theorem changeLevel_withPending (new : Level) (k : Cause) :
    (s.withPending q).changeLevel new k = (s.changeLevel new k).withPending q :=
  tellLevelChange_withPending (s := State.push
    { s with level := { s.level with current := new, pending := .none, count := 0 } } _ _ _ _)

theorem setLevelDirect_withPending (new : Level) (k : Cause) :
    (s.withPending q).setLevelDirect new k = (s.setLevelDirect new k).withPending q :=
  withPending_ite rfl (changeLevel_withPending new k)

theorem runDwell_withPending (u : ReserveUpdate) : (s.withPending q).runDwell u = (s.runDwell u).withPending q :=
  withPending_ite (withPending_ite (changeLevel_withPending _ _) rfl)
    (withPending_ite (withPending_ite (changeLevel_withPending _ _) rfl) rfl)

theorem levelTakes_withPending (u : ReserveUpdate) : (s.withPending q).levelTakes u = (s.levelTakes u).withPending q :=
  withPending_ite
    (withPending_ite rfl (setLevelDirect_withPending
      (s := { s.storeDeep u with level := { (s.storeDeep u).level with firstTaken := true } }) _ _))
    (withPending_ite (runDwell_withPending (s := s.storeDeep u) u) rfl)

theorem levelTakesNext_withPending : (s.withPending q).levelTakesNext = s.levelTakesNext.withPending q := by
  unfold State.levelTakesNext
  rw [State.withPending_mail]
  cases s.mail.level with
  | nil => rfl
  | cons u rest => exact levelTakes_withPending (s := { s with mail := { s.mail with level := rest } }) u

/-! ### The Sag Monitor (02 section 2.4) -/

theorem fallingEvent_withPending : (s.withPending q).fallingEvent = s.fallingEvent.withPending q := by
  unfold State.fallingEvent
  rw [State.withPending_sag]
  cases s.sag.state <;> rfl

theorem risingEvent_withPending (vb : Nat) : (s.withPending q).risingEvent vb = (s.risingEvent vb).withPending q := by
  unfold State.risingEvent
  rw [State.withPending_sag]
  cases s.sag.state with
  | sagging => exact withPending_ite rfl rfl
  | sagShedding | clear | recovering => rfl

theorem comparatorTakes_withPending (vb : Nat) :
    (s.withPending q).comparatorTakes vb = (s.comparatorTakes vb).withPending q := by
  have hrises : ((s.withPending q).setSag { (s.withPending q).sag with high := true }).risingEvent vb =
      ((s.setSag { s.sag with high := true }).risingEvent vb).withPending q :=
    risingEvent_withPending (s := s.setSag { s.sag with high := true }) vb
  unfold State.comparatorTakes
  refine withPending_ite rfl (withPending_ite (fallingEvent_withPending (s := s.setSag { s.sag with high := false }))
    (withPending_ite ?_ rfl))
  dsimp only
  rw [hrises]
  exact finish_withPending rfl _

theorem sagShed_withPending : (s.withPending q).sagShed = (s.sagShed.1.withPending q, s.sagShed.2) := by
  have hcandidate : (s.withPending q).sagCandidate = s.sagCandidate := rfl
  unfold State.sagShed
  rw [hcandidate, State.withPending_disc]
  by_cases hd : s.disc.device = .run
  · rw [if_pos hd, if_pos hd]
    cases s.sagCandidate with
    | none => rfl
    | some c =>
      dsimp only
      rw [shedChannel_withPending]
      rfl
  · rw [if_neg hd, if_neg hd]

theorem askSagShed_withPending : (s.withPending q).askSagShed = s.askSagShed.withPending q := by
  unfold State.askSagShed
  rw [sagShed_withPending]
  obtain ⟨t, o⟩ := s.sagShed
  cases o with
  | none => exact withPending_ite rfl rfl
  | some c => exact settle_withPending (s := t.setSag { t.sag with sheds := t.sag.sheds + 1 }) _ _

theorem toleranceExpiry_withPending : (s.withPending q).toleranceExpiry = s.toleranceExpiry.withPending q := by
  unfold State.toleranceExpiry
  rw [State.withPending_sag]
  cases s.sag.state with
  | sagging => exact askSagShed_withPending (s := State.push (State.setSag s _) _ _ _ _)
  | sagShedding => exact askSagShed_withPending (s := State.setSag s _)
  | clear | recovering => rfl

/-! ### Idle timers (07) -/

theorem activity_withPending (p : TimerRec → Bool) : (s.withPending q).activity p = (s.activity p).withPending q :=
  withPending_ite rfl rfl

theorem currentActivity_withPending (c : Chan) (m : Nat) :
    (s.withPending q).currentActivity c m = (s.currentActivity c m).withPending q :=
  withPending_ite (activity_withPending _) rfl

theorem idleOffAll_withPending (cs : List Chan) : (s.withPending q).idleOffAll cs = (s.idleOffAll cs).withPending q := by
  induction cs generalizing s with
  | nil => rfl
  | cons c cs ih => exact withPending_comp (f := (State.idleOffAll · cs)) (fun _ => ih) (idleOff_withPending c)

theorem idleExpiry_withPending (n : TimerIx) : (s.withPending q).idleExpiry n = (s.idleExpiry n).withPending q :=
  finish_withPending (withPending_comp (f := fun t => State.push ((t.setIdle n _).dropOvertaken n) _ _ _ _) (fun _ => rfl)
    (idleOffAll_withPending _)) false

theorem overtakenExpiry_withPending (n : TimerIx) :
    (s.withPending q).overtakenExpiry n = (s.overtakenExpiry n).withPending q :=
  finish_withPending (withPending_comp (f := fun t => t.dropOvertaken n) (fun _ => rfl) (idleOffAll_withPending _)) false

theorem noteOvertaken_withPending (c : Chan) (forced : Bool) :
    (s.withPending q).noteOvertaken c forced = (s.noteOvertaken c forced).withPending q := withPending_ite rfl rfl

/-! ### Channel samples (06) -/

theorem endSampleWindow_withPending (c : Chan) :
    (s.withPending q).endSampleWindow c = (s.endSampleWindow c).withPending q :=
  withPending_ite (endWindow_withPending c) rfl

theorem doneTest_withPending (c : Chan) (m : Nat) : (s.withPending q).doneTest c m = (s.doneTest c m).withPending q :=
  withPending_ite (withPending_ite (endRundown_withPending c) rfl) rfl

theorem testSample_withPending (c : Chan) (m : Nat) : (s.withPending q).testSample c m = (s.testSample c m).withPending q :=
  withPending_ite (trip_withPending c .trip)
    (withPending_ite
      (withPending_comp (f := (State.doneTest · c m)) (fun _ => doneTest_withPending c m)
        (endSampleWindow_withPending (s := State.setStreak s c _) c))
      (endSampleWindow_withPending (s := State.setStreak s c _) c))

theorem takeSample_withPending (c : Chan) (m : Nat) : (s.withPending q).takeSample c m = (s.takeSample c m).withPending q :=
  withPending_comp (f := (State.currentActivity · c m)) (fun _ => currentActivity_withPending c m)
    (withPending_ite (testSample_withPending (s := State.setChan s c _) c m) rfl)

/-! ### The Disconnect Unit (08) and the auxiliary inputs (07) -/

theorem isolateBlocks_withPending : (s.withPending q).isolateBlocks = s.isolateBlocks.withPending q :=
  withPending_comp (f := fun t => (t.setSag SagMon.initial).cancelDwell.dropSagSamples.setOvertaken []) (fun _ => rfl)
    (emptyStandby_withPending
      (s := { (s.mapChans fun _ ch => ch.isolated) with slot := ⟨none, []⟩, planner := ⟨none, none, false⟩ }))

theorem isolate_withPending (r : IsoReason) : (s.withPending q).isolate r = (s.isolate r).withPending q :=
  withPending_comp (f := fun t => (t.isolateUnit r).push .isolated none r.code s.disc.vc) (fun _ => rfl)
    (withPending_comp (f := (State.pushAll · (s.abortNotices allChans))) (fun _ => pushAll_withPending _)
      isolateBlocks_withPending)

/-- R100: the RESUME event and the re-evaluation after it. -/
theorem resumed_withPending :
    (s.withPending q).resumeAll.settle settleRounds true = (s.resumeAll.settle settleRounds true).withPending q :=
  withPending_comp (f := State.settle settleRounds true) (fun _ => settle_withPending _ _) resumeAll_withPending

theorem enterRun_withPending : (s.withPending q).enterRun = s.enterRun.withPending q :=
  resumed_withPending (s := { s with disc := { s.disc with
    device := .run, reason := .none, isolateCount := 0, chargeCount := 0, entryPending := false } })

theorem reconnect_withPending (k : Trigger) : (s.withPending q).reconnect k = (s.reconnect k).withPending q :=
  withPending_comp (f := fun t => t.push .reconnected none k.code t.disc.vc) (fun _ => rfl)
    (withPending_comp
      (f := fun t => (State.armIdle { t with disc := { t.disc with device := .run } }).resumeAll.settle settleRounds true)
      (fun t => resumed_withPending (s := State.armIdle { t with disc := { t.disc with device := .run } }))
      (setLevelDirect_withPending (s := s.closeRelay) _ _))

theorem wakeEvent_withPending : (s.withPending q).wakeEvent = s.wakeEvent.withPending q :=
  withPending_ite (withPending_ite (reconnect_withPending .wake) rfl) rfl

theorem disconnectTakes_withPending (u : ReserveUpdate) :
    (s.withPending q).disconnectTakes u = (s.disconnectTakes u).withPending q := by
  have hdevice : ((s.withPending q).noteUpdate u).disc.device = s.disc.device := rfl
  have hdevice' : (s.noteUpdate u).disc.device = s.disc.device := rfl
  unfold State.disconnectTakes
  dsimp only
  rw [hdevice, hdevice']
  cases s.disc.device with
  | start => exact withPending_ite (enterRun_withPending (s := s.noteUpdate u)) rfl
  | run => exact withPending_ite (isolate_withPending (s := s.noteUpdate u) _) (withPending_ite rfl rfl)
  | isolated => exact withPending_ite (reconnect_withPending (s := s.noteUpdate u) .charge) rfl

theorem disconnectTakesNext_withPending : (s.withPending q).disconnectTakesNext = s.disconnectTakesNext.withPending q := by
  unfold State.disconnectTakesNext
  rw [State.withPending_mail]
  cases s.mail.disconnect with
  | nil => rfl
  | cons u rest => exact disconnectTakes_withPending (s := { s with mail := { s.mail with disconnect := rest } }) u

theorem transition_withPending (n : AuxIx) (level : Bool) :
    (s.withPending q).transition n level = (s.transition n level).withPending q :=
  withPending_ite
    (withPending_ite
      (withPending_comp (f := State.wakeEvent) (fun _ => wakeEvent_withPending) (activity_withPending _))
      (activity_withPending _)) rfl

/-! ### The resets (11 section 11.6) -/

theorem powerOn_withPending (x : Straps) (service : Bool) :
    (s.withPending q).powerOn x service = (s.powerOn x service).withPending q :=
  pushAll_withPending (s := (s.powerOnBlocks x service).pushReset 1) _

theorem brownoutIsolation_withPending : (s.withPending q).brownoutIsolation = s.brownoutIsolation.withPending q :=
  withPending_comp
    (f := fun t => { (t.isolateUnit .brownout).mapChans (fun c ch => ch.afterBrownout (s.crec c)) with
      level := { t.level with current := 7, deep := 7, byReserve := false }
      disc := { (t.isolateUnit .brownout).disc with vc := 0, i := 0, isolateLen := 0 } })
    (fun _ => rfl) isolateBlocks_withPending

theorem brownout_withPending (x : Straps) : (s.withPending q).brownout x = (s.brownout x).withPending q :=
  withPending_comp (f := (State.push · .isolated none IsoReason.brownout.code 0)) (fun _ => rfl)
    (withPending_comp (f := fun t => (t.pushReset 2).pushAll (loadPlan s.store.image x).notice)
      (fun t => pushAll_withPending (s := t.pushReset 2) _) (brownoutIsolation_withPending (s := s.brownoutSystem x)))

theorem realign_withPending (old : Plan) (cs : List Chan) :
    (s.withPending q).realign old cs = (s.realign old cs).withPending q := by
  induction cs generalizing s with
  | nil => rfl
  | cons c cs ih =>
    exact withPending_comp (f := (State.realign · old cs)) (fun _ => ih)
      (withPending_ite (editUnthrottle_withPending c) rfl)

theorem restarted_withPending : (s.withPending q).restarted = s.restarted.withPending q :=
  withPending_comp (f := (State.pushAll · (s.abortNotices (loadPlan s.store.image s.sys.straps).plan.cuts)))
    (fun _ => pushAll_withPending _)
    (pushAll_withPending (s := (s.restartBlocks (loadPlan s.store.image s.sys.straps).plan).pushReset 3) _)

theorem restart_withPending : (s.withPending q).restart = s.restart.withPending q := by
  rw [State.restart_eq, State.restart_eq, restarted_withPending, State.withPending_plan, realign_withPending,
    settle_withPending]

end

end Sys2Proof.Machine
end

section
/-!
PROOF. Nor is the queue read by the requests (09, notes/assumptions/10.md and 20.md): each owner's answer is built from the
other fields, and the state it leaves commutes with `State.withPending`. So does every command.
-/

namespace Sys2Proof.Machine

/-- An edit's outcome with another queue in its state. -/
def editWithPending (x : State × Status) (q : List Instr) : State × Status := (x.1.withPending q, x.2)

/-- An answer with another queue in its state. -/
def Answer.withPending (a : Answer) (q : List Instr) : Answer := { a with state := a.state.withPending q }

section
variable {s a a' : State} {q : List Instr} {c : Chan}

/-! ### Branches -/

theorem ite_eq_map {α β : Type} (g : α → β) {p : Prop} [Decidable p] {x y : α} {x' y' : β} (hx : x' = g x) (hy : y' = g y) :
    (if p then x' else y') = g (if p then x else y) := by
  split
  · exact hx
  · exact hy

theorem dite_eq_map {α β : Type} (g : α → β) {p : Prop} [Decidable p] {x : p → α} {y : α} {x' : p → β} {y' : β}
    (hx : ∀ h, x' h = g (x h)) (hy : y' = g y) : (if h : p then x' h else y') = g (if h : p then x h else y) := by
  split
  · exact hx _
  · exact hy

/-! ### Plan edits -/

theorem carryEdit_withPending (c : Chan) (old new : ChannelRec) :
    (s.withPending q).carryEdit c old new = (s.carryEdit c old new).withPending q :=
  withPending_ite (repositionEntry_withPending c) (withPending_ite (editUnthrottle_withPending c) rfl)

theorem editChannel_withPending (i : Nat) (body : List Byte) :
    (s.withPending q).editChannel i body = editWithPending (s.editChannel i body) q := by
  refine dite_eq_map (editWithPending · q) (fun h => ?_) rfl
  have hcrec : (s.withPending q).crec ⟨i, h⟩ = s.crec ⟨i, h⟩ := rfl
  dsimp only
  rw [hcrec]
  cases channelFromBody (s.crec ⟨i, h⟩) body with
  | none => rfl
  | some raw =>
    refine ite_eq_map (editWithPending · q) rfl (ite_eq_map (editWithPending · q) (ite_eq_map (editWithPending · q) rfl rfl) ?_)
    exact congrArg (·, Status.ok) (carryEdit_withPending (s := s.setCrec ⟨i, h⟩ raw.fields) _ _ _)

theorem editLevel_withPending (i : Nat) (body : List Byte) :
    (s.withPending q).editLevel i body = editWithPending (s.editLevel i body) q := by
  refine dite_eq_map (editWithPending · q) (fun h => ?_) rfl
  rw [State.withPending_plan]
  cases levelsFromBody s.plan.levels ⟨i, h⟩ body with
  | none => rfl
  | some t => exact ite_eq_map (editWithPending · q) rfl rfl

theorem editBattery_withPending (body : List Byte) :
    (s.withPending q).editBattery body = editWithPending (s.editBattery body) q := by
  unfold State.editBattery
  rw [State.withPending_plan]
  cases batteryFromBody s.plan.battery body with
  | none => rfl
  | some b => exact ite_eq_map (editWithPending · q) rfl rfl

theorem editOcv_withPending (body : List Byte) : (s.withPending q).editOcv body = editWithPending (s.editOcv body) q := by
  unfold State.editOcv
  rw [State.withPending_plan]
  cases ocvFromBody s.plan.ocv body with
  | none => rfl
  | some t => exact ite_eq_map (editWithPending · q) rfl rfl

theorem editTimer_withPending (i : Nat) (body : List Byte) :
    (s.withPending q).editTimer i body = editWithPending (s.editTimer i body) q := by
  refine dite_eq_map (editWithPending · q) (fun h => ?_) rfl
  dsimp only
  rw [State.withPending_plan]
  cases timerFromBody (s.plan.timers[(⟨i, h⟩ : TimerIx)]) body with
  | none => rfl
  | some raw => exact ite_eq_map (editWithPending · q) rfl rfl

theorem editAux_withPending (i : Nat) (body : List Byte) :
    (s.withPending q).editAux i body = editWithPending (s.editAux i body) q := by
  refine dite_eq_map (editWithPending · q) (fun h => ?_) rfl
  dsimp only
  rw [State.withPending_plan]
  cases auxFromBody (s.plan.aux[(⟨i, h⟩ : AuxIx)]) body with
  | none => rfl
  | some r => rfl

/-- R191: the Plan Store's part of an edit. -/
theorem planEdit_withPending (body : List Byte) {owner owner' : List Byte → State × Status}
    (h : ∀ rest, owner' rest = editWithPending (owner rest) q) :
    planEdit body (s.withPending q) owner' = editWithPending (planEdit body s owner) q := by
  refine ite_eq_map (editWithPending · q) rfl ?_
  rw [h]
  obtain ⟨t, x⟩ := owner (body.drop 2)
  cases x <;> rfl

/-- R181: the answer to an edit. -/
theorem editAnswer_withPending {x x' : State × Status} {acts acts' : State → State} (hx : x' = editWithPending x q)
    (h : ∀ t : State, acts' (t.withPending q) = (acts t).withPending q) :
    editAnswer x' acts' = (editAnswer x acts).withPending q := by
  rw [hx]
  exact congrArg (fun t => Answer.mk t x.2 (u16 x.1.plan.generation) x.1.summary) (withPending_ite (h x.1) rfl)

/-! ### The other owners -/

theorem ownConfigRead_withPending (body : List Byte) :
    ownConfigRead body (s.withPending q) = (ownConfigRead body s).withPending q := by
  unfold ownConfigRead
  dsimp only
  rcases (body.getD 0 0).toNat with _ | _ | _ | _ | _ | _ | k
  · exact dite_eq_map (Answer.withPending · q) (fun _ => rfl) rfl
  · exact dite_eq_map (Answer.withPending · q) (fun _ => rfl) rfl
  · rfl
  · rfl
  · exact dite_eq_map (Answer.withPending · q) (fun _ => rfl) rfl
  · exact dite_eq_map (Answer.withPending · q) (fun _ => rfl) rfl
  · rfl

/-- R132: an answer that is QUEUED, from the state ahead of the Planner. -/
theorem queuedReply_withPending (c : Chan) (ha : a' = a.withPending q) :
    queuedReply a' c ((s.withPending q).finish a' false) = (queuedReply a c (s.finish a false)).withPending q := by
  rw [finish_withPending ha, ha]
  rfl

theorem switchOnChannel_withPending (c : Chan) (forced : Bool) :
    switchOnChannel (s.withPending q) c forced = (switchOnChannel s c forced).withPending q := by
  have hchan : (s.withPending q).chan c = s.chan c := rfl
  refine ite_eq_map (Answer.withPending · q) rfl ?_
  rw [hchan]
  cases (s.chan c).state with
  | off => exact queuedReply_withPending c rfl
  | waiting => exact queuedReply_withPending c (withPending_ite (forceEntry_withPending c) rfl)
  | rundown =>
    refine congrArg (Answer.plain · .ok) (withPending_ite rfl rfl)
  | starting | on | throttled | tripped | locked | checking => rfl

theorem switchOffChannel_withPending (c : Chan) :
    switchOffChannel (s.withPending q) c = (switchOffChannel s c).withPending q := by
  unfold switchOffChannel
  dsimp only
  rw [finish_withPending (switchOff_withPending c), switchOff_withPending]
  rfl

theorem ownSwitch_withPending (body : List Byte) : ownSwitch body (s.withPending q) = (ownSwitch body s).withPending q := by
  refine dite_eq_map (Answer.withPending · q) (fun h => ?_) rfl
  have htaken : ((s.withPending q).noteOvertaken ⟨_, h⟩ ((body.getD 1 0).getLsbD 0 && (body.getD 1 0).getLsbD 1)).panelActivity
      ⟨_, h⟩ = ((s.noteOvertaken ⟨_, h⟩ ((body.getD 1 0).getLsbD 0 && (body.getD 1 0).getLsbD 1)).panelActivity
        ⟨_, h⟩).withPending q :=
    withPending_comp (f := (State.panelActivity · ⟨_, h⟩)) (fun _ => activity_withPending _) (noteOvertaken_withPending _ _)
  rw [htaken]
  exact ite_eq_map (Answer.withPending · q) (switchOnChannel_withPending _ _) (switchOffChannel_withPending _)

theorem ownReconnect_withPending : ownReconnect (s.withPending q) = (ownReconnect s).withPending q := by
  unfold ownReconnect
  rw [State.withPending_disc]
  cases s.disc.device with
  | start => rfl
  | run => exact ite_eq_map (Answer.withPending · q) rfl rfl
  | isolated =>
    refine ite_eq_map (Answer.withPending · q) rfl (ite_eq_map (Answer.withPending · q) ?_ rfl)
    exact congrArg (Answer.plain · .ok) (reconnect_withPending .request)

theorem ownIsolate_withPending : ownIsolate (s.withPending q) = (ownIsolate s).withPending q := by
  unfold ownIsolate
  rw [State.withPending_disc]
  cases s.disc.device with
  | start => rfl
  | run => exact ite_eq_map (Answer.withPending · q) rfl (congrArg (Answer.plain · .ok) (isolate_withPending .storage))
  | isolated => rfl

/-- R177: every owner. -/
theorem own_withPending (ty : ReqType) (body : List Byte) :
    ty.own body (s.withPending q) = (ty.own body s).withPending q := by
  cases ty with
  | status | notices | clearCauses | setCharge => rfl
  | channel => exact dite_eq_map (Answer.withPending · q) (fun _ => rfl) rfl
  | standbyPage => exact ite_eq_map (Answer.withPending · q) rfl rfl
  | configRead => exact ownConfigRead_withPending body
  | switch => exact ownSwitch_withPending body
  | clearLockout =>
    exact dite_eq_map (Answer.withPending · q) (fun _ => ite_eq_map (Answer.withPending · q) rfl rfl) rfl
  | check => exact dite_eq_map (Answer.withPending · q) (fun _ => ite_eq_map (Answer.withPending · q) rfl rfl) rfl
  | reconnect => exact ownReconnect_withPending
  | setChannel =>
    exact editAnswer_withPending (acts := fun t => s.finish t true) (acts' := fun t => (s.withPending q).finish t true)
      (planEdit_withPending body fun _ => editChannel_withPending _ _) fun _ => finish_withPending rfl _
  | setLevel =>
    exact editAnswer_withPending (acts := fun t => s.finish t (s.levelEditTells t))
      (acts' := fun t => (s.withPending q).finish t ((s.withPending q).levelEditTells t))
      (planEdit_withPending body fun _ => editLevel_withPending _ _) fun _ => finish_withPending rfl _
  | setBattery => exact editAnswer_withPending (planEdit_withPending body editBattery_withPending) fun _ => rfl
  | setOcv => exact editAnswer_withPending (planEdit_withPending body editOcv_withPending) fun _ => rfl
  | setTimer => exact editAnswer_withPending (planEdit_withPending body fun _ => editTimer_withPending _ _) fun _ => rfl
  | setAux => exact editAnswer_withPending (planEdit_withPending body fun _ => editAux_withPending _ _) fun _ => rfl
  | isolate => exact ownIsolate_withPending
  | save => exact ite_eq_map (Answer.withPending · q) rfl rfl
  | lockPlan => exact ite_eq_map (Answer.withPending · q) rfl rfl
  | restart => exact ite_eq_map (Answer.withPending · q) rfl rfl

end

end Sys2Proof.Machine
end

section
/-!
PROOF. No command reads or changes the queue (notes/assumptions/10.md and 20.md): the line, the events, and the dispatch.
-/

namespace Sys2Proof.Machine

section
variable {s a a' : State} {q : List Instr} {c : Chan}

/-! ### The line (09) -/

theorem handle_withPending (ty : Byte) (body : List Byte) :
    (s.withPending q).handle ty body = (s.handle ty body).withPending q := by
  refine ite_eq_map (Answer.withPending · q) rfl ?_
  cases reqTypeOf ty with
  | none => rfl
  | some t =>
    have hrefusal : t.refusal body (s.withPending q) = t.refusal body s := rfl
    dsimp only
    rw [hrefusal]
    cases t.refusal body s with
    | some x => rfl
    | none =>
      dsimp only
      rw [own_withPending]
      rfl

theorem takeRequest_withPending (src tag ty : Byte) (body : List Byte) :
    (s.withPending q).takeRequest src tag ty body = (s.takeRequest src tag ty body).withPending q := by
  have hhandle : ((s.withPending q).setRx .hold []).handle ty body = ((s.setRx .hold []).handle ty body).withPending q :=
    handle_withPending (s := s.setRx .hold []) ty body
  unfold State.takeRequest
  rw [hhandle]
  rfl

theorem arrive_withPending (p : Peer) (ty : Byte) (body : List Byte) :
    (s.withPending q).arrive p ty body = (s.arrive p ty body).withPending q :=
  withPending_ite rfl (withPending_ite rfl (takeRequest_withPending (s := s.setService p.service) _ _ ty body))

theorem frameComplete_withPending (buf : List Byte) :
    (s.withPending q).frameComplete buf = (s.frameComplete buf).withPending q := by
  unfold State.frameComplete
  cases parseFrame buf with
  | none => rfl
  | some f => exact withPending_ite (takeRequest_withPending _ _ _ _) rfl

theorem receiveByte_withPending (b : Byte) (err : Bool) :
    (s.withPending q).receiveByte b err = (s.receiveByte b err).withPending q := by
  unfold State.receiveByte
  rw [State.withPending_link]
  cases s.link.rx with
  | idle => exact withPending_ite rfl rfl
  | receiving =>
    exact withPending_ite rfl (withPending_ite rfl (withPending_ite (frameComplete_withPending _) rfl))
  | skip | hold => rfl

theorem frameRejected_withPending (frame : List Byte) :
    execFrameRejected frame s = .next a → execFrameRejected frame (s.withPending q) = .next (a.withPending q) := by
  unfold execFrameRejected
  cases parseFrame frame with
  | none =>
    rintro ⟨⟩
    rfl
  | some f =>
    rintro ⟨⟩
    exact congrArg Host.Outcome.next (withPending_ite rfl (withPending_ite rfl rfl))

theorem gapTimerExpiry_withPending :
    execGapTimerExpiry s = .next a → execGapTimerExpiry (s.withPending q) = .next (a.withPending q) := by
  unfold execGapTimerExpiry
  rw [State.withPending_link]
  rintro ⟨⟩
  refine congrArg Host.Outcome.next (withPending_ite ?_ rfl)
  cases s.link.rx <;> rfl

theorem replyStart_withPending :
    execReplyStart s = .next a → execReplyStart (s.withPending q) = .next (a.withPending q) := by
  unfold execReplyStart
  rw [State.withPending_link]
  rintro ⟨⟩
  cases s.link.reply <;> rfl

theorem replyComplete_withPending :
    execReplyComplete s = .next a → execReplyComplete (s.withPending q) = .next (a.withPending q) := by
  unfold execReplyComplete
  rw [State.withPending_link]
  rintro ⟨⟩
  cases s.link.reply <;> rfl

/-! ### The events -/

theorem sagComparatorSample_withPending :
    execSagComparatorSample s = .next a → execSagComparatorSample (s.withPending q) = .next (a.withPending q) := by
  unfold execSagComparatorSample
  rw [State.withPending_mail]
  rintro ⟨⟩
  cases s.mail.sag with
  | nil => rfl
  | cons vb rest =>
    exact congrArg Host.Outcome.next (comparatorTakes_withPending (s := { s with mail := { s.mail with sag := rest } }) vb)

theorem storeWriteComplete_withPending (matched : Bool) :
    execStoreWriteComplete matched s = .next a → execStoreWriteComplete matched (s.withPending q) = .next (a.withPending q) := by
  unfold execStoreWriteComplete
  rw [State.withPending_store]
  rintro ⟨⟩
  cases s.store.writing <;> rfl

theorem relayPulseEnd_withPending :
    execRelayPulseEnd s = .next a → execRelayPulseEnd (s.withPending q) = .next (a.withPending q) := by
  rintro ⟨⟩
  exact congrArg Host.Outcome.next (withPending_ite
    (withPending_ite (enterRun_withPending (s := { s with disc := { s.disc with pulse := none } })) rfl) rfl)

theorem stabilityPeriodEnd_withPending (n : AuxIx) :
    execStabilityPeriodEnd n s = .next a → execStabilityPeriodEnd n (s.withPending q) = .next (a.withPending q) := by
  rintro ⟨⟩
  exact congrArg Host.Outcome.next (withPending_ite
    (withPending_ite (transition_withPending (s := State.setAuxIn s n _) n _) rfl) rfl)

/-- Every command takes the queue along. -/
theorem exec_withPending (i : Instr) (h : exec i s = .next a) : exec i (s.withPending q) = .next (a.withPending q) := by
  cases i with
  | gapTimerExpiry => exact gapTimerExpiry_withPending h
  | frameRejected frame => exact frameRejected_withPending frame h
  | replyStart => exact replyStart_withPending h
  | replyComplete => exact replyComplete_withPending h
  | sagComparatorSample => exact sagComparatorSample_withPending h
  | storeWriteComplete matched => exact storeWriteComplete_withPending matched h
  | relayPulseEnd => exact relayPulseEnd_withPending h
  | stabilityPeriodEnd n => exact stabilityPeriodEnd_withPending n h
  | batterySample vb cur => cases h; exact congrArg Host.Outcome.next (takeBatterySample_withPending vb cur)
  | restSync vb cur | fullAnchor vb cur | emptyAnchor vb cur =>
    cases h
    exact congrArg Host.Outcome.next (withPending_ite (takeBatterySample_withPending vb cur) rfl)
  | reserveUpdate => cases h; exact congrArg Host.Outcome.next levelTakesNext_withPending
  | deepeningDwellComplete | easingDwellComplete =>
    cases h
    exact congrArg Host.Outcome.next (withPending_ite levelTakesNext_withPending rfl)
  | toleranceTimerExpiry => cases h; exact congrArg Host.Outcome.next (withPending_ite toleranceExpiry_withPending rfl)
  | recoveryTimerExpiry =>
    cases h
    exact congrArg Host.Outcome.next
      (withPending_ite (finish_withPending (releaseHeld_withPending (s := State.setSag s _)) true) rfl)
  | channelSample c m => cases h; exact congrArg Host.Outcome.next (finish_withPending (takeSample_withPending c _) false)
  | shortReport c =>
    cases h
    exact congrArg Host.Outcome.next (withPending_ite (finish_withPending (trip_withPending c .short) false) rfl)
  | rundownTimeout c =>
    cases h
    exact congrArg Host.Outcome.next
      (withPending_ite (finish_withPending (endRundown_withPending (s := State.push s _ _ _ _) c) false) rfl)
  | inrushWindowEnd c =>
    cases h
    exact congrArg Host.Outcome.next (withPending_ite (finish_withPending (endWindow_withPending c) false) rfl)
  | retryTimerExpiry c =>
    cases h
    exact congrArg Host.Outcome.next (withPending_ite (finish_withPending (s := s)
      (a := (s.setChan c { s.chan c with state := .waiting, retryTimer := none }).insertEntry c .retry false) rfl false) rfl)
  | goodRunTimerExpiry c | checkTimerExpiry c r => cases h; exact congrArg Host.Outcome.next (withPending_ite rfl rfl)
  | offTimerExpiry c =>
    cases h
    exact congrArg Host.Outcome.next
      (withPending_ite (finish_withPending (askSlot_withPending (s := State.setChan s c _) c) false) rfl)
  | onTimerExpiry c =>
    cases h
    exact congrArg Host.Outcome.next (withPending_ite (finish_withPending (endRun_withPending c) false) rfl)
  | excessTimerExpiry =>
    cases h
    exact congrArg Host.Outcome.next (withPending_ite (reevaluateThen_withPending (s := s.stopExcess) .expiry) rfl)
  | restoreQuietExpiry => cases h; exact congrArg Host.Outcome.next (withPending_ite (settle_withPending (s := s.stopQuiet) _ _) rfl)
  | idleTimerExpiry n =>
    cases h
    exact congrArg Host.Outcome.next
      (withPending_ite (idleExpiry_withPending n) (withPending_ite (overtakenExpiry_withPending n) rfl))
  | temperatureSample x valid | auxRawChange n level => cases h; rfl
  | disconnectReserveUpdate => cases h; exact congrArg Host.Outcome.next disconnectTakesNext_withPending
  | isolateDwellComplete | reconnectChargeComplete =>
    cases h
    exact congrArg Host.Outcome.next (withPending_ite disconnectTakesNext_withPending rfl)
  | restartReset => cases h; exact congrArg Host.Outcome.next (withPending_ite restart_withPending rfl)
  | powerOnReset straps service => cases h; exact congrArg Host.Outcome.next (powerOn_withPending straps service)
  | brownoutReset straps => cases h; exact congrArg Host.Outcome.next (brownout_withPending straps)
  | byteReceived b err service =>
    cases h
    exact congrArg Host.Outcome.next (receiveByte_withPending (s := s.setService service) b err)
  | unknownTypeRequest | status | channel | standbyPage | notices | configReadChannel | configReadLevel | configReadBattery
  | configReadOcv | configReadTimer | configReadAux | switchOn | switchOff | clearLockout | check | reconnect | clearCauses
  | setChannel | setLevel | setBattery | setOcv | setTimer | setAux | setCharge | isolate | save | lockPlan | restart =>
    cases h
    exact congrArg Host.Outcome.next (arrive_withPending _ _ _)

end

/-- Settles O3: a command that takes the queue along leaves its own. -/
theorem commandsLeaveTheQueue : Obligations.CommandsLeaveTheQueue := by
  intro i s t q h
  have hown : exec i s = .next (t.withPending s.pending) := exec_withPending (q := s.pending) i h
  have hsame : t = t.withPending s.pending := Host.Outcome.next.inj (h.symm.trans hown)
  have hqueue : t.pending = (t.withPending s.pending).pending := congrArg State.pending hsame
  exact ⟨hqueue, exec_withPending i h⟩

end Sys2Proof.Machine
end
